-- ==== Sys2Proof/Word.lean ====
section
/-! DEFINITION. The byte of the line and the one way a table of the block is changed at one place. -/

namespace Sys2Proof

/-- A byte of the line (R189). -/
abbrev Byte := BitVec 8

/-- The table `v` with its entry `i` changed by `f`. -/
def upd {α : Type} {n : Nat} (v : Vector α n) (i : Fin n) (f : α → α) : Vector α n :=
  v.set i (f v[i])

end Sys2Proof
end

