-- ==== Sys2Proof/Syntax.lean ====
section
/-! DEFINITION. The words of the manual: its numbered things, its named values, its settings, and `Instr`, one
constructor per row of spec/opcode_table.json. Constructors of a named value stand in the order of the table or list
that defines it, since R199 numbers them in that order. -/

namespace Sys2Proof

/-! ## Numbered things (00_scope.md, "Numbering") -/

/-- A strongroom zone; zone z of the manual (1 to 4) is `z - 1` here. "No zone" (0) is `none` of `Option Zone`. -/
abbrev Zone := Fin 4
abbrev DoorNo := Fin 8
abbrev ReaderNo := Fin 8
abbrev ChannelNo := Fin 16
abbrev InputNo := Fin 48
abbrev StaffNo := Fin 16
abbrev OutputNo := Fin 8
abbrev CircuitNo := Fin 16
abbrev ScheduleNo := Fin 16
/-- An alarm source; source n of the manual (1 to 115) is `n - 1` here. "No source" (0) is `none`. -/
abbrev Source := Fin 115

/-! ## Named values: field side (chapters 1 to 4) -/

/-- Electrical level of a digital input (R2). -/
inductive Level | high | low
  deriving DecidableEq, Repr

/-- Conditioning mode of an input (R2). -/
inductive InputMode | follow | latch
  deriving DecidableEq, Repr

/-- The six conditioning phases (section 1.1). -/
inductive Phase | idle | debounceOn | validate | on | debounceOff | latched
  deriving DecidableEq, Repr

/-- Detector loop (R9). -/
inductive Loop | a | b
  deriving DecidableEq, Repr

/-- Fault flag of a detector channel (R11): clear, OPEN or SHORT. -/
inductive FaultFlag | clear | openWire | shortWire
  deriving DecidableEq, Repr

/-- Held detection state of a zone, in the order of the table of R15. -/
inductive Detection | confirmed | firstKnock | quiet
  deriving DecidableEq, Repr

/-- The twelve release states (R20), in the order of the state table of chapter 2. -/
inductive ReleaseState
  | normal | alerted | disabled | countdown | abortHeld | doorHold | occupiedHold | discharge | soak | soakDone | vent
  | cleared
  deriving DecidableEq, Repr

/-- Abort mode (R19). -/
inductive AbortMode | restart | resume
  deriving DecidableEq, Repr

/-- Occupied release (R19). -/
inductive OccupiedRelease | auto | manualOnly
  deriving DecidableEq, Repr

/-- A release bank (R20); the firing bank NONE is `none` of `Option Bank`. -/
inductive Bank | main | reserve
  deriving DecidableEq, Repr

/-- Reason of a SOAK_LOSS record (R58). -/
inductive SoakReason | reserveAbsent | reserveUsed | reserveFlagged | autoOff
  deriving DecidableEq, Repr

/-- Lock kind (R66). -/
inductive LockKind | strike | motorBolt
  deriving DecidableEq, Repr

/-- Fail mode (R66, R67). -/
inductive FailMode | secure | safe
  deriving DecidableEq, Repr

/-- Custody rule (R66). -/
inductive CustodyRule | never | afterHours | always
  deriving DecidableEq, Repr

/-- What a strike's lock output does (R67): holding the strike energized keeps the door locked. -/
inductive LockOutput | energized | dropped
  deriving DecidableEq, Repr

/-- The eight door states of R68, and the starting phase of R92. -/
inductive DoorState
  | secured | releasing | released | opened | held | forced | securing | boltFault | starting
  deriving DecidableEq, Repr

/-- Value of a release mark (R69); an absent mark is `none`. -/
inductive Mark | ordinary | override
  deriving DecidableEq, Repr

/-- Direction of a pass or of a reader. -/
inductive Direction | entry | exit
  deriving DecidableEq, Repr

/-- A pass: a pending permission held by a door (R68). -/
structure Pass where
  cred : Nat
  dir : Direction
  deriving DecidableEq, Repr

/-- A bolt motion (R82). -/
inductive Motion | throw | withdraw
  deriving DecidableEq, Repr

/-- A bolt time that runs out: the door and the motion it times (R85, R86). -/
structure BoltTime where
  door : DoorNo
  motion : Motion
  deriving DecidableEq, Repr

/-- Class of a bolt request, highest first (R82). -/
inductive BoltClass | egress | relock | access
  deriving DecidableEq, Repr

/-- Action of a DOOR_COMMAND (R81). -/
inductive DoorAction | free | auto | pulse | retry
  deriving DecidableEq, Repr

/-! ## Named values: people and time (chapters 5 to 7) -/

/-- Role of a credential (R93). -/
inductive Role | custodian | conservator | guard | contractor
  deriving DecidableEq, Repr

/-- Access mode of a zone (R105). -/
inductive ZoneMode | auto | forceDay | forceAfterHours | lockdown
  deriving DecidableEq, Repr

/-- Period of a zone (R106). -/
inductive Period | day | afterHours
  deriving DecidableEq, Repr

/-- How the clock moved at a SET_TIME (R99). -/
inductive ClockMove | first | forward | backward | same
  deriving DecidableEq, Repr

/-- Validity verdict (R97). -/
inductive Verdict | clock | notYetValid | expired | valid
  deriving DecidableEq, Repr

/-- PIN policy of a reader (R109). -/
inductive PinPolicy | never | afterHours | always
  deriving DecidableEq, Repr

/-- Passback mode (R110). -/
inductive Passback | hard | soft | off
  deriving DecidableEq, Repr

/-- Refusal codes 1 to 22 (R200), in the order of their numbers. -/
inductive RefusalCode
  | readerLocked | unknown | suspended | clock | notYetValid | expired | noDoor | schedule | lockdown | suppression
  | pinRequired | noPin | badPin | doorFault | passback | full | escort | custodySameHolder | custodyRole | interlock
  | lockout | passbackSoft
  deriving DecidableEq, Repr

/-- Kind of a staff channel (R131). -/
inductive StaffKind | audible | silent | checkIn
  deriving DecidableEq, Repr

/-- Mode of an annunciator output (R140). -/
inductive OutputMode | latched | live
  deriving DecidableEq, Repr

/-! ## Named values: alarms, line supervision, journal, link (chapters 8 to 11) -/

/-- Kind of an alarm source (R147). -/
inductive SourceKind | edge | level
  deriving DecidableEq, Repr

/-- State of a test run (R170). -/
inductive RunState | running | done | aborted
  deriving DecidableEq, Repr

/-- Kind of a test run (R170). -/
inductive RunKind | host | periodic | powerOn
  deriving DecidableEq, Repr

/-- Supply result of a test run (R170). -/
inductive SupplyResult | waiting | testing | passed | failed | notReached
  deriving DecidableEq, Repr

/-- Result of a circuit in a test run (R170). -/
inductive CircuitResult
  | notInRun | waiting | testingShort | testingOpen | passed | shortFound | openFound | skippedFlagged | skippedOn
  | skippedSupply | interrupted | notReached
  deriving DecidableEq, Repr

/-- A check of a test run: of the supply, or a circuit's SHORT or OPEN check (R169, R172, R174). -/
inductive CheckInProgress
  | supply | short (c : CircuitNo) | opened (c : CircuitNo)
  deriving DecidableEq, Repr

/-- The end of a test step: the check that the step makes, and whether it shows its fault (R172, R174). -/
structure StepEnd where
  check : CheckInProgress
  faulty : Bool
  deriving DecidableEq, Repr

/-- The 27 record kinds, in the order of the table of section 10.2. -/
inductive RecordKind
  | grant | refuse | custodyFirst | passUsed | passUnused | passDropped | rexExit | rexRefused | unlistedExit | forced
  | held | boltFault | zoneState | release | firingFailed | occupantAtDischarge | soakLoss | manualIgnored | staff
  | duress | lone | lineResult | clockSet | powerOn | restart | config | credential
  deriving DecidableEq, Repr

/-- What the detail of a record says (section 10.2, R200). The byte it is sent as is `Detail.code`. -/
inductive Detail
  | blank
  | single | pair
  | refusal (c : RefusalCode)
  | direction (d : Direction) | listFull | custody
  | motion (m : Motion) | recovered
  | state (z : ReleaseState) | ventForced
  | bank (b : Bank)
  | certain | uncertain
  | reason (r : SoakReason)
  | staff (k : StaffKind)
  | lineShort | lineOpen | lineSupply | lineDone | lineAborted
  | clock (m : ClockMove)
  | stored | erased
  | door (a : DoorAction) | confirm | remove | silence | clear
  | mode (m : ZoneMode)
  | value (n : Nat)
  | kind (code : Nat)
  | added | replaced | revoked
  deriving DecidableEq, Repr

/-- One journal record (R182). -/
structure Record where
  sequence : Nat
  day : Nat
  second : Nat
  kind : RecordKind
  subject : Nat
  cred : Nat
  detail : Detail
  deriving DecidableEq, Repr

/-- Status of a reply (section 11.5). -/
inductive Status | ok | adjusted | unknownKind | length | param | state | full | notFound
  deriving DecidableEq, Repr

/-! ## Stored settings -/

/-- Input settings (R2). -/
structure InputSettings where
  active : Level
  debounce : Nat
  validation : Nat
  deriving DecidableEq, Repr

/-- Detector settings (R9). -/
structure DetectorSettings where
  zone : Option Zone
  loop : Loop
  threshold : Nat
  hysteresis : Nat
  deriving DecidableEq, Repr

/-- Every setting of a zone (R19, R48, R105, R110, R136). -/
structure ZoneSettings where
  countdown : Nat
  manualDelay : Nat
  abortMode : AbortMode
  doorHoldMax : Nat
  occupiedRelease : OccupiedRelease
  occupancyHoldMax : Nat
  firingTime : Nat
  reservePresent : Bool
  reserveAuto : Bool
  singleKnock : Bool
  soakConstant : Nat
  ventConstant : Nat
  doorConstant : Nat
  holdThreshold : Nat
  reentryThreshold : Nat
  minimumSoak : Nat
  reserveFraction : Nat
  custodyWindow : Nat
  passback : Passback
  loneTime : Nat
  openingSchedule : ScheduleNo
  deriving DecidableEq, Repr

/-- Door settings (R66); interlock group 0 is none. The motion-slot count is drive-wide and stands beside them. -/
structure DoorSettings where
  inside : Option Zone
  outside : Option Zone
  lock : LockKind
  fail : FailMode
  unlockWindow : Nat
  heldTime : Nat
  boltTime : Nat
  group : Nat
  custody : CustodyRule
  deriving DecidableEq, Repr

/-- Reader settings (R109). -/
structure ReaderSettings where
  door : DoorNo
  direction : Direction
  policy : PinPolicy
  deriving DecidableEq, Repr

/-- Staff channel settings (R131). -/
structure StaffSettings where
  zone : Option Zone
  kind : StaffKind
  deriving DecidableEq, Repr

/-- Annunciator output settings (R140). -/
structure OutputSettings where
  sources : List Source
  mode : OutputMode
  silenceable : Bool
  deriving DecidableEq, Repr

/-- Priority and enable of an alarm source (R147). -/
structure SourceSettings where
  priority : Nat
  enabled : Bool
  deriving DecidableEq, Repr

/-- One interval of a schedule (R101): bit n of the day set is the n-th of MONDAY to SUNDAY, HOLIDAY. -/
structure Interval where
  days : BitVec 8
  start : Nat
  stop : Nat
  deriving DecidableEq, Repr

/-- A credential record (R93); an absent date is 0, an absent PIN the empty list. -/
structure Credential where
  number : Nat
  holder : Nat
  role : Role
  doors : BitVec 8
  schedule : ScheduleNo
  pin : List Nat
  validFrom : Nat
  validUntil : Nat
  escortRequired : Bool
  suspended : Bool
  deriving DecidableEq, Repr

/-! ## What the messages carry, as plain numbers -/

/-- The payload fields of SET_ZONE (R19, R48, R110, R136, R105), named values as their codes (R199). -/
structure ZoneRequest where
  zone : Nat
  countdown : Nat
  manualDelay : Nat
  abortMode : Nat
  doorHoldMax : Nat
  occupiedRelease : Nat
  occupancyHoldMax : Nat
  firingTime : Nat
  reservePresent : Nat
  reserveAuto : Nat
  singleKnock : Nat
  soakConstant : Nat
  ventConstant : Nat
  doorConstant : Nat
  holdThreshold : Nat
  reentryThreshold : Nat
  minimumSoak : Nat
  reserveFraction : Nat
  custodyWindow : Nat
  passback : Nat
  loneTime : Nat
  openingSchedule : Nat
  deriving DecidableEq, Repr

/-- The payload fields of SET_DOOR (R66). -/
structure DoorRequest where
  door : Nat
  inside : Nat
  outside : Nat
  lock : Nat
  fail : Nat
  unlockWindow : Nat
  heldTime : Nat
  boltTime : Nat
  group : Nat
  custody : Nat
  slots : Nat
  deriving DecidableEq, Repr

/-- One interval as SET_SCHEDULE carries it (R101). -/
structure IntervalRequest where
  days : BitVec 8
  start : Nat
  stop : Nat
  deriving DecidableEq, Repr

/-- The record ENROL carries (R93, R200): six digit places, of which the first `pinLength` count. -/
structure CredentialRequest where
  number : Nat
  holder : Nat
  role : Nat
  doors : BitVec 8
  schedule : Nat
  escortRequired : Bool
  suspended : Bool
  pinLength : Nat
  digits : List Nat
  validFrom : Nat
  validUntil : Nat
  deriving DecidableEq, Repr

/-! ## The commands -/

/-- One constructor per row of spec/opcode_table.json, in the table's order. An operand that names a thing of the
field side has exactly the values that exist; an operand a message carries is a plain number (or a set of items as a
number, item n in bit n, R199). The end of a test step names the check that the step makes and the expiry of a bolt time
the motion that it times, so that one that comes late is known (notes/assumptions/30.md). -/
inductive Instr
  | powerOn (straps : BitVec 5) (levels : BitVec 48)
  | rawLevelChange (input : InputNo) (level : Level)
  | debounceExpiry (input : InputNo)
  | validationExpiry (input : InputNo)
  | detectorSample (channel : ChannelNo) (value : BitVec 12)
  | countdownIntervalExpiry (zone : Zone)
  | doorHoldExpiry (zone : Zone)
  | occupancyHoldExpiry (zone : Zone)
  | firingTimerExpiry (zone : Zone)
  | estimatorStep (zone : Zone)
  | unlockWindowExpiry (door : DoorNo)
  | heldTimerExpiry (door : DoorNo)
  | boltTimeExpiry (time : BoltTime)
  | presentation (reader : ReaderNo) (credential : Nat) (digits : List Nat)
  | lockoutExpiry (reader : ReaderNo)
  | custodyWindowExpiry (door : DoorNo)
  | minuteBoundary
  | loneTimerExpiry (zone : Zone)
  | testStepEnd (step : StepEnd)
  | periodicTimerExpiry
  | currentArrival (circuit : Fin 8)
  | receiveByte (byte : Byte)
  | receiveTimeoutExpiry
  | sendReply
  | slotAnswer
  | unknownKind (kind : Byte)
  | echo (payload : List Byte)
  | identify
  | restart
  | whoCalls
  | whoCallsAddressed
  | setTime (broadcast : Bool) (day second : Nat)
  | getTime
  | setLink (timeout interval : Nat)
  | setInput (input level debounce validation : Nat)
  | setDetector (channel zone loop threshold hysteresis : Nat)
  | setZone (request : ZoneRequest)
  | setDoor (request : DoorRequest)
  | setReader (reader door direction policy : Nat)
  | setStaff (channel zone kind : Nat)
  | setOutput (output : Nat) (sources : List Nat) (mode silenceable : Nat)
  | setSource (first last priority enable : Nat)
  | setThreshold (threshold : Nat)
  | setSchedule (schedule : Nat) (intervals : List IntervalRequest)
  | setHolidays (days : List Nat)
  | getConfig (kind item : Nat)
  | enrol (request : CredentialRequest)
  | revoke (number : Nat)
  | lookupExact (number : Nat)
  | lookupNext (number : Nat)
  | credentialCount
  | zoneMode (zone mode : Nat)
  | zoneDisable (zone : Nat)
  | zoneEnable (zone : Nat)
  | vent (zone : Nat) (force : Bool)
  | reserveRelease (zone : Nat)
  | zoneReset (zone : Nat)
  | zoneStatus (zone : Nat)
  | detectorRead (channel : Nat) (clearPeak : Bool)
  | doorCommandFree (door : Nat)
  | doorCommandAuto (door : Nat)
  | doorCommandPulse (door : Nat)
  | doorCommandRetry (door : Nat)
  | doorStatus (door : Nat)
  | occupancyRead (zone : Nat)
  | occupancyConfirm (zone : Nat)
  | occupancyRemove (zone credential : Nat)
  | inputClear (selection : Nat)
  | inputStatus
  | claim
  | peek
  | complete (source : Nat)
  | alarmStatus
  | silence (selection : Nat)
  | lineTest (selection : Nat)
  | lineStatus
  | lineClear (selection : Nat)
  | journalRead (start count : Nat)
  | journalAck (sequence : Nat)
  | clockSecond
  deriving DecidableEq, Repr

end Sys2Proof
end

