-- ==== Sys2Proof/Config.lean ====
section
/-! DEFINITION. What the manual leaves to the implementation, as constants without a body: no proof can see their
values, so every claim holds whatever they are. -/

namespace Sys2Proof

/-- The bytes of IDENTIFY's part code (R196 names the field and gives no value; notes/assumptions/9.md). -/
opaque Config.partCode : List Byte

/-- IDENTIFY's firmware release, major and minor (R196; notes/assumptions/9.md). -/
opaque Config.firmware : Byte × Byte

/-- Whether LINE_STATUS rounds the minutes left on the periodic timer up (R180 does not say;
notes/assumptions/10.md). -/
opaque Config.minutesRoundUp : Bool

/-- A free value: the milliseconds left in a line-test step at the n-th LINE_STATUS that reports them (R180;
notes/assumptions/10.md). `Machine.millisecondsLeft` keeps it within the 250 ms of R169. -/
opaque Config.stepMilliseconds : Nat → Nat

/-- The codes of the CONFIG details CONFIRM, REMOVE, SILENCE and CLEAR, in this order (R126, R142 and R176 name them
and no list numbers them; notes/assumptions/8.md). -/
opaque Config.actionCode : Fin 4 → Byte

end Sys2Proof
end

