-- ==== Sys2Proof/Machine/State.lean ====
section
/-! DEFINITION. The state of the block: every piece of state the manual gives each of its sub-blocks, the replies it
builds, and the state right after reset. A timer is `none` while it is stopped and `some n` while it runs, n being the
whole seconds left (notes/assumptions/3.md). -/

namespace Sys2Proof.Machine

/-! ## Replies -/

/-- What ZONE_STATUS says of the holds (R45). -/
inductive HoldReport
  | idle | doorHold (left : Nat) | occupancyHold (left : Nat) | expired
  deriving DecidableEq, Repr

/-- The fields of a ZONE_STATUS reply (R45). -/
structure ZoneReport where
  state : ReleaseState
  detection : Detection
  abort : Bool
  manual : Bool
  remaining : Nat
  hold : HoldReport
  egress : Bool
  firing : Option Bank
  firingLeft : Nat
  mainUsed : Bool
  reserveUsed : Bool
  mainAvailable : Bool
  reserveAvailable : Bool
  impaired : Bool
  estimate : Nat
  steps : Nat
  doorOpened : Bool
  soakLoss : Bool
  deriving DecidableEq, Repr

/-- The fields of a DETECTOR_READ reply (R13). -/
structure ChannelReport where
  last : Nat
  alarm : Bool
  fault : FaultFlag
  arming : Nat
  peak : Nat
  deriving DecidableEq, Repr

/-- A request in the bolt queue (R82). -/
structure BoltRequest where
  motion : Motion
  cls : BoltClass
  deriving DecidableEq, Repr

/-- A motion in progress, with the seconds of bolt time left (R85). -/
structure InMotion where
  motion : Motion
  left : Nat
  deriving DecidableEq, Repr

/-- The fields of a DOOR_STATUS reply (R77). -/
structure DoorReport where
  state : DoorState
  contact : Bool
  bolt : Bool
  egress : Bool
  free : Bool
  mark : Option Mark
  passes : List Pass
  window : Option Nat
  heldTimer : Option Nat
  heldCondition : Bool
  boltCondition : Bool
  queued : Option BoltRequest
  motion : Option InMotion
  slots : Nat
  motionsInProgress : Nat
  requestsQueued : Nat
  gateClosed : Bool
  deriving DecidableEq, Repr

/-- One input's line of an INPUT_STATUS reply (R8). -/
structure InputReport where
  raw : Level
  rawActive : Bool
  active : Bool
  phase : Phase
  mode : InputMode
  deriving DecidableEq, Repr

/-- What CLAIM and PEEK return of a source (R153). -/
structure AlarmReport where
  source : Source
  priority : Nat
  kind : SourceKind
  condition : Bool
  deriving DecidableEq, Repr

/-- The fields of an ALARM_STATUS reply (R165). -/
structure AlarmStatusReport where
  threshold : Nat
  level : Nat
  driven : Bool
  suppressed : Bool
  inService : List (Source × Nat)
  pending : Vector Bool 115
  conditions : Vector Bool 115
  eligible : Vector Bool 115
  outputsOn : Vector Bool 8
  outputsSilenced : Vector Bool 8
  deriving DecidableEq, Repr

/-- The SHORT and OPEN flags of a circuit (R168). -/
structure CircuitFlags where
  shortFlag : Bool
  openFlag : Bool
  deriving DecidableEq, Repr

/-- The run record (R170). A circuit is in the run set exactly when its result is not NOT_IN_RUN. -/
structure RunRecord where
  state : RunState
  kind : RunKind
  supply : SupplyResult
  results : Vector CircuitResult 16
  deriving DecidableEq, Repr

/-- The fields of a LINE_STATUS reply (R180). -/
structure LineReport where
  run : RunRecord
  check : Option CheckInProgress
  millisecondsLeft : Nat
  flags : Vector CircuitFlags 16
  supplyFlag : Bool
  interval : Nat
  minutesLeft : Option Nat
  checks : Vector (Option Bool) 8
  outputsOn : Vector Bool 8
  deriving DecidableEq, Repr

/-- The fields of a GET_TIME reply (R100). Weekday and effective day are NONE while the clock is unset; they count
MONDAY as 0, and HOLIDAY is 7. -/
structure TimeReport where
  set : Bool
  day : Nat
  second : Nat
  weekday : Option Nat
  effectiveDay : Option Nat
  active : Vector Bool 16
  zones : Vector (ZoneMode × Period) 4
  deriving DecidableEq, Repr

/-- The payload of a reply, by its named fields. -/
inductive ReplyBody
  | empty
  | bytes (b : List Byte)
  | identity (stored : Bool) (node : BitVec 5) (uptime : Nat)
  | time (t : TimeReport)
  | link (timeout interval : Nat)
  | input (i : InputNo) (v : InputSettings)
  | detector (c : ChannelNo) (v : DetectorSettings)
  | zone (z : Zone) (v : ZoneSettings)
  | door (n : DoorNo) (v : DoorSettings) (slots : Nat)
  | reader (r : ReaderNo) (v : ReaderSettings)
  | staff (n : StaffNo) (v : StaffSettings)
  | output (o : OutputNo) (v : OutputSettings)
  | source (first last : Source) (v : SourceSettings)
  | threshold (n : Nat)
  | schedule (k : ScheduleNo) (v : List Interval)
  | holidays (days : List Nat)
  | credential (c : Credential)
  | count (n : Nat)
  | zoneMode (m : ZoneMode) (p : Period)
  | zoneReport (v : ZoneReport)
  | channelReport (v : ChannelReport)
  | doorReport (v : DoorReport)
  | occupancy (certain : Bool) (list : List Nat)
  | latched (inputs : List InputNo)
  | inputs (v : Vector InputReport 48)
  | alarm (v : Option AlarmReport)
  | completed (s : Source) (level : Nat)
  | alarmStatus (v : AlarmStatusReport)
  | lineReport (v : LineReport)
  | lineFlags (flags : Vector CircuitFlags 16) (supply : Bool)
  | journal (gap : Bool) (records : List Record)
  | journalPosition (newest oldest boundary backlog : Nat)
  | calling (driven suppressed : Bool) (v : Option AlarmReport)
  deriving DecidableEq, Repr

/-- A reply that is still to be sent (R192, R193): the request's kind code, the status and the payload. -/
structure Reply where
  kind : Byte
  status : Status
  body : ReplyBody
  deriving DecidableEq, Repr

/-! ## The state of each sub-block -/

/-- What the sequencer keeps in non-volatile store of a zone (R46). The bank-used flags have no other home. -/
structure ZoneRecord where
  state : ReleaseState
  mainUsed : Bool
  reserveUsed : Bool
  deriving DecidableEq, Repr

/-- The settings in non-volatile store (R194). -/
structure Store where
  written : Bool
  inputs : Vector InputSettings 48
  detectors : Vector DetectorSettings 16
  zones : Vector ZoneSettings 4
  records : Vector ZoneRecord 4
  doors : Vector DoorSettings 8
  slots : Nat
  credentials : List Credential
  schedules : Vector (List Interval) 16
  holidays : List Nat
  modes : Vector ZoneMode 4
  readers : Vector ReaderSettings 8
  staff : Vector StaffSettings 16
  outputs : Vector OutputSettings 8
  sources : Vector SourceSettings 115
  threshold : Nat
  receiveTimeout : Nat
  testInterval : Nat
  deriving DecidableEq, Repr

/-- The journal (R182), all of it non-volatile. The ring is oldest first. -/
structure Journal where
  ring : List Record
  newest : Nat
  boundary : Nat
  deriving DecidableEq, Repr

/-- A digital input (R3, R8): `first` says that it has given its first conditioned value. -/
structure InputState where
  raw : Level
  phase : Phase
  first : Bool
  deriving DecidableEq, Repr

/-- A detector channel (R10 to R13). -/
structure Channel where
  last : Nat
  arming : Nat
  latch : Bool
  outRun : Nat
  inRun : Nat
  fault : FaultFlag
  peak : Nat
  deriving DecidableEq, Repr

/-- A bank being fired, with the seconds of firing left (R36). -/
structure Firing where
  bank : Bank
  left : Nat
  deriving DecidableEq, Repr

/-- The release sequencer's state of a zone (R20). -/
structure Release where
  state : ReleaseState
  remaining : Nat
  interval : Bool
  manual : Bool
  doorHold : Option Nat
  occupancyHold : Option Nat
  firing : Option Firing
  deriving DecidableEq, Repr

/-- The agent estimator's state of a zone (R49, R52). -/
structure Estimate where
  level : Nat
  steps : Nat
  doorOpened : Bool
  soakLoss : Bool
  timer : Option Nat
  deriving DecidableEq, Repr

/-- The door controller's state of a door (R68, R75, R76). -/
structure Door where
  state : DoorState
  egress : Bool
  free : Bool
  passes : List Pass
  mark : Option Mark
  window : Option Nat
  heldTimer : Option Nat
  deriving DecidableEq, Repr

/-- The clock (R98). -/
structure Clock where
  set : Bool
  day : Nat
  second : Nat
  deriving DecidableEq, Repr

/-- A reader's bad-PIN count and lockout (R115). -/
structure Reader where
  bad : Nat
  lockout : Option Nat
  deriving DecidableEq, Repr

/-- An open custody window (R119). -/
structure CustodyWindow where
  cred : Nat
  holder : Nat
  role : Role
  zone : Zone
  left : Nat
  deriving DecidableEq, Repr

/-- The occupancy list and certainty flag of a zone (R122). -/
structure Occupancy where
  list : List Nat
  certain : Bool
  deriving DecidableEq, Repr

/-- The alarm controller's volatile state (R147, R152, R162). -/
structure Alarm where
  pending : Vector Bool 115
  condition : Vector Bool 115
  inService : List Source
  suppressed : Bool
  deriving DecidableEq, Repr

/-- An annunciator output (R141, R142). -/
structure Output where
  silenced : Bool
  on : Bool
  deriving DecidableEq, Repr

/-- The line supervisor's volatile state (R168, R170, R178, R179). -/
structure Line where
  flags : Vector CircuitFlags 16
  supply : Bool
  run : RunRecord
  periodic : Option Nat
  checks : Vector (Option Bool) 8
  deriving DecidableEq, Repr

/-- The receive framer (R190): in BODY with the bytes received so far, oldest first. -/
inductive Framer
  | waiting
  | header (addr : Byte)
  | body (addr len : Byte) (received : List Byte)
  deriving DecidableEq, Repr

/-- The link interface's state (R163, R190 to R192, R196). -/
structure Link where
  node : BitVec 5
  framer : Framer
  limit : Nat
  timing : Bool
  slot : Option Bool
  reply : Option Reply
  sent : List Byte
  uptime : Nat
  foundStored : Bool
  deriving DecidableEq, Repr

/-- The whole block. `pending` is the queue of commands that wait, `free` the counter that free values are drawn from
(notes/assumptions/10.md), `loneOutrun` says of a zone that its lone timer was stopped and no second has passed since
(notes/assumptions/29.md). -/
structure State where
  pending : List Instr
  free : Nat
  store : Store
  journal : Journal
  inputs : Vector InputState 48
  channels : Vector Channel 16
  detection : Vector Detection 4
  release : Vector Release 4
  estimate : Vector Estimate 4
  doors : Vector Door 8
  queue : Vector (Option BoltRequest) 8
  motions : Vector (Option InMotion) 8
  gateClosed : Bool
  clock : Clock
  period : Vector Period 4
  readers : Vector Reader 8
  custody : Vector (Option CustodyWindow) 8
  occupancy : Vector Occupancy 4
  loneTimer : Vector (Option Nat) 4
  loneOutrun : Vector Bool 4
  alarm : Alarm
  outputs : Vector Output 8
  line : Line
  link : Link
  deriving DecidableEq, Repr

/-! ## Why a step could stop -/

/-- No rule of the manual stops the block, so no meaning raises a fault. -/
inductive Fault
  /-- Raised by no meaning; here because the interface names a fault type. Safe: it is never answered. -/
  | stopped
  deriving DecidableEq, Repr

/-- No command is refused. -/
inductive Refusal
  /-- Raised only by an arm of exec for a command without a meaning; there is none. Safe. -/
  | notModelled (mnemonic : String)
  deriving DecidableEq, Repr

/-! ## Reset -/

/-- Defaults of SET_ZONE's settings (R19, R48, R110, R136, R105). -/
def ZoneSettings.default : ZoneSettings where
  countdown := 30
  manualDelay := 10
  abortMode := .restart
  doorHoldMax := 30
  occupiedRelease := .manualOnly
  occupancyHoldMax := 180
  firingTime := 5
  reservePresent := true
  reserveAuto := true
  singleKnock := false
  soakConstant := 33
  ventConstant := 3277
  doorConstant := 1311
  holdThreshold := 8500
  reentryThreshold := 300
  minimumSoak := 60
  reserveFraction := 6000
  custodyWindow := 20
  passback := .soft
  loneTime := 30
  openingSchedule := 0

/-- Defaults of SET_DOOR's settings (R66). -/
def DoorSettings.default : DoorSettings where
  inside := none
  outside := none
  lock := .strike
  fail := .secure
  unlockWindow := 8
  heldTime := 60
  boltTime := 8
  group := 0
  custody := .never

/-- Default priority of a source (R148). -/
def defaultPriority (s : Source) : Nat :=
  if s.val < 8 then 7                                   -- FIRE, DISCHARGE
  else if 12 ≤ s.val ∧ s.val < 16 then 5                -- SOAK_LOSS
  else if 16 ≤ s.val ∧ s.val < 20 then 7                -- OCCUPANT
  else if 32 ≤ s.val ∧ s.val < 48 then 6                -- STAFF
  else if 48 ≤ s.val ∧ s.val < 56 then 7                -- DURESS
  else if 56 ≤ s.val ∧ s.val < 64 then 5                -- FORCED
  else 3

/-- What an erased store gives (R194): every default of every chapter. -/
def Store.erased : Store where
  written := false
  inputs := Vector.replicate 48 ⟨.high, 5, 0⟩
  detectors := Vector.replicate 16 ⟨none, .a, 2400, 200⟩
  zones := Vector.replicate 4 ZoneSettings.default
  records := Vector.replicate 4 ⟨.normal, false, false⟩
  doors := Vector.replicate 8 DoorSettings.default
  slots := 2
  credentials := []
  schedules := Vector.replicate 16 []
  holidays := []
  modes := Vector.replicate 4 .auto
  readers := Vector.ofFn fun n => ⟨n, .entry, .afterHours⟩
  staff := Vector.replicate 16 ⟨none, .audible⟩
  outputs := Vector.replicate 8 ⟨[], .latched, true⟩
  sources := Vector.ofFn fun s => ⟨defaultPriority s, true⟩
  threshold := 0
  receiveTimeout := 50
  testInterval := 60

/-- An empty journal (R182). -/
def Journal.erased : Journal := ⟨[], 0, 0⟩

/-- A channel at power-on (R18). -/
def Channel.fresh : Channel := ⟨0, 0, false, 0, 0, .clear, 0⟩

/-- A zone's sequencer state in `st` with nothing running (R47). -/
def Release.fresh (st : ReleaseState) : Release := ⟨st, 0, false, false, none, none, none⟩

/-- An estimate that does not exist (R49). -/
def Estimate.absent : Estimate := ⟨0, 0, false, false, none⟩

/-- A door with no flag, pass, mark or timer (R91). -/
def Door.fresh (st : DoorState) : Door := ⟨st, false, false, [], none, none, none⟩

/-- The run record of a run that starts over the circuits `set` selects (R170). -/
def RunRecord.fresh (kind : RunKind) (set : CircuitNo → Bool) : RunRecord where
  state := .running
  kind := kind
  supply := .testing
  results := Vector.ofFn fun c => if set c then .waiting else .notInRun

/-- The state right after reset: the first POWER_ON of a part with an erased store, address straps reading 1 and every
input LOW (notes/assumptions/1.md). Source 114 (CLOCK) is true and pending (R166); the journal holds the POWER_ON
record and one ZONE_STATE record per zone (R187, R47). -/
def State.reset : State where
  pending := []
  free := 0
  store := { Store.erased with written := true }
  journal :=
    { ring :=
        [⟨1, 0, 0, .powerOn, 0, 0, .erased⟩, ⟨2, 0, 0, .zoneState, 1, 0, .state .normal⟩,
         ⟨3, 0, 0, .zoneState, 2, 0, .state .normal⟩, ⟨4, 0, 0, .zoneState, 3, 0, .state .normal⟩,
         ⟨5, 0, 0, .zoneState, 4, 0, .state .normal⟩]
      newest := 5
      boundary := 0 }
  inputs := Vector.replicate 48 ⟨.low, .idle, true⟩
  channels := Vector.replicate 16 Channel.fresh
  detection := Vector.replicate 4 .quiet
  release := Vector.replicate 4 (Release.fresh .normal)
  estimate := Vector.replicate 4 Estimate.absent
  doors := Vector.replicate 8 (Door.fresh .secured)
  queue := Vector.replicate 8 none
  motions := Vector.replicate 8 none
  gateClosed := false
  clock := ⟨false, 0, 0⟩
  period := Vector.replicate 4 .day
  readers := Vector.replicate 8 ⟨0, none⟩
  custody := Vector.replicate 8 none
  occupancy := Vector.replicate 4 ⟨[], false⟩
  loneTimer := Vector.replicate 4 none
  loneOutrun := Vector.replicate 4 false
  alarm :=
    { pending := (Vector.replicate 115 false).set 113 true
      condition := (Vector.replicate 115 false).set 113 true
      inService := []
      suppressed := false }
  outputs := Vector.replicate 8 ⟨false, false⟩
  line :=
    { flags := Vector.replicate 16 ⟨false, false⟩
      supply := false
      run := RunRecord.fresh .powerOn fun _ => true
      periodic := some 3600
      checks := Vector.replicate 8 none }
  link :=
    { node := 1
      framer := .waiting
      limit := 0
      timing := false
      slot := none
      reply := none
      sent := []
      uptime := 0
      foundStored := false }

end Sys2Proof.Machine
end

