-- ==== Sys2Proof/Machine/Operands.lean ====
section
/-! DEFINITION. How operands are read: the number of a named value (R199: from 1 in the order of its list, 0 for
none), items named by number, selections, clamping into a range (R194), and the fixed assignment of inputs, circuits
and sources (R1, R20, R147). -/

namespace Sys2Proof.Machine

/-! ## Numbers and ranges -/

/-- `x` at the nearer end of `lo` to `hi` when it is outside (R19, R194). -/
def clamp (lo hi x : Nat) : Nat := if x < lo then lo else if hi < x then hi else x

/-- The item numbered `x` of `n` items numbered from 0. -/
def item (n x : Nat) : Option (Fin n) := if h : x < n then some ⟨x, h⟩ else none

/-- The zone numbered `x`, 1 to 4. -/
def zoneNumbered (x : Nat) : Option Zone := if x = 0 then none else item 4 (x - 1)

/-- A zone setting 0 to 4: 0 is no zone (`some none`), above 4 is refused (`none`). -/
def zoneSetting (x : Nat) : Option (Option Zone) := if x = 0 then some none else (item 4 (x - 1)).map some

/-- The source numbered `x`, 1 to 115. -/
def sourceNumbered (x : Nat) : Option Source := if x = 0 then none else item 115 (x - 1)

/-- The manual's number of a zone, of a zone setting and of a source. -/
def Zone.number (z : Zone) : Nat := z.val + 1
def zoneSettingNumber : Option Zone → Nat
  | none => 0
  | some z => z.val + 1
def Source.number (s : Source) : Nat := s.val + 1

/-- The items of a selection (R199): item n is in it when bit n is set. -/
def selected {n : Nat} (selection : Nat) (i : Fin n) : Bool := selection.testBit i.val

/-- A selection that names an item, and none above the last of `n` items (R193; notes/assumptions/14.md). -/
def selectionOk (n selection : Nat) : Bool := decide (selection ≠ 0 ∧ selection < 2 ^ n)

/-- Division rounded upward (00_scope.md, "Arithmetic"). -/
def divUp (a b : Nat) : Nat := (a + b - 1) / b

/-! ## Codes of named values (R199) -/

def YesNo.ofCode : Nat → Option Bool
  | 1 => some true
  | 2 => some false
  | _ => none
def YesNo.code (b : Bool) : Nat := if b then 1 else 2

def Level.ofCode : Nat → Option Level
  | 1 => some .high
  | 2 => some .low
  | _ => none
def Level.code : Level → Nat
  | .high => 1
  | .low => 2

def Loop.ofCode : Nat → Option Loop
  | 1 => some .a
  | 2 => some .b
  | _ => none
def Loop.code : Loop → Nat
  | .a => 1
  | .b => 2

def AbortMode.ofCode : Nat → Option AbortMode
  | 1 => some .restart
  | 2 => some .resume
  | _ => none
def AbortMode.code : AbortMode → Nat
  | .restart => 1
  | .resume => 2

def OccupiedRelease.ofCode : Nat → Option OccupiedRelease
  | 1 => some .auto
  | 2 => some .manualOnly
  | _ => none
def OccupiedRelease.code : OccupiedRelease → Nat
  | .auto => 1
  | .manualOnly => 2

def Passback.ofCode : Nat → Option Passback
  | 1 => some .hard
  | 2 => some .soft
  | 3 => some .off
  | _ => none
def Passback.code : Passback → Nat
  | .hard => 1
  | .soft => 2
  | .off => 3

def LockKind.ofCode : Nat → Option LockKind
  | 1 => some .strike
  | 2 => some .motorBolt
  | _ => none
def LockKind.code : LockKind → Nat
  | .strike => 1
  | .motorBolt => 2

def FailMode.ofCode : Nat → Option FailMode
  | 1 => some .secure
  | 2 => some .safe
  | _ => none
def FailMode.code : FailMode → Nat
  | .secure => 1
  | .safe => 2

def CustodyRule.ofCode : Nat → Option CustodyRule
  | 1 => some .never
  | 2 => some .afterHours
  | 3 => some .always
  | _ => none
def CustodyRule.code : CustodyRule → Nat
  | .never => 1
  | .afterHours => 2
  | .always => 3

def Direction.ofCode : Nat → Option Direction
  | 1 => some .entry
  | 2 => some .exit
  | _ => none
def Direction.code : Direction → Nat
  | .entry => 1
  | .exit => 2

def PinPolicy.ofCode : Nat → Option PinPolicy
  | 1 => some .never
  | 2 => some .afterHours
  | 3 => some .always
  | _ => none
def PinPolicy.code : PinPolicy → Nat
  | .never => 1
  | .afterHours => 2
  | .always => 3

def StaffKind.ofCode : Nat → Option StaffKind
  | 1 => some .audible
  | 2 => some .silent
  | 3 => some .checkIn
  | _ => none
def StaffKind.code : StaffKind → Nat
  | .audible => 1
  | .silent => 2
  | .checkIn => 3

def OutputMode.ofCode : Nat → Option OutputMode
  | 1 => some .latched
  | 2 => some .live
  | _ => none
def OutputMode.code : OutputMode → Nat
  | .latched => 1
  | .live => 2

def Role.ofCode : Nat → Option Role
  | 1 => some .custodian
  | 2 => some .conservator
  | 3 => some .guard
  | 4 => some .contractor
  | _ => none
def Role.code : Role → Nat
  | .custodian => 1
  | .conservator => 2
  | .guard => 3
  | .contractor => 4

def ZoneMode.ofCode : Nat → Option ZoneMode
  | 1 => some .auto
  | 2 => some .forceDay
  | 3 => some .forceAfterHours
  | 4 => some .lockdown
  | _ => none
def ZoneMode.code : ZoneMode → Nat
  | .auto => 1
  | .forceDay => 2
  | .forceAfterHours => 3
  | .lockdown => 4

def Period.code : Period → Nat
  | .day => 1
  | .afterHours => 2

def DoorAction.code : DoorAction → Nat
  | .free => 1
  | .auto => 2
  | .pulse => 3
  | .retry => 4

/-- A conditioned state, in the order of the table of section 1.1: INACTIVE, ACTIVE. -/
def conditionedCode (active : Bool) : Nat := if active then 2 else 1

def InputMode.code : InputMode → Nat
  | .follow => 1
  | .latch => 2

def Phase.code : Phase → Nat
  | .idle => 1
  | .debounceOn => 2
  | .validate => 3
  | .on => 4
  | .debounceOff => 5
  | .latched => 6

def Detection.code : Detection → Nat
  | .confirmed => 1
  | .firstKnock => 2
  | .quiet => 3

/-- The eight states of R68; a starting door is in none of them. -/
def DoorState.code : DoorState → Nat
  | .starting => 0
  | .secured => 1
  | .releasing => 2
  | .released => 3
  | .opened => 4
  | .held => 5
  | .forced => 6
  | .securing => 7
  | .boltFault => 8

/-- A release mark; 0 is an absent one (R68). -/
def markCode : Option Mark → Nat
  | none => 0
  | some .ordinary => 1
  | some .override => 2

def BoltClass.code : BoltClass → Nat
  | .egress => 1
  | .relock => 2
  | .access => 3

def RunState.code : RunState → Nat
  | .running => 1
  | .done => 2
  | .aborted => 3

def RunKind.code : RunKind → Nat
  | .host => 1
  | .periodic => 2
  | .powerOn => 3

def SupplyResult.code : SupplyResult → Nat
  | .waiting => 1
  | .testing => 2
  | .passed => 3
  | .failed => 4
  | .notReached => 5

def CircuitResult.code : CircuitResult → Nat
  | .notInRun => 1
  | .waiting => 2
  | .testingShort => 3
  | .testingOpen => 4
  | .passed => 5
  | .shortFound => 6
  | .openFound => 7
  | .skippedFlagged => 8
  | .skippedOn => 9
  | .skippedSupply => 10
  | .interrupted => 11
  | .notReached => 12

def FaultFlag.code : FaultFlag → Nat
  | .clear => 0
  | .openWire => 1
  | .shortWire => 2

def SourceKind.code : SourceKind → Nat
  | .edge => 1
  | .level => 2

def ReleaseState.code : ReleaseState → Nat
  | .normal => 1
  | .alerted => 2
  | .disabled => 3
  | .countdown => 4
  | .abortHeld => 5
  | .doorHold => 6
  | .occupiedHold => 7
  | .discharge => 8
  | .soak => 9
  | .soakDone => 10
  | .vent => 11
  | .cleared => 12

def Bank.code : Bank → Nat
  | .main => 1
  | .reserve => 2

def SoakReason.code : SoakReason → Nat
  | .reserveAbsent => 1
  | .reserveUsed => 2
  | .reserveFlagged => 3
  | .autoOff => 4

def Motion.code : Motion → Nat
  | .throw => 1
  | .withdraw => 2

def ClockMove.code : ClockMove → Nat
  | .first => 1
  | .forward => 2
  | .backward => 3
  | .same => 4

/-- The refusal codes of R200. -/
def RefusalCode.code : RefusalCode → Nat
  | .readerLocked => 1
  | .unknown => 2
  | .suspended => 3
  | .clock => 4
  | .notYetValid => 5
  | .expired => 6
  | .noDoor => 7
  | .schedule => 8
  | .lockdown => 9
  | .suppression => 10
  | .pinRequired => 11
  | .noPin => 12
  | .badPin => 13
  | .doorFault => 14
  | .passback => 15
  | .full => 16
  | .escort => 17
  | .custodySameHolder => 18
  | .custodyRole => 19
  | .interlock => 20
  | .lockout => 21
  | .passbackSoft => 22

/-- The record kinds 1 to 27 (R200, section 10.2). -/
def RecordKind.code : RecordKind → Nat
  | .grant => 1
  | .refuse => 2
  | .custodyFirst => 3
  | .passUsed => 4
  | .passUnused => 5
  | .passDropped => 6
  | .rexExit => 7
  | .rexRefused => 8
  | .unlistedExit => 9
  | .forced => 10
  | .held => 11
  | .boltFault => 12
  | .zoneState => 13
  | .release => 14
  | .firingFailed => 15
  | .occupantAtDischarge => 16
  | .soakLoss => 17
  | .manualIgnored => 18
  | .staff => 19
  | .duress => 20
  | .lone => 21
  | .lineResult => 22
  | .clockSet => 23
  | .powerOn => 24
  | .restart => 25
  | .config => 26
  | .credential => 27

/-- The byte a detail is sent as (R200; R199 where the list of section 10.2 numbers it; notes/assumptions/8.md). -/
def Detail.code : Detail → Byte
  | .blank => 0
  | .single => 1
  | .pair => 2
  | .refusal c => BitVec.ofNat 8 (RefusalCode.code c)
  | .direction d => BitVec.ofNat 8 (Direction.code d)
  | .listFull => 3
  | .custody => 3
  | .motion m => BitVec.ofNat 8 (Motion.code m)
  | .recovered => 3
  | .state z => BitVec.ofNat 8 (ReleaseState.code z)
  | .ventForced => BitVec.ofNat 8 (ReleaseState.code .vent + 128)
  | .bank b => BitVec.ofNat 8 (Bank.code b)
  | .certain => 1
  | .uncertain => 2
  | .reason r => BitVec.ofNat 8 (SoakReason.code r)
  | .staff k => BitVec.ofNat 8 (StaffKind.code k)
  | .lineShort => 1
  | .lineOpen => 2
  | .lineSupply => 3
  | .lineDone => 4
  | .lineAborted => 5
  | .clock m => BitVec.ofNat 8 (ClockMove.code m)
  | .stored => 1
  | .erased => 2
  | .door a => BitVec.ofNat 8 (DoorAction.code a)
  | .confirm => Config.actionCode 0
  | .remove => Config.actionCode 1
  | .silence => Config.actionCode 2
  | .clear => Config.actionCode 3
  | .mode m => BitVec.ofNat 8 (ZoneMode.code m)
  | .value n => BitVec.ofNat 8 n
  | .kind c => BitVec.ofNat 8 c
  | .added => 1
  | .replaced => 2
  | .revoked => 3

/-- The status codes of section 11.5. -/
def Status.code : Status → Byte
  | .ok => 0
  | .adjusted => 1
  | .unknownKind => 2
  | .length => 3
  | .param => 4
  | .state => 5
  | .full => 6
  | .notFound => 7

/-! ## The fixed assignment of inputs (R1) -/

def contactInput (n : DoorNo) : InputNo := ⟨n.val, by omega⟩
def boltInput (n : DoorNo) : InputNo := ⟨8 + n.val, by omega⟩
def rexInput (n : DoorNo) : InputNo := ⟨16 + n.val, by omega⟩
def manualInput (z : Zone) : InputNo := ⟨24 + z.val, by omega⟩
def abortInput (z : Zone) : InputNo := ⟨28 + z.val, by omega⟩
def staffInput (n : StaffNo) : InputNo := ⟨32 + n.val, by omega⟩

/-- What an input is wired to (R1). -/
inductive InputRole
  | contact (n : DoorNo) | bolt (n : DoorNo) | rex (n : DoorNo) | manual (z : Zone) | abort (z : Zone)
  | staff (n : StaffNo)
  deriving DecidableEq, Repr

/-- The function of an input (R1). -/
def inputRole (i : InputNo) : InputRole :=
  if h0 : i.val < 8 then .contact ⟨i.val, h0⟩
  else if h1 : i.val < 16 then .bolt ⟨i.val - 8, by omega⟩
  else if h2 : i.val < 24 then .rex ⟨i.val - 16, by omega⟩
  else if h3 : i.val < 28 then .manual ⟨i.val - 24, by omega⟩
  else if h4 : i.val < 32 then .abort ⟨i.val - 28, by omega⟩
  else .staff ⟨i.val - 32, by omega⟩

/-! ## Circuits (R20, R144) and sources (R147) -/

/-- The release circuit of a bank (R20): main z − 1, reserve z + 3. -/
def bankRelease (z : Zone) : Bank → Fin 8
  | .main => ⟨z.val, by omega⟩
  | .reserve => ⟨z.val + 4, by omega⟩
def releaseCircuit (c : Fin 8) : CircuitNo := ⟨c.val, by omega⟩
def bankCircuit (z : Zone) (b : Bank) : CircuitNo := releaseCircuit (bankRelease z b)
def outputCircuit (o : OutputNo) : CircuitNo := ⟨8 + o.val, by omega⟩

/-- The annunciator output of a circuit 8 to 15 (R144). -/
def circuitOutput (c : CircuitNo) : Option OutputNo := if h : 8 ≤ c.val then some ⟨c.val - 8, by omega⟩ else none
/-- The zone whose bank a circuit 0 to 7 is (R20). -/
def circuitZone (c : CircuitNo) : Option Zone := if c.val < 8 then some ⟨c.val % 4, by omega⟩ else none

def Source.fire (z : Zone) : Source := ⟨z.val, by omega⟩
def Source.discharge (z : Zone) : Source := ⟨4 + z.val, by omega⟩
def Source.firstKnock (z : Zone) : Source := ⟨8 + z.val, by omega⟩
def Source.soakLoss (z : Zone) : Source := ⟨12 + z.val, by omega⟩
def Source.occupant (z : Zone) : Source := ⟨16 + z.val, by omega⟩
def Source.lone (z : Zone) : Source := ⟨20 + z.val, by omega⟩
def Source.escort (z : Zone) : Source := ⟨24 + z.val, by omega⟩
def Source.impaired (z : Zone) : Source := ⟨28 + z.val, by omega⟩
def Source.staff (n : StaffNo) : Source := ⟨32 + n.val, by omega⟩
def Source.duress (r : ReaderNo) : Source := ⟨48 + r.val, by omega⟩
def Source.forced (n : DoorNo) : Source := ⟨56 + n.val, by omega⟩
def Source.held (n : DoorNo) : Source := ⟨64 + n.val, by omega⟩
def Source.bolt (n : DoorNo) : Source := ⟨72 + n.val, by omega⟩
def Source.detectorFault (c : ChannelNo) : Source := ⟨80 + c.val, by omega⟩
def Source.circuit (c : CircuitNo) : Source := ⟨96 + c.val, by omega⟩
def Source.supply : Source := 112
def Source.clock : Source := 113
def Source.backlog : Source := 114

/-- The kind of a source (R147): DISCHARGE, SOAK_LOSS, LONE, STAFF, DURESS and FORCED are EDGE. -/
def Source.kind (s : Source) : SourceKind :=
  if (4 ≤ s.val ∧ s.val < 8) ∨ (12 ≤ s.val ∧ s.val < 16) ∨ (20 ≤ s.val ∧ s.val < 24) ∨ (32 ≤ s.val ∧ s.val < 64)
  then .edge else .level

/-! ## The numbered things in order -/

def allZones : List Zone := List.finRange 4
def allDoors : List DoorNo := List.finRange 8
def allReaders : List ReaderNo := List.finRange 8
def allOutputs : List OutputNo := List.finRange 8
def allChannels : List ChannelNo := List.finRange 16
def allCircuits : List CircuitNo := List.finRange 16
def allInputs : List InputNo := List.finRange 48
def allSources : List Source := List.finRange 115

end Sys2Proof.Machine
end

