-- ==== Sys2Proof/Machine/Flags.lean ====
section
/-! DEFINITION. What is not held but worked out from the state: conditioned inputs, detection, groupings of release
states, banks, IMPAIRED, interlocks, the clock's answers, eligibility, the attention line, outputs, the backlog. -/

namespace Sys2Proof.Machine

/-! ## Inputs (R2, R3, R8) -/

/-- The conditioned state a phase stands for: ACTIVE or not (section 1.1). -/
def Phase.isActive : Phase → Bool
  | .on => true
  | .debounceOff => true
  | .latched => true
  | _ => false

/-- The raw level is the configured active level (R2). -/
def rawActive (s : State) (i : InputNo) : Bool := decide (s.inputs[i].raw = s.store.inputs[i].active)

/-- The conditioned state of an input is ACTIVE. -/
def active (s : State) (i : InputNo) : Bool := Phase.isActive s.inputs[i].phase

/-- Mode a staff kind fixes (R131). -/
def StaffKind.mode : StaffKind → InputMode
  | .checkIn => .follow
  | _ => .latch

/-- The conditioning mode of an input (R2). -/
def inputMode (s : State) (i : InputNo) : InputMode :=
  match inputRole i with
  | .staff n => StaffKind.mode s.store.staff[n].kind
  | _ => .follow

def contactOpen (s : State) (n : DoorNo) : Bool := active s (contactInput n)
def boltThrown (s : State) (n : DoorNo) : Bool := active s (boltInput n)
def abortHeld (s : State) (z : Zone) : Bool := active s (abortInput z)

/-! ## Detection (R14, R15) -/

/-- The channels of a loop of a zone. -/
def loopChannels (s : State) (z : Zone) (l : Loop) : List ChannelNo :=
  allChannels.filter fun c => decide (s.store.detectors[c].zone = some z ∧ s.store.detectors[c].loop = l)

/-- A channel of the loop is latched. -/
def loopLatched (s : State) (z : Zone) (l : Loop) : Bool := (loopChannels s z l).any fun c => s.channels[c].latch

/-- The loop is failed (R14). -/
def loopFailed (s : State) (z : Zone) (l : Loop) : Bool :=
  (loopChannels s z l).all fun c => !s.channels[c].latch && decide (s.channels[c].fault ≠ .clear)

/-- The detection a zone's channels give (R15). -/
def derivedDetection (s : State) (z : Zone) : Detection :=
  let a := loopLatched s z .a
  let b := loopLatched s z .b
  if a && b then .confirmed
  else if s.store.zones[z].singleKnock && ((loopFailed s z .b && a) || (loopFailed s z .a && b)) then .confirmed
  else if a || b then .firstKnock
  else .quiet

/-- Rank in the order QUIET, FIRST_KNOCK, CONFIRMED (R16). -/
def Detection.rank : Detection → Nat
  | .quiet => 0
  | .firstKnock => 1
  | .confirmed => 2

/-! ## Release states and banks (R20, R44) -/

/-- The release span: COUNTDOWN through VENT (R20). -/
def ReleaseState.inSpan : ReleaseState → Bool
  | .normal | .alerted | .disabled | .cleared => false
  | _ => true

/-- The egress states (R20). -/
def ReleaseState.isEgress : ReleaseState → Bool
  | .countdown | .abortHeld | .doorHold | .occupiedHold | .discharge => true
  | _ => false

/-- The quiet states (R20). -/
def ReleaseState.isQuiet : ReleaseState → Bool
  | .normal | .alerted | .disabled => true
  | _ => false

/-- The states entered with a write of the zone's stored record (R20, R46). -/
def ReleaseState.isStored : ReleaseState → Bool
  | .alerted | .countdown | .abortHeld | .doorHold | .occupiedHold => false
  | _ => true

/-- The states in which the estimate's step timer runs (R52). -/
def ReleaseState.isStepping : ReleaseState → Bool
  | .soak | .soakDone | .vent => true
  | _ => false

/-- The states in which the occupant condition can hold (R138). -/
def ReleaseState.isFlooded : ReleaseState → Bool
  | .discharge | .soak | .soakDone | .vent => true
  | _ => false

/-- A circuit is flagged while either of its flags is set (R168). -/
def CircuitFlags.any (f : CircuitFlags) : Bool := f.shortFlag || f.openFlag
def circuitFlagged (s : State) (c : CircuitNo) : Bool := CircuitFlags.any s.line.flags[c]

def bankUsed (s : State) (z : Zone) : Bank → Bool
  | .main => s.store.records[z].mainUsed
  | .reserve => s.store.records[z].reserveUsed
def bankFlagged (s : State) (z : Zone) (b : Bank) : Bool := circuitFlagged s (bankCircuit z b)

/-- A bank is available (R20). -/
def bankAvailable (s : State) (z : Zone) (b : Bank) : Bool :=
  !bankUsed s z b && !bankFlagged s z b && (decide (b = .main) || s.store.zones[z].reservePresent)

/-- The IMPAIRED condition (R44). -/
def impaired (s : State) (z : Zone) : Bool :=
  decide (s.release[z].state = .disabled) || bankFlagged s z .main ||
  (s.store.zones[z].reservePresent && bankFlagged s z .reserve) || s.line.supply

/-- A bank of the zone is being fired (R36). -/
def firing (s : State) (z : Zone) : Bool := s.release[z].firing.isSome

/-- A release circuit of some zone is energized (R38). -/
def anyFiring (s : State) : Bool := allZones.any (firing s)

/-- The circuit is energized: a release circuit while its bank is being fired (R36), an annunciator circuit while its
output is on (R144). -/
def circuitEnergized (s : State) (c : CircuitNo) : Bool :=
  match circuitOutput c with
  | some o => s.outputs[o].on
  | none => allZones.any fun z => s.release[z].firing.any fun f => decide (bankCircuit z f.bank = c)

/-- The list of the zone is empty and certain (R31). -/
def emptyCertain (s : State) (z : Zone) : Bool := s.occupancy[z].list.isEmpty && s.occupancy[z].certain

/-! ## Doors (R68, R72, R84) -/

def inside (s : State) (n : DoorNo) : Option Zone := s.store.doors[n].inside
def motorBolt (s : State) (n : DoorNo) : Bool := decide (s.store.doors[n].lock = .motorBolt)
def overridden (s : State) (n : DoorNo) : Bool := s.doors[n].egress || s.doors[n].free

/-- The level a fail mode holds a strike's lock output at: SECURE energized, SAFE dropped (R67). -/
def FailMode.level : FailMode → LockOutput
  | .secure => .energized
  | .safe => .dropped

/-- The lock output of a strike door: at its fail-mode level while the door is starting (R67, R92), whatever its mark says
(notes/assumptions/20.md), then dropped while the door carries a mark and energized otherwise (R69). A motor-bolted door
has none. -/
def lockOutput (s : State) (n : DoorNo) : Option LockOutput :=
  if motorBolt s n then none
  else if s.doors[n].state = .starting then some (FailMode.level s.store.doors[n].fail)
  else if s.doors[n].mark.isSome then some .dropped
  else some .energized

/-- The direction a door's bolt motor is energized in, `none` while it is stopped (R67, R85). -/
def boltMotor (s : State) (n : DoorNo) : Option Motion := s.motions[n].map InMotion.motion

/-- The doors whose inside zone is `z`. -/
def zoneDoors (s : State) (z : Zone) : List DoorNo := allDoors.filter fun n => decide (inside s n = some z)

/-- A door with inside zone `z` shows open (R29, R54). -/
def zoneDoorOpen (s : State) (z : Zone) : Bool := (zoneDoors s z).any (contactOpen s)

/-- The interlock of a door is clear (R72). -/
def interlockClear (s : State) (n : DoorNo) : Bool :=
  decide (s.store.doors[n].group = 0) ||
  allDoors.all fun m =>
    decide (m = n ∨ s.store.doors[m].group ≠ s.store.doors[n].group) ||
    (decide (s.doors[m].state = .secured) && !overridden s m)

def motionsInProgress (s : State) : Nat := allDoors.countP fun n => s.motions[n].isSome
def requestsQueued (s : State) : Nat := allDoors.countP fun n => s.queue[n].isSome

/-- Rank of a class: EGRESS, then RELOCK, then ACCESS (R82). -/
def BoltClass.rank : BoltClass → Nat
  | .egress => 2
  | .relock => 1
  | .access => 0

/-- A queued request may start (R84). -/
def startable (s : State) (n : DoorNo) : Bool :=
  match s.queue[n] with
  | some r => s.motions[n].isNone && (!s.gateClosed || decide (r.cls = .egress))
  | none => false

/-- The bolt sense shows the position a motion drives to (R85). -/
def confirms (s : State) (n : DoorNo) : Motion → Bool
  | .throw => boltThrown s n
  | .withdraw => !boltThrown s n

/-- No WITHDRAW of the door is queued or in motion (R74, R80). -/
def noWithdraw (s : State) (n : DoorNo) : Bool :=
  decide ((s.queue[n].map BoltRequest.motion) ≠ some .withdraw ∧ boltMotor s n ≠ some .withdraw)

/-! ## The clock and what depends on it (R97, R98, R103, R106) -/

/-- Weekday of a day number, MONDAY as 0 (R98). -/
def weekday (day : Nat) : Nat := (day + 5) % 7

/-- Effective day of a day number: the weekday, or 7 for HOLIDAY (R103). -/
def effectiveDay (s : State) (day : Nat) : Nat := if day ∈ s.store.holidays then 7 else weekday day

/-- An interval covers a minute-of-day of an effective day (R101, R103). -/
def Interval.covers (i : Interval) (effective minute : Nat) : Bool :=
  i.days.getLsbD effective && decide (i.start ≤ minute ∧ minute < i.stop)

/-- A schedule is active (R103). -/
def scheduleActive (s : State) (k : ScheduleNo) : Bool :=
  if k.val = 0 then true
  else s.clock.set &&
    s.store.schedules[k].any fun i => Interval.covers i (effectiveDay s s.clock.day) (s.clock.second / 60)

/-- The period a zone's mode and opening schedule give (R106). -/
def derivedPeriod (s : State) (z : Zone) : Period :=
  match s.store.modes[z] with
  | .auto => if scheduleActive s s.store.zones[z].openingSchedule then .day else .afterHours
  | .forceDay => .day
  | .forceAfterHours => .afterHours
  | .lockdown => .afterHours

/-- The record with a credential number (R96, R97). -/
def lookup (s : State) (number : Nat) : Option Credential :=
  s.store.credentials.find? fun c => decide (c.number = number)

/-- Validity verdict on a record (R97). -/
def verdict (s : State) (c : Credential) : Verdict :=
  if (c.validFrom ≠ 0 ∨ c.validUntil ≠ 0) ∧ s.clock.set = false then .clock
  else if c.validFrom ≠ 0 ∧ s.clock.day < c.validFrom then .notYetValid
  else if c.validUntil ≠ 0 ∧ c.validUntil < s.clock.day then .expired
  else .valid

/-- A CUSTODIAN or GUARD escorts (R117, R137). -/
def Role.escorts : Role → Bool
  | .custodian => true
  | .guard => true
  | _ => false

/-- A credential number whose record escorts. -/
def isEscort (s : State) (number : Nat) : Bool := (lookup s number).any fun c => Role.escorts c.role

/-- A credential number whose record has its escort-required flag set. -/
def needsEscort (s : State) (number : Nat) : Bool := (lookup s number).any fun c => c.escortRequired

/-! ## The watch unit's conditions (R134, R137, R138) -/

def loneCondition (s : State) (z : Zone) : Bool :=
  decide (s.period[z] = .afterHours ∧ s.occupancy[z].list.length = 1 ∧ s.occupancy[z].certain = true)

def escortCondition (s : State) (z : Zone) : Bool :=
  s.occupancy[z].list.any (needsEscort s) && !s.occupancy[z].list.any (isEscort s)

def occupantCondition (s : State) (z : Zone) : Bool :=
  ReleaseState.isFlooded s.release[z].state && !emptyCertain s z

/-! ## Alarms and outputs (R141, R151, R161, R186) -/

def priority (s : State) (src : Source) : Nat := s.store.sources[src].priority

/-- The notification level (R151). -/
def notificationLevel (s : State) : Nat :=
  match s.alarm.inService.getLast? with
  | none => s.store.threshold
  | some src => max s.store.threshold (priority s src)

/-- A source is eligible (R151). -/
def eligible (s : State) (src : Source) : Bool :=
  s.store.sources[src].enabled && s.alarm.pending[src] && decide (notificationLevel s < priority s src)

/-- The better of a candidate and the best so far: higher priority, then lower number (R153). -/
def betterOf (s : State) (best : Option Source) (src : Source) : Option Source :=
  match best with
  | none => if eligible s src then some src else none
  | some b => if eligible s src && decide (priority s b < priority s src) then some src else some b

/-- The source a CLAIM would pick (R153). -/
def claimable (s : State) : Option Source := allSources.foldl (betterOf s) none

/-- What CLAIM and PEEK return of a source (R153). -/
def alarmReport (s : State) (src : Source) : AlarmReport :=
  ⟨src, priority s src, Source.kind src, s.alarm.condition[src]⟩

/-- The part drives the attention line (R161). -/
def attentionDriven (s : State) : Bool := allSources.any (eligible s) && !s.alarm.suppressed

/-- The condition of a source is present, as a LIVE output takes it (R141). -/
def conditionPresent (s : State) (src : Source) : Bool :=
  match Source.kind src with
  | .edge => s.alarm.pending[src]
  | .level => s.alarm.condition[src]

/-- An output is called for (R141). -/
def calledFor (s : State) (o : OutputNo) : Bool :=
  match s.store.outputs[o].mode with
  | .latched => s.store.outputs[o].sources.any fun src => s.alarm.pending[src] || s.alarm.inService.contains src
  | .live => s.store.outputs[o].sources.any (conditionPresent s)

/-- An output is on (R141). -/
def outputOn (s : State) (o : OutputNo) : Bool := calledFor s o && !s.outputs[o].silenced

/-- The outputs whose list holds a source (R141). -/
def outputsListing (s : State) (src : Source) : List OutputNo :=
  allOutputs.filter fun o => s.store.outputs[o].sources.contains src

/-- The backlog (R186). -/
def backlog (s : State) : Nat := s.journal.newest - s.journal.boundary

/-- The oldest retained sequence, 0 for an empty ring (R182, R185). -/
def oldestRetained (s : State) : Nat := if s.journal.newest = 0 then 0 else max 1 (s.journal.newest - 1023)

end Sys2Proof.Machine
end

