-- ==== Sys2Proof/Machine/Ops.lean ====
section
/-! DEFINITION. The named operations over the state: one change of one table entry each, timers, replies, the raw
journal write of R183, and the answer of a command. -/

namespace Sys2Proof.Machine

/-- What exec and step answer. -/
abbrev Answer := Host.Outcome State Fault Refusal

/-! ## One entry of one table -/

def State.modInput (s : State) (i : InputNo) (f : InputState → InputState) : State :=
  { s with inputs := upd s.inputs i f }
def State.modChannel (s : State) (c : ChannelNo) (f : Channel → Channel) : State :=
  { s with channels := upd s.channels c f }
def State.setDetection (s : State) (z : Zone) (d : Detection) : State :=
  { s with detection := upd s.detection z fun _ => d }
def State.modRelease (s : State) (z : Zone) (f : Release → Release) : State :=
  { s with release := upd s.release z f }
def State.modEstimate (s : State) (z : Zone) (f : Estimate → Estimate) : State :=
  { s with estimate := upd s.estimate z f }
def State.modDoor (s : State) (n : DoorNo) (f : Door → Door) : State :=
  { s with doors := upd s.doors n f }
def State.setQueue (s : State) (n : DoorNo) (r : Option BoltRequest) : State :=
  { s with queue := upd s.queue n fun _ => r }
def State.setMotion (s : State) (n : DoorNo) (m : Option InMotion) : State :=
  { s with motions := upd s.motions n fun _ => m }
def State.setPeriod (s : State) (z : Zone) (p : Period) : State :=
  { s with period := upd s.period z fun _ => p }
def State.modReader (s : State) (r : ReaderNo) (f : Reader → Reader) : State :=
  { s with readers := upd s.readers r f }
def State.setCustody (s : State) (n : DoorNo) (w : Option CustodyWindow) : State :=
  { s with custody := upd s.custody n fun _ => w }
def State.modOccupancy (s : State) (z : Zone) (f : Occupancy → Occupancy) : State :=
  { s with occupancy := upd s.occupancy z f }
def State.setLone (s : State) (z : Zone) (t : Option Nat) : State :=
  { s with loneTimer := upd s.loneTimer z fun _ => t }
def State.setOutrun (s : State) (z : Zone) (b : Bool) : State :=
  { s with loneOutrun := upd s.loneOutrun z fun _ => b }
def State.modOutput (s : State) (o : OutputNo) (f : Output → Output) : State :=
  { s with outputs := upd s.outputs o f }
def State.modStore (s : State) (f : Store → Store) : State := { s with store := f s.store }
def State.modAlarm (s : State) (f : Alarm → Alarm) : State := { s with alarm := f s.alarm }
def State.modLine (s : State) (f : Line → Line) : State := { s with line := f s.line }
def State.modRun (s : State) (f : RunRecord → RunRecord) : State :=
  { s with line := { s.line with run := f s.line.run } }
def State.modLink (s : State) (f : Link → Link) : State := { s with link := f s.link }
def State.setClock (s : State) (c : Clock) : State := { s with clock := c }

/-- A zone's stored record (R46). -/
def State.modRecord (s : State) (z : Zone) (f : ZoneRecord → ZoneRecord) : State :=
  s.modStore fun st => { st with records := upd st.records z f }

/-! ## Folding an operation over numbered things -/

/-- `f` for each thing of a list, in order. -/
def forEach {α : Type} (l : List α) (f : α → State → State) (s : State) : State := l.foldl (fun s a => f a s) s

/-! ## Timers (notes/assumptions/3.md) -/

/-- A timer after `n` more seconds; it stays at 0 until its expiry is taken. -/
def elapse (n : Nat) (t : Option Nat) : Option Nat := t.map fun left => left - n

/-! ## The journal's write (R183) -/

/-- The record with the next sequence number, stamped with the clock (0 and 0 while it is unset). -/
def nextRecord (s : State) (kind : RecordKind) (subject cred : Nat) (detail : Detail) : Record where
  sequence := s.journal.newest + 1
  day := if s.clock.set then s.clock.day else 0
  second := if s.clock.set then s.clock.second else 0
  kind := kind
  subject := subject
  cred := cred
  detail := detail

/-- The ring with a record added; at 1024 records the oldest goes. -/
def ringPush (ring : List Record) (r : Record) : List Record :=
  if ring.length < 1024 then ring ++ [r] else ring.drop 1 ++ [r]

/-- R183's write, without the delivery of the backlog condition; at sequence 4,294,967,295 nothing is written. -/
def pushRecord (kind : RecordKind) (subject cred : Nat) (detail : Detail) (s : State) : State :=
  if s.journal.newest < 4294967295 then
    { s with
      journal :=
        { s.journal with
          ring := ringPush s.journal.ring (nextRecord s kind subject cred detail)
          newest := s.journal.newest + 1 } }
  else s

/-! ## Line activity and replies (R163, R192, R193) -/

/-- A wait for the part's slot has heard line activity: a slot that waits stays silent (R163). -/
def Link.heard (l : Link) : Link := { l with slot := l.slot.map fun _ => true }

/-- A byte starts on the data pair (R163). -/
def heardActivity (s : State) : State := s.modLink Link.heard

/-- Leave the reply to a request of kind code `kind`, to be sent by SEND_REPLY. The request came as a frame of the host,
so it is line activity (R163). -/
def reply (kind : Nat) (status : Status) (body : ReplyBody) (s : State) : State :=
  (heardActivity s).modLink fun l => { l with reply := some ⟨BitVec.ofNat 8 kind, status, body⟩ }

/-- Refuse a request: the reply carries no payload and nothing else changes (R193). -/
def refuse (kind : Nat) (status : Status) (s : State) : State := reply kind status .empty s

end Sys2Proof.Machine
end

