-- ==== Sys2Proof/Machine/Alarm.lean ====
section
/-! DEFINITION. Sources, outputs, line-test turns and journal writes act on each other inside one event: a record can
raise the backlog condition (R186), that can switch an output on (R141), that can abandon a line-test check and end
the run (R174, R175), and that writes a record. The loop is cut by `react`, what a switched-on output does to the line
supervisor: nothing below, `abandonCheck` above. A run that has just ended is no longer RUNNING, so its own record can
abandon nothing and the cut loses nothing. -/

namespace Sys2Proof.Machine

/-! ## Outputs and sources over what a switched-on output does -/

/-- Re-evaluate an output and hand on a change (R141, R144). -/
def refreshOutputWith (react : CircuitNo → State → State) (o : OutputNo) (s : State) : State :=
  if outputOn s o = s.outputs[o].on then s
  else if outputOn s o then react (outputCircuit o) (s.modOutput o fun v => { v with on := true })
  else s.modOutput o fun v => { v with on := false }

/-- Re-evaluate the outputs whose list holds a source (R141, R159). -/
def deliverWith (react : CircuitNo → State → State) (src : Source) (s : State) : State :=
  forEach (outputsListing s src) (refreshOutputWith react) s

/-- Clear the silence of every output whose list holds a source (R143). -/
def clearSilence (src : Source) (s : State) : State :=
  forEach (outputsListing s src) (fun o s => s.modOutput o fun v => { v with silenced := false }) s

/-- Clear attention suppression if a source is eligible that was not in `before` (R162). -/
def liftSuppression (before s : State) : State :=
  if allSources.any (fun src => eligible s src && !eligible before src) then
    s.modAlarm fun a => { a with suppressed := false }
  else s

/-- Set or clear a pending flag and deliver the change (R149, R150, R159, R162). -/
def setPendingWith (react : CircuitNo → State → State) (src : Source) (b : Bool) (s : State) : State :=
  if s.alarm.pending[src] = b then s
  else
    let s1 := s.modAlarm fun a => { a with pending := upd a.pending src fun _ => b }
    let s2 := if b then clearSilence src s1 else s1
    let s3 := if eligible s1 src && !eligible s src then s2.modAlarm fun a => { a with suppressed := false } else s2
    deliverWith react src s3

/-- A condition as its owner now gives it; a change is recorded and delivered, and the pending flag takes the recorded
condition unless the source is in service (R150). -/
def setConditionWith (react : CircuitNo → State → State) (src : Source) (b : Bool) (s : State) : State :=
  if s.alarm.condition[src] = b then s
  else
    let s1 := s.modAlarm fun a => { a with condition := upd a.condition src fun _ => b }
    let s2 := deliverWith react src s1
    if s2.alarm.inService.contains src then s2 else setPendingWith react src s2.alarm.condition[src] s2

/-- The backlog condition as the journal now gives it (R186). -/
def deliverBacklogWith (react : CircuitNo → State → State) (s : State) : State :=
  setConditionWith react Source.backlog (decide (896 ≤ backlog s)) s

/-- A journal record and the backlog condition it may raise (R183, R186). -/
def writeWith (react : CircuitNo → State → State) (kind : RecordKind) (subject cred : Nat) (detail : Detail)
    (s : State) : State :=
  deliverBacklogWith react (pushRecord kind subject cred detail s)

/-! ## The turns of a line-test run (R173 to R175) -/

/-- The result of one circuit. -/
def setResult (c : CircuitNo) (r : CircuitResult) (s : State) : State :=
  s.modRun fun run => { run with results := upd run.results c fun _ => r }

/-- The run ends as DONE (R175). -/
def endRun (s : State) : State :=
  writeWith (fun _ s => s) .lineResult 0 0 .lineDone (s.modRun fun run => { run with state := .done })

/-- The output of an annunciator circuit is on (R173). -/
def circuitOn (s : State) (c : CircuitNo) : Bool :=
  match circuitOutput c with
  | some o => s.outputs[o].on
  | none => false

/-- The turn passes along the circuits to the first that is tested, or the run ends (R173, R175). -/
def passTurn : List CircuitNo → State → State
  | [], s => endRun s
  | c :: rest, s =>
    if s.line.run.results[c] = .waiting then
      if circuitFlagged s c then passTurn rest (setResult c .skippedFlagged s)
      else if circuitOn s c then passTurn rest (setResult c .skippedOn s)
      else setResult c .testingShort s
    else passTurn rest s

/-- A check of the circuit is in progress. -/
def checking (s : State) (c : CircuitNo) : Bool :=
  decide (s.line.run.state = .running ∧
    (s.line.run.results[c] = .testingShort ∨ s.line.run.results[c] = .testingOpen))

/-- An output that comes on abandons the check of its circuit in progress (R174). -/
def abandonCheck (c : CircuitNo) (s : State) : State :=
  if checking s c then passTurn allCircuits (setResult c .skippedOn s) else s

/-! ## The operations every block uses -/

def refreshOutput (o : OutputNo) (s : State) : State := refreshOutputWith abandonCheck o s
def deliver (src : Source) (s : State) : State := deliverWith abandonCheck src s
def setPending (src : Source) (b : Bool) (s : State) : State := setPendingWith abandonCheck src b s

/-- A LEVEL source's condition as its owner now gives it (R150). -/
def setCondition (src : Source) (b : Bool) (s : State) : State := setConditionWith abandonCheck src b s

/-- An event of an EDGE source (R149). -/
def edgeEvent (src : Source) (s : State) : State := setPending src true s

/-- Write one journal record (R183, R186). -/
def write (kind : RecordKind) (subject cred : Nat) (detail : Detail) (s : State) : State :=
  writeWith abandonCheck kind subject cred detail s

/-- Write one CONFIG record. -/
def writeConfig (subject : Nat) (detail : Detail) (s : State) : State := write .config subject 0 detail s

/-! ## The in-service list (R153 to R156) -/

/-- Take a source into service (R153). -/
def takeIntoService (src : Source) (s : State) : State :=
  let s1 := deliver src (s.modAlarm fun a => { a with inService := a.inService ++ [src] })
  let s2 := setPending src false s1
  s2.modAlarm fun a => { a with suppressed := false }

/-- A source leaves the in-service list (R156). -/
def leaveService (src : Source) (s : State) : State :=
  let s1 := deliver src (s.modAlarm fun a => { a with inService := a.inService.erase src })
  let s2 := if Source.kind src = .level ∧ s1.alarm.condition[src] = true then setPending src true s1 else s1
  liftSuppression s s2

end Sys2Proof.Machine
end

