-- ==== Sys2Proof/Machine/Doors.lean ====
section
/-! DEFINITION. The door controller (chapter 4): the bolt drive, release requests, overrides, the contact and the bolt
sense, the timers, and the messages DOOR_COMMAND and DOOR_STATUS. What reaches other blocks (passes handed over,
openings reported) is done by the callers, above. -/

namespace Sys2Proof.Machine

/-! ## Small changes of one door -/

def setDoorState (n : DoorNo) (st : DoorState) (s : State) : State := s.modDoor n fun d => { d with state := st }

/-- The door enters SECURED: its mark goes, its timers stop (R69). -/
def secureDoor (n : DoorNo) (s : State) : State :=
  s.modDoor n fun d => { d with state := .secured, mark := none, window := none, heldTimer := none }

/-- Set the mark if it is absent: OVERRIDE under an override, else ORDINARY (R69). -/
def setMark (n : DoorNo) (s : State) : State :=
  let value := if overridden s n then Mark.override else Mark.ordinary
  s.modDoor n fun d => { d with mark := some (d.mark.getD value) }

/-- The unlock window starts anew, unless the door is under an override (R75). -/
def startWindow (n : DoorNo) (s : State) : State :=
  if overridden s n then s else s.modDoor n fun d => { d with window := some s.store.doors[n].unlockWindow }

/-- The held timer starts, unless the door is under an override (R76). -/
def startHeld (n : DoorNo) (s : State) : State :=
  if overridden s n then s else s.modDoor n fun d => { d with heldTimer := some s.store.doors[n].heldTime }

/-- The door enters RELEASED, with its window unless under an override (R70, R85). -/
def enterReleased (n : DoorNo) (s : State) : State := startWindow n (setDoorState n .released s)

/-- The door enters OPEN, with its held timer unless under an override (R73). -/
def enterOpen (n : DoorNo) (s : State) : State :=
  startHeld n (s.modDoor n fun d => { d with state := .opened, window := none })

/-! ## Passes (R71) -/

/-- One record of a pass that leaves a list. -/
def writePass (kind : RecordKind) (n : DoorNo) (p : Pass) (s : State) : State :=
  write kind n.val p.cred (.direction p.dir) s

/-- Drop the passes of a door that `which` picks, one record each (R25, R71). -/
def dropPasses (kind : RecordKind) (which : Pass → Bool) (n : DoorNo) (s : State) : State :=
  forEach (s.doors[n].passes.filter which) (writePass kind n)
    (s.modDoor n fun d => { d with passes := d.passes.filter fun p => !which p })

/-- Drop every pass of a door as unused (R75, R80, R86). -/
def dropUnused (n : DoorNo) (s : State) : State := dropPasses .passUnused (fun _ => true) n s

/-- Add a pass; an earlier pass of the credential is displaced first, wherever it is (R71). -/
def addPass (n : DoorNo) (p : Pass) (s : State) : State :=
  (forEach allDoors (dropPasses .passDropped fun q => decide (q.cred = p.cred)) s).modDoor n
    fun d => { d with passes := d.passes ++ [p] }

/-! ## The bolt drive (R83 to R86) -/

/-- The higher of two classes (R83). -/
def BoltClass.higher (a b : BoltClass) : BoltClass := if BoltClass.rank a < BoltClass.rank b then b else a

/-- A request reaching the drive is joined to the queue (R83). -/
def join (n : DoorNo) (motion : Motion) (cls : BoltClass) (s : State) : State :=
  match s.queue[n], s.motions[n] with
  | some r, _ =>
    if r.motion = motion then s.setQueue n (some ⟨motion, BoltClass.higher r.cls cls⟩)
    else s.setQueue n (some ⟨motion, cls⟩)
  | none, some m => if m.motion = motion then s else s.setQueue n (some ⟨motion, cls⟩)
  | none, none => s.setQueue n (some ⟨motion, cls⟩)

/-- Queue a WITHDRAW: the part lets the door go, so the mark is set (R69). -/
def joinWithdraw (n : DoorNo) (cls : BoltClass) (s : State) : State := join n .withdraw cls (setMark n s)

/-- Queue the THROW that secures the door (R82). -/
def joinThrow (n : DoorNo) (s : State) : State := join n .throw .relock s

/-- The HELD condition of a door (R76) and its BOLT condition (R86). -/
def setHeldCondition (n : DoorNo) (b : Bool) (s : State) : State := setCondition (Source.held n) b s
def setBoltCondition (n : DoorNo) (b : Bool) (s : State) : State := setCondition (Source.bolt n) b s

/-- The settled state of a door, by contact, bolt and override (R88). -/
def settleDoor (n : DoorNo) (s : State) : State :=
  let boltOut := motorBolt s n && boltThrown s n
  let boltIn := motorBolt s n && !boltThrown s n
  let s := s.modDoor n fun d => { d with window := none, heldTimer := none }
  if contactOpen s n then
    let s1 := enterOpen n s
    if overridden s n && boltOut then joinWithdraw n .egress s1 else s1
  else if overridden s n then
    if boltOut then joinWithdraw n .egress (setDoorState n .releasing s)
    else setMark n (setDoorState n .released s)
  else if boltIn then joinThrow n (setDoorState n .securing s)
  else secureDoor n s

/-- What a door does at the completion of its motion (R85). -/
def motionEffect (n : DoorNo) (motion : Motion) (s : State) : State :=
  match s.doors[n].state, motion with
  | .releasing, .withdraw => enterReleased n s
  | .securing, .throw => if contactOpen s n then s else secureDoor n s
  | .boltFault, _ => write .boltFault n.val 0 .recovered (setBoltCondition n false (settleDoor n s))
  | _, _ => s

/-- A door's motion completes and frees its slot (R85). -/
def completeMotion (n : DoorNo) (motion : Motion) (s : State) : State := motionEffect n motion (s.setMotion n none)

/-- The queued request of a door starts; it completes at once if the sense already shows the position (R85). -/
def startMotion (n : DoorNo) (s : State) : State :=
  match s.queue[n] with
  | none => s
  | some r =>
    let s1 := (s.setQueue n none).setMotion n (some ⟨r.motion, s.store.doors[n].boltTime⟩)
    if confirms s n r.motion then completeMotion n r.motion s1 else s1

/-- Class rank of a door's queued request. -/
def queuedRank (s : State) (n : DoorNo) : Nat :=
  match s.queue[n] with
  | some r => BoltClass.rank r.cls
  | none => 0

/-- The better of a candidate and the best so far: higher class, then lower door number (R84). -/
def betterDoor (s : State) (best : Option DoorNo) (n : DoorNo) : Option DoorNo :=
  match best with
  | none => if startable s n then some n else none
  | some b => if startable s n && decide (queuedRank s b < queuedRank s n) then some n else some b

/-- The request the drive would start next (R84). -/
def nextStart (s : State) : Option DoorNo := allDoors.foldl (betterDoor s) none

/-- Serve the queue, at most `fuel` starts. -/
def serveLoop : Nat → State → State
  | 0, s => s
  | fuel + 1, s =>
    if motionsInProgress s < s.store.slots then
      match nextStart s with
      | some n => serveLoop fuel (startMotion n s)
      | none => s
    else s

/-- Serve the bolt queue (R84). Each of the eight doors has at most one request queued, and a start can queue at most
one more (a RETRY that completes at once and settles with a throw to make), so sixteen starts empty the queue. -/
def serve (s : State) : State := serveLoop 16 s

/-- The firing gate follows the energized release circuits at the end of the event; as it opens the queue is served
(R38, R84). -/
def settleGate (s : State) : State :=
  if s.gateClosed = anyFiring s then s
  else if anyFiring s then { s with gateClosed := true }
  else serve { s with gateClosed := false }

/-- What a command answers: its effect, and the firing gate as it then stands (R38). -/
def finish (s : State) : Answer := .next (settleGate s)

/-- Relock a door in SECURING (R74, R80). -/
def relock (n : DoorNo) (s : State) : State :=
  if !motorBolt s n then secureDoor n s
  else if boltThrown s n && noWithdraw s n then secureDoor n s
  else joinThrow n s

/-! ## Release requests (R70, R71) -/

/-- The checks of R71 on a request carrying passes (what check 4 counts: notes/assumptions/28.md). -/
def requestRefusal (s : State) (n : DoorNo) (passes : List Pass) : Option RefusalCode :=
  let st := s.doors[n].state
  if st = .boltFault ∨ st = .starting then some .doorFault
  else if passes.any (fun p => decide (p.dir = .entry)) ∧ s.doors[n].egress = true then some .suppression
  else if interlockClear s n = false then some .interlock
  else if (st = .secured ∨ st = .releasing ∨ st = .released ∨ st = .securing) ∧
      4 < s.doors[n].passes.length + passes.length then some .full
  else none

/-- The door stands open: a request hands its passes over instead of adding them (R70). -/
def standsOpen (s : State) (n : DoorNo) : Bool :=
  match s.doors[n].state with
  | .opened | .held | .forced => true
  | _ => false

/-- What a served request does to the lock (R70). -/
def releaseLock (n : DoorNo) (cls : BoltClass) (s : State) : State :=
  match s.doors[n].state with
  | .secured =>
    if motorBolt s n then joinWithdraw n cls (setDoorState n .releasing s)
    else enterReleased n (setMark n s)
  | .releasing => join n .withdraw cls s
  | .released => startWindow n s
  | .securing => joinWithdraw n cls (setDoorState n .releasing s)
  | _ => s

/-- A release request that passed its checks, at a door that does not stand open (R70). -/
def release (n : DoorNo) (cls : BoltClass) (passes : List Pass) (s : State) : State :=
  serve (forEach passes (addPass n) (releaseLock n cls s))

/-! ## Overrides (R79, R80, R25) -/

/-- A RETRY still queued is turned toward the new intended position (R87). -/
def turnRetry (n : DoorNo) (motion : Motion) (cls : BoltClass) (s : State) : State :=
  if s.queue[n].isSome then join n motion cls s else s

/-- An override start, its flag already set (R79). -/
def overrideStart (n : DoorNo) (s : State) : State :=
  let s := s.modDoor n fun d => { d with mark := some .override }
  serve <|
    match s.doors[n].state with
    | .secured =>
      if motorBolt s n then joinWithdraw n .egress (setDoorState n .releasing s) else setDoorState n .released s
    | .releasing => join n .withdraw .egress s
    | .released => s.modDoor n fun d => { d with window := none }
    | .opened => s.modDoor n fun d => { d with heldTimer := none }
    | .held => setHeldCondition n false (setDoorState n .opened s)
    | .forced =>
      if motorBolt s n then joinWithdraw n .egress (setDoorState n .opened s) else setDoorState n .opened s
    | .securing => joinWithdraw n .egress (setDoorState n .releasing s)
    | .boltFault => turnRetry n .withdraw .egress s
    | .starting => s

/-- An override end, its flag already cleared (R80). -/
def overrideEnd (n : DoorNo) (s : State) : State :=
  serve <|
    match s.doors[n].state with
    | .released => relock n (dropUnused n (setDoorState n .securing s))
    | .releasing => relock n (dropUnused n (setDoorState n .securing s))
    | .opened => startHeld n s
    | .boltFault => turnRetry n .throw .relock s
    | _ => s

/-- The egress request reaches one door (R25). -/
def egressDoor (n : DoorNo) (s : State) : State :=
  let s1 := dropPasses .passDropped (fun p => decide (p.dir = .entry)) n s
  let s2 := s1.modDoor n fun d => { d with egress := true }
  if overridden s n then s2 else overrideStart n s2

/-- The egress end reaches one door (R25). -/
def egressEndDoor (n : DoorNo) (s : State) : State :=
  let s1 := s.modDoor n fun d => { d with egress := false }
  if s.doors[n].egress && !s.doors[n].free then overrideEnd n s1 else s1

def egressRequest (z : Zone) (s : State) : State := forEach (zoneDoors s z) egressDoor s
def egressEnd (z : Zone) (s : State) : State := forEach (zoneDoors s z) egressEndDoor s

/-! ## Contact, bolt sense and timers (R73 to R76, R86, R89) -/

/-- The passes an opening hands over (R73). -/
def openingPasses (s : State) (n : DoorNo) : List Pass :=
  match s.doors[n].state with
  | .releasing => s.doors[n].passes
  | .released => s.doors[n].passes
  | _ => []

/-- A queued THROW is removed (R73). -/
def removeThrow (n : DoorNo) (s : State) : State :=
  if s.queue[n].map BoltRequest.motion = some .throw then s.setQueue n none else s

/-- What an opening does at the door (R73). -/
def openDoor (n : DoorNo) (s : State) : State :=
  match s.doors[n].state with
  | .releasing => enterOpen n (s.modDoor n fun d => { d with passes := [] })
  | .released => enterOpen n (s.modDoor n fun d => { d with passes := [] })
  | .secured => write .forced n.val 0 .blank (edgeEvent (Source.forced n) (setDoorState n .forced s))
  | .securing => enterOpen n (removeThrow n s)
  | _ => s

/-- What a closing does at the door (R74). -/
def closeDoor (n : DoorNo) (s : State) : State :=
  if standsOpen s n then
    let s1 := setHeldCondition n false (s.modDoor n fun d => { d with heldTimer := none })
    if overridden s n then setDoorState n .released s1 else serve (relock n (setDoorState n .securing s1))
  else s

/-- A change of the bolt sense (R85, R89). -/
def boltChange (n : DoorNo) (s : State) : State :=
  match s.motions[n] with
  | some m => if confirms s n m.motion then serve (completeMotion n m.motion s) else s
  | none =>
    if motorBolt s n = true ∧ s.doors[n].state = .secured ∧ boltThrown s n = false then
      serve (joinThrow n (setDoorState n .securing s))
    else s

/-- The unlock window expires (R75). -/
def expireWindow (n : DoorNo) (s : State) : State :=
  if s.doors[n].window.isSome ∧ s.doors[n].state = .released then
    let s1 := dropUnused n (s.modDoor n fun d => { d with state := .securing, window := none })
    if motorBolt s n then serve (joinThrow n s1) else secureDoor n s1
  else s

/-- The held timer expires (R76). -/
def expireHeld (n : DoorNo) (s : State) : State :=
  if s.doors[n].heldTimer.isSome ∧ s.doors[n].state = .opened then
    write .held n.val 0 .blank
      (setHeldCondition n true (s.modDoor n fun d => { d with state := .held, heldTimer := none }))
  else s

/-- The bolt time of a motion expires unconfirmed; of a motion that is over it does nothing (R86). -/
def expireBolt (n : DoorNo) (motion : Motion) (s : State) : State :=
  if boltMotor s n = some motion then
    let s1 := dropUnused n ((s.setMotion n none).setQueue n none)
    let s2 := s1.modDoor n fun d => { d with state := .boltFault, window := none, heldTimer := none }
    let s3 := setBoltCondition n true (setHeldCondition n false s2)
    serve (write .boltFault n.val 0 (.motion motion) s3)
  else s

/-! ## Messages (R77, R81, R87) -/

/-- The fields of DOOR_STATUS (R77). -/
def doorReport (s : State) (n : DoorNo) : DoorReport where
  state := s.doors[n].state
  contact := contactOpen s n
  bolt := boltThrown s n
  egress := s.doors[n].egress
  free := s.doors[n].free
  mark := s.doors[n].mark
  passes := s.doors[n].passes
  window := s.doors[n].window
  heldTimer := s.doors[n].heldTimer
  heldCondition := s.alarm.condition[Source.held n]
  boltCondition := s.alarm.condition[Source.bolt n]
  queued := s.queue[n]
  motion := s.motions[n]
  slots := s.store.slots
  motionsInProgress := motionsInProgress s
  requestsQueued := requestsQueued s
  gateClosed := s.gateClosed

def doorStatus (door : Nat) (s : State) : State :=
  match item 8 door with
  | none => refuse 0x41 .param s
  | some n => reply 0x41 .ok (.doorReport (doorReport s n)) s

/-- DOOR_COMMAND FREE (R81). -/
def doorFree (door : Nat) (s : State) : State :=
  match item 8 door with
  | none => refuse 0x40 .param s
  | some n =>
    if s.doors[n].state = .starting then refuse 0x40 .state s
    else
      let s1 := (writeConfig n.val (.door .free) s).modDoor n fun d => { d with free := true }
      reply 0x40 .ok .empty (if overridden s n then s1 else overrideStart n s1)

/-- DOOR_COMMAND AUTO (R81). -/
def doorAuto (door : Nat) (s : State) : State :=
  match item 8 door with
  | none => refuse 0x40 .param s
  | some n =>
    if s.doors[n].state = .starting then refuse 0x40 .state s
    else
      let s1 := (writeConfig n.val (.door .auto) s).modDoor n fun d => { d with free := false }
      reply 0x40 .ok .empty (if s.doors[n].free && !s.doors[n].egress then overrideEnd n s1 else s1)

/-- A door state in which a PULSE or REX is served (R78, R81). -/
def takesRequest (s : State) (n : DoorNo) : Bool :=
  match s.doors[n].state with
  | .secured | .releasing | .released | .securing => true
  | _ => false

/-- DOOR_COMMAND PULSE (R81). -/
def doorPulse (door : Nat) (s : State) : State :=
  match item 8 door with
  | none => refuse 0x40 .param s
  | some n =>
    if !takesRequest s n then refuse 0x40 .state s
    else if !interlockClear s n then refuse 0x40 .state (write .refuse n.val 0 (.refusal .interlock) s)
    else reply 0x40 .ok .empty (release n .access [] (writeConfig n.val (.door .pulse) s))

/-- DOOR_COMMAND RETRY (R87). -/
def doorRetry (door : Nat) (s : State) : State :=
  match item 8 door with
  | none => refuse 0x40 .param s
  | some n =>
    if s.doors[n].state ≠ .boltFault ∨ (overridden s n = false ∧ contactOpen s n = true) then refuse 0x40 .state s
    else
      let s1 := writeConfig n.val (.door .retry) s
      reply 0x40 .ok .empty
        (serve (if overridden s n then joinWithdraw n .egress s1 else joinThrow n s1))

end Sys2Proof.Machine
end

