-- ==== Sys2Proof/Machine/Lines.lean ====
section
/-! DEFINITION. The line supervisor (chapter 9): flags and their conditions, test runs, the firing check. -/

namespace Sys2Proof.Machine

/-! ## Flags (R168) and the IMPAIRED condition that reads them (R44) -/

/-- The IMPAIRED condition of a zone, re-evaluated (R44). -/
def reImpaired (z : Zone) (s : State) : State := setCondition (Source.impaired z) (impaired s z) s

/-- Change a circuit's flags; the CIRCUIT condition follows, and IMPAIRED of the circuit's zone (R168). -/
def changeFlags (c : CircuitNo) (f : CircuitFlags → CircuitFlags) (s : State) : State :=
  let s1 := s.modLine fun l => { l with flags := upd l.flags c f }
  let s2 := setCondition (Source.circuit c) (circuitFlagged s1 c) s1
  match circuitZone c with
  | some z => reImpaired z s2
  | none => s2

/-- Change the SUPPLY flag; the SUPPLY condition follows, and IMPAIRED of every zone (R168). -/
def changeSupply (b : Bool) (s : State) : State :=
  let s1 := s.modLine fun l => { l with supply := b }
  forEach allZones reImpaired (setCondition Source.supply b s1)

/-! ## Runs (R170, R172, R174, R177) -/

/-- A run starts over a set of circuits (R170). -/
def startRun (kind : RunKind) (set : CircuitNo → Bool) (s : State) : State :=
  s.modRun fun _ => RunRecord.fresh kind set

/-- Every circuit's result, changed by a rule on results. -/
def mapResults (f : CircuitResult → CircuitResult) (s : State) : State :=
  s.modRun fun run => { run with results := run.results.map f }

/-- What a failed supply check makes of a result (R172). -/
def CircuitResult.afterFailedSupply : CircuitResult → CircuitResult
  | .waiting => .skippedSupply
  | r => r

/-- What an abort makes of a result (R177). -/
def CircuitResult.afterAbort : CircuitResult → CircuitResult
  | .waiting => .notReached
  | .testingShort => .interrupted
  | .testingOpen => .interrupted
  | r => r

/-- What an abort makes of the supply result (R177). -/
def SupplyResult.afterAbort : SupplyResult → SupplyResult
  | .testing => .notReached
  | r => r

/-- The end of the supply step (R172). -/
def endSupplyStep (faulty : Bool) (s : State) : State :=
  if faulty then
    let s1 := changeSupply true (s.modRun fun run => { run with supply := .failed })
    let s2 := write .lineResult 0 0 .lineSupply s1
    endRun (mapResults CircuitResult.afterFailedSupply s2)
  else passTurn allCircuits (s.modRun fun run => { run with supply := .passed })

/-- The end of a circuit's SHORT check (R174). -/
def endShortStep (c : CircuitNo) (faulty : Bool) (s : State) : State :=
  if faulty then
    let s1 := changeFlags c (fun f => { f with shortFlag := true }) (setResult c .shortFound s)
    passTurn allCircuits (write .lineResult c.val 0 .lineShort s1)
  else setResult c .testingOpen s

/-- The end of a circuit's OPEN check (R174). -/
def endOpenStep (c : CircuitNo) (faulty : Bool) (s : State) : State :=
  if faulty then
    let s1 := changeFlags c (fun f => { f with openFlag := true }) (setResult c .openFound s)
    passTurn allCircuits (write .lineResult c.val 0 .lineOpen s1)
  else passTurn allCircuits (setResult c .passed s)

/-- The check in progress, while a run is RUNNING (R180). -/
def checkInProgress (s : State) : Option CheckInProgress :=
  if s.line.run.state ≠ .running then none
  else if s.line.run.supply = .testing then some .supply
  else
    match allCircuits.find? fun c => decide (s.line.run.results[c] = .testingShort) with
    | some c => some (.short c)
    | none =>
      match allCircuits.find? fun c => decide (s.line.run.results[c] = .testingOpen) with
      | some c => some (.opened c)
      | none => none

/-- What a check's result does; `faulty` says that the check shows its fault (R172, R174). -/
def takeResult (check : CheckInProgress) (faulty : Bool) (s : State) : State :=
  match check with
  | .supply => endSupplyStep faulty s
  | .short c => endShortStep c faulty s
  | .opened c => endOpenStep c faulty s

/-- The end of the step that makes a check; of a check that is over it does nothing (R174). -/
def endStep (check : CheckInProgress) (faulty : Bool) (s : State) : State :=
  if checkInProgress s = some check then takeResult check faulty s else s

/-- A firing aborts a running run (R177). -/
def abortRun (s : State) : State :=
  if s.line.run.state = .running then
    write .lineResult 0 0 .lineAborted
      (mapResults CircuitResult.afterAbort
        (s.modRun fun run => { run with state := .aborted, supply := SupplyResult.afterAbort run.supply }))
  else s

/-! ## The firing check (R179) -/

/-- A firing of a release circuit begins: the run is aborted, the check starts with its mark clear (R177, R179). -/
def beginFiring (c : Fin 8) (s : State) : State :=
  (abortRun s).modLine fun l => { l with checks := upd l.checks c fun _ => some false }

/-- Firing current was seen on the circuit (R179). -/
def currentSeen (s : State) (c : Fin 8) : Bool := decide (s.line.checks[c] = some true)

/-- A firing ends: the check stops, and no current sets OPEN (R179). -/
def endFiring (c : Fin 8) (s : State) : State :=
  let s1 := s.modLine fun l => { l with checks := upd l.checks c fun _ => none }
  if currentSeen s c then s1 else changeFlags (releaseCircuit c) (fun f => { f with openFlag := true }) s1

/-- Firing current arrives; without a running check it is ignored (R179). -/
def arriveCurrent (c : Fin 8) (s : State) : State :=
  if s.line.checks[c].isSome then s.modLine fun l => { l with checks := upd l.checks c fun _ => some true } else s

/-! ## The periodic test (R178) -/

/-- The periodic timer's setting for an interval of `t` minutes; 0 turns it off. -/
def periodicStart (t : Nat) : Option Nat := if t = 0 then none else some (60 * t)

/-- The periodic timer expires (R178). -/
def expirePeriodic (s : State) : State :=
  if s.line.periodic.isSome then
    let s1 := s.modLine fun l => { l with periodic := periodicStart s.store.testInterval }
    if s.line.run.state = .running ∨ anyFiring s = true then s1
    else startRun .periodic (fun c => !circuitFlagged s c) s1
  else s

/-! ## Messages (R171, R176, R180) -/

def lineTest (selection : Nat) (s : State) : State :=
  if !selectionOk 16 selection then refuse 0x60 .param s
  else if s.line.run.state = .running ∨ anyFiring s = true then refuse 0x60 .state s
  else reply 0x60 .ok .empty (startRun .host (selected selection) s)

/-- Minutes left on the periodic timer (notes/assumptions/10.md). -/
def minutesLeft (left : Nat) : Nat := if Config.minutesRoundUp then divUp left 60 else left / 60

/-- The free value of the milliseconds left in a step, at most 250 (R169; notes/assumptions/10.md). -/
def millisecondsLeft (n : Nat) : Nat := Config.stepMilliseconds n % 251

/-- The fields of LINE_STATUS (R180). -/
def lineReport (s : State) : LineReport where
  run := s.line.run
  check := checkInProgress s
  millisecondsLeft := if (checkInProgress s).isSome then millisecondsLeft s.free else 0
  flags := s.line.flags
  supplyFlag := s.line.supply
  interval := s.store.testInterval
  minutesLeft := s.line.periodic.map minutesLeft
  checks := s.line.checks
  outputsOn := s.outputs.map Output.on

def lineStatus (s : State) : State := { reply 0x61 .ok (.lineReport (lineReport s)) s with free := s.free + 1 }

def lineClear (selection : Nat) (s : State) : State :=
  if !selectionOk 17 selection then refuse 0x62 .param s
  else
    let s1 :=
      forEach (allCircuits.filter fun c => selected selection c) (fun c => changeFlags c fun _ => ⟨false, false⟩) s
    let s2 := if selection.testBit 16 then changeSupply false s1 else s1
    reply 0x62 .ok (.lineFlags s2.line.flags s2.line.supply) (writeConfig 0 .clear s2)

end Sys2Proof.Machine
end

