-- ==== Sys2Proof/Machine/Watch.lean ====
section
/-! DEFINITION. The watch unit (sections 7.1 to 7.3): staff activations, the lone timer, the escort and occupant
conditions, the records at a discharge; and the annunciator driver's SILENCE (R142). -/

namespace Sys2Proof.Machine

/-- The zone's full lone time in seconds (R136). -/
def loneTime (s : State) (z : Zone) : Nat := 60 * s.store.zones[z].loneTime

/-- The lone timer starts for the full lone time (R134). -/
def startLone (z : Zone) (s : State) : State := s.setLone z (some (loneTime s z))

/-- A running lone timer is stopped: an expiry of it that comes before a second has passed was outrun (R133, R135;
notes/assumptions/29.md). -/
def stopLone (z : Zone) (s : State) : State :=
  if s.loneTimer[z].isSome then (s.setLone z none).setOutrun z true else s

/-- The lone condition of a zone, re-evaluated: it starts or stops the lone timer (R134). -/
def reLone (z : Zone) (s : State) : State :=
  if loneCondition s z then
    if s.loneTimer[z].isSome then s else startLone z s
  else stopLone z s

/-- The escort condition of a zone, re-evaluated (R137). -/
def reEscort (z : Zone) (s : State) : State := setCondition (Source.escort z) (escortCondition s z) s

/-- The occupant condition of a zone, re-evaluated (R138). -/
def reOccupant (z : Zone) (s : State) : State := setCondition (Source.occupant z) (occupantCondition s z) s

/-- The watch unit takes a change of a zone's list or certainty (R127, R134, R137, R138). -/
def watchOccupancy (z : Zone) (s : State) : State := reOccupant z (forEach allZones reEscort (reLone z s))

/-- The lone timer of a zone expires (R135). An expiry that was outrun does nothing but be gone (R133). -/
def expireLone (z : Zone) (s : State) : State :=
  if s.loneOutrun[z] then s.setOutrun z false
  else if s.loneTimer[z].isSome then
    startLone z
      (write .lone (Zone.number z) (s.occupancy[z].list.headD 0) .blank (edgeEvent (Source.lone z) s))
  else s

/-- A check-in stops the running lone timer of the channel's zone and starts it again (R133). -/
def restartLone (z : Zone) (s : State) : State :=
  if s.loneTimer[z].isSome then startLone z (stopLone z s) else s

/-- An activation of a staff channel (R132, R133). -/
def staffActivation (n : StaffNo) (s : State) : State :=
  let kind := s.store.staff[n].kind
  match kind with
  | .checkIn =>
    let s1 := write .staff n.val 0 (.staff kind) s
    match s.store.staff[n].zone with
    | some z => restartLone z s1
    | none => s1
  | _ => write .staff n.val 0 (.staff kind) (edgeEvent (Source.staff n) s)

/-- The OCCUPANT_AT_DISCHARGE records of a zone that enters DISCHARGE (R139). -/
def occupantRecords (z : Zone) (s : State) : State :=
  let detail := if s.occupancy[z].certain then Detail.certain else Detail.uncertain
  if s.occupancy[z].list.isEmpty then
    if s.occupancy[z].certain then s else write .occupantAtDischarge (Zone.number z) 0 detail s
  else
    forEach s.occupancy[z].list (fun cred => write .occupantAtDischarge (Zone.number z) cred detail) s

/-- Silence one output: a silenceable one is silenced and journalled, any other is left (R142). -/
def silenceOutput (o : OutputNo) (s : State) : State :=
  if s.store.outputs[o].silenceable then
    writeConfig o.val .silence (refreshOutput o (s.modOutput o fun v => { v with silenced := true }))
  else s

def silence (selection : Nat) (s : State) : State :=
  if !selectionOk 8 selection then refuse 0x5C .param s
  else
    let chosen := allOutputs.filter fun o => selected selection o
    let status := if chosen.all fun o => s.store.outputs[o].silenceable then Status.ok else Status.state
    reply 0x5C status .empty (forEach chosen silenceOutput s)

end Sys2Proof.Machine
end

