-- ==== Sys2Proof/Machine/Zones.lean ====
section
/-! DEFINITION. The release sequencer (chapter 2) and the agent estimator (chapter 3). -/

namespace Sys2Proof.Machine

/-! ## Change of release state (R21, R25, R44, R46) -/

/-- Egress request or end, by the states a zone leaves and enters (R25). -/
def egressMove (old new : ReleaseState) (z : Zone) (s : State) : State :=
  if ReleaseState.isQuiet old && ReleaseState.isEgress new then egressRequest z s
  else if ReleaseState.isEgress old && !ReleaseState.isEgress new then egressEnd z s
  else s

/-- The zone's stored record takes its present release state (R46). -/
def storeRecord (z : Zone) (s : State) : State := s.modRecord z fun r => { r with state := s.release[z].state }

/-- The zone goes to a state: its timers stop, the stored record is written where the state asks for it, ZONE_STATE is
journalled, IMPAIRED and the occupant condition are re-evaluated, and the doors are told (R21, R25, R44, R46, R138). -/
def enterStateAs (detail : Detail) (z : Zone) (st : ReleaseState) (s : State) : State :=
  let s1 := s.modRelease z fun r => { r with state := st, interval := false, doorHold := none, occupancyHold := none }
  let s2 := if ReleaseState.isStored st then storeRecord z s1 else s1
  let s3 := write .zoneState (Zone.number z) 0 detail s2
  egressMove s.release[z].state st z (reOccupant z (reImpaired z s3))

def enterState (z : Zone) (st : ReleaseState) (s : State) : State := enterStateAs (.state st) z st s

/-- ABORT_HELD with `remaining` frozen (R22, R23, R27). -/
def enterAbortHeld (z : Zone) (remaining : Nat) (s : State) : State :=
  enterState z .abortHeld (s.modRelease z fun r => { r with remaining := remaining })

/-! ## Firing (R35, R36) -/

/-- The bank chosen on entry to DISCHARGE (R35). -/
def chooseBank (s : State) (z : Zone) : Bank :=
  if !bankFlagged s z .main then .main else if bankAvailable s z .reserve then .reserve else .main

/-- Set a bank-used flag of the stored record. -/
def ZoneRecord.use (b : Bank) (r : ZoneRecord) : ZoneRecord :=
  match b with
  | .main => { r with mainUsed := true }
  | .reserve => { r with reserveUsed := true }

/-- Fire a bank (R36). -/
def fireBank (z : Zone) (b : Bank) (s : State) : State :=
  let s1 := storeRecord z (s.modRecord z (ZoneRecord.use b))
  let s2 := s1.modRelease z fun r => { r with firing := some ⟨b, s.store.zones[z].firingTime⟩ }
  beginFiring (bankRelease z b) (write .release (Zone.number z) 0 (.bank b) s2)

/-- The zone enters DISCHARGE (R35, R139). -/
def enterDischarge (z : Zone) (s : State) : State :=
  let s1 := enterState z .discharge s
  let s2 := fireBank z (chooseBank s1 z) s1
  occupantRecords z (edgeEvent (Source.discharge z) s2)

/-- A rule sends the zone to DISCHARGE: an ACTIVE abort station turns it to ABORT_HELD (R22). -/
def goDischarge (z : Zone) (s : State) : State :=
  if abortHeld s z then enterAbortHeld z 0 s else enterDischarge z s

/-! ## Countdown and holds (R26, R29, R31) -/

/-- The occupancy check (R31). -/
def occupancyCheck (z : Zone) (s : State) : State :=
  if emptyCertain s z then goDischarge z s
  else
    (enterState z .occupiedHold s).modRelease z
      fun r => { r with occupancyHold := some s.store.zones[z].occupancyHoldMax }

/-- The countdown ends (R29). -/
def endCountdown (z : Zone) (s : State) : State :=
  if s.release[z].manual then goDischarge z s
  else if zoneDoorOpen s z ∧ s.store.zones[z].doorHoldMax ≠ 0 then
    (enterState z .doorHold s).modRelease z fun r => { r with doorHold := some s.store.zones[z].doorHoldMax }
  else occupancyCheck z s

/-- COUNTDOWN with `remaining`; with 0 it ends at once (R26). -/
def enterCountdown (z : Zone) (remaining : Nat) (s : State) : State :=
  let s1 := enterState z .countdown (s.modRelease z fun r => { r with remaining := remaining })
  if remaining = 0 then endCountdown z s1 else s1.modRelease z fun r => { r with interval := true }

/-- COUNTDOWN, or ABORT_HELD while the abort station is ACTIVE (R23, R24, R34). -/
def beginCountdown (z : Zone) (remaining : Nat) (s : State) : State :=
  if abortHeld s z then enterAbortHeld z remaining s else enterCountdown z remaining s

/-! ## What reaches the sequencer (R23, R24, R27, R28) -/

/-- A rise of the held detection state (R23). -/
def detectionRise (z : Zone) (d : Detection) (s : State) : State :=
  match s.release[z].state, d with
  | .normal, .firstKnock => enterState z .alerted s
  | .normal, .confirmed => beginCountdown z s.store.zones[z].countdown s
  | .alerted, .confirmed => beginCountdown z s.store.zones[z].countdown s
  | _, _ => s

def setManual (z : Zone) (s : State) : State := s.modRelease z fun r => { r with manual := true }

/-- A manual station activation in a quiet state (R24). -/
def manualStart (z : Zone) (s : State) : State :=
  if s.store.zones[z].manualDelay = 0 then goDischarge z (setManual z s)
  else beginCountdown z s.store.zones[z].manualDelay (setManual z s)

/-- A manual station activation during a countdown (R24). -/
def manualShorten (z : Zone) (s : State) : State :=
  let remaining := min s.release[z].remaining s.store.zones[z].manualDelay
  let s1 := (setManual z s).modRelease z fun r => { r with remaining := remaining }
  if remaining = 0 then endCountdown z s1 else s1

/-- A manual release station activation (R24). -/
def manualActivation (z : Zone) (s : State) : State :=
  match s.release[z].state with
  | .normal => manualStart z s
  | .alerted => manualStart z s
  | .countdown => manualShorten z s
  | .abortHeld => setManual z s
  | .doorHold => goDischarge z (setManual z s)
  | .occupiedHold => goDischarge z (setManual z s)
  | st => write .manualIgnored (Zone.number z) 0 (.state st) s

/-- An abort station activation (R27). -/
def abortActivation (z : Zone) (s : State) : State :=
  match s.release[z].state with
  | .countdown => enterAbortHeld z s.release[z].remaining s
  | .doorHold => enterAbortHeld z 0 s
  | .occupiedHold => enterAbortHeld z 0 s
  | _ => s

/-- The remaining a zone leaves ABORT_HELD with (R27). -/
def resumedRemaining (s : State) (z : Zone) : Nat :=
  let v := s.store.zones[z]
  let first := match v.abortMode with
    | .restart => v.countdown
    | .resume => max s.release[z].remaining 10
  if s.release[z].manual then min first v.manualDelay else first

/-- An abort station release (R27). -/
def abortRelease (z : Zone) (s : State) : State :=
  if s.release[z].state = .abortHeld then enterCountdown z (resumedRemaining s z) s else s

/-- A closing report of a door of the zone (R28, R30). -/
def doorClosing (z : Zone) (s : State) : State :=
  if s.release[z].state = .doorHold ∧ zoneDoorOpen s z = false then occupancyCheck z s else s

/-- A report of a change of the zone's list or certainty (R28, R32). -/
def occupancyReport (z : Zone) (s : State) : State :=
  if s.release[z].state = .occupiedHold ∧ emptyCertain s z = true then goDischarge z s else s

/-! ## The estimator (R50, R53, R57, R58, R61) -/

/-- The estimate starts (R50). -/
def startEstimate (z : Zone) (doorOpened : Bool) (s : State) : State :=
  s.modEstimate z fun _ => ⟨10000, 0, doorOpened, false, some 10⟩

/-- A door opening is reported to the estimator (R54). -/
def noteOpening (z : Zone) (s : State) : State :=
  if ReleaseState.isStepping s.release[z].state then s.modEstimate z fun e => { e with doorOpened := true } else s

/-- A loss: C × c ÷ 65536, rounded up (R53). -/
def loss (level constant : Nat) : Nat := divUp (level * constant) 65536

/-- The estimate after the losses of a step (R53). -/
def reduce (level base door : Nat) (doorOpened : Bool) : Nat :=
  let level1 := level - loss level base
  if doorOpened then level1 - loss level1 door else level1

/-- Steps 1 to 5 of R53, the step timer restarted (R52). -/
def stepEstimate (z : Zone) (s : State) : State :=
  let v := s.store.zones[z]
  let base := if s.release[z].state = .vent then v.ventConstant else v.soakConstant
  s.modEstimate z fun e =>
    { level := reduce e.level base v.doorConstant e.doorOpened
      steps := min 65535 (e.steps + 1)
      doorOpened := zoneDoorOpen s z
      soakLoss := e.soakLoss
      timer := some 10 }

/-- A reserve release in SOAK or SOAK_DONE: the reserve fires and its fraction is added (R40, R57). -/
def releaseReserve (z : Zone) (s : State) : State :=
  (fireBank z .reserve s).modEstimate z
    fun e => { e with level := min 10000 (e.level + s.store.zones[z].reserveFraction) }

/-- The reason of a soak loss (R58). -/
def soakReason (s : State) (z : Zone) : SoakReason :=
  if !s.store.zones[z].reservePresent then .reserveAbsent
  else if bankUsed s z .reserve then .reserveUsed
  else if bankFlagged s z .reserve then .reserveFlagged
  else .autoOff

/-- The soak-loss handling (R58). -/
def soakLoss (z : Zone) (s : State) : State :=
  if s.estimate[z].soakLoss then s
  else
    let s1 := edgeEvent (Source.soakLoss z) (s.modEstimate z fun e => { e with soakLoss := true })
    write .soakLoss (Zone.number z) 0 (.reason (soakReason s z)) s1

/-- The hold check (R56). -/
def holdCheck (z : Zone) (s : State) : State :=
  let v := s.store.zones[z]
  if s.estimate[z].level < v.holdThreshold ∧ s.estimate[z].steps < v.minimumSoak then
    if bankAvailable s z .reserve && v.reserveAuto then releaseReserve z s else soakLoss z s
  else s

/-- The minimum-soak report (R59, R39). -/
def minimumSoak (z : Zone) (s : State) : State :=
  if s.estimate[z].steps = s.store.zones[z].minimumSoak then enterState z .soakDone s else s

/-- The re-entry check (R61, R42). -/
def reentryCheck (z : Zone) (s : State) : State :=
  if s.estimate[z].level ≤ s.store.zones[z].reentryThreshold then
    enterState z .cleared (s.modEstimate z fun e => { e with doorOpened := false, timer := none })
  else s

/-- A step of the estimate (R53). -/
def estimateStep (z : Zone) (s : State) : State :=
  if s.estimate[z].timer.isSome then
    let s1 := stepEstimate z s
    match s.release[z].state with
    | .soak => minimumSoak z (holdCheck z s1)
    | .vent => reentryCheck z s1
    | _ => s1
  else s

/-! ## Timers of the sequencer (R26, R30, R32, R37) -/

/-- The one-second interval expires (R26). -/
def expireInterval (z : Zone) (s : State) : State :=
  if s.release[z].state = .countdown ∧ s.release[z].interval = true then
    let s1 := s.modRelease z fun r => { r with remaining := r.remaining - 1 }
    if s1.release[z].remaining = 0 then endCountdown z s1 else s1
  else s

/-- The door hold timer expires (R30). -/
def expireDoorHold (z : Zone) (s : State) : State :=
  if s.release[z].state = .doorHold ∧ s.release[z].doorHold.isSome then occupancyCheck z s else s

/-- The occupancy hold timer expires (R32). -/
def expireOccupancyHold (z : Zone) (s : State) : State :=
  if s.release[z].state = .occupiedHold ∧ s.release[z].occupancyHold.isSome then
    match s.store.zones[z].occupiedRelease with
    | .auto => goDischarge z s
    | .manualOnly => s.modRelease z fun r => { r with occupancyHold := none }
  else s

/-- DISCHARGE ends in SOAK (R37, R50). -/
def enterSoak (z : Zone) (s : State) : State :=
  let s1 := enterState z .soak s
  startEstimate z (zoneDoorOpen s1 z) s1

/-- A firing ends: FIRING_FAILED where no current was seen, and the line supervisor is told (R37). -/
def firingEnds (z : Zone) (b : Bank) (s : State) : State :=
  let s1 := s.modRelease z fun r => { r with firing := none }
  endFiring (bankRelease z b)
    (if currentSeen s (bankRelease z b) then s1 else write .firingFailed (Zone.number z) 0 (.bank b) s1)

/-- What DISCHARGE does at the end of a firing: the reserve after a failed main, else SOAK (R37). -/
def afterFiring (z : Zone) (b : Bank) (seen : Bool) (s : State) : State :=
  if s.release[z].state = .discharge then
    if b = .main ∧ seen = false ∧ bankAvailable s z .reserve = true then fireBank z .reserve s else enterSoak z s
  else s

/-- The firing timer expires (R37). -/
def expireFiring (z : Zone) (s : State) : State :=
  match s.release[z].firing with
  | none => s
  | some f => afterFiring z f.bank (currentSeen s (bankRelease z f.bank)) (firingEnds z f.bank s)

/-! ## Messages (R33, R34, R40, R41, R43, R45) -/

def zoneDisable (zone : Nat) (s : State) : State :=
  match zoneNumbered zone with
  | none => refuse 0x31 .param s
  | some z =>
    if s.release[z].state = .normal ∨ s.release[z].state = .alerted then
      reply 0x31 .ok .empty (enterState z .disabled s)
    else refuse 0x31 .state s

/-- What a DISABLED zone goes to, by its held detection (R34). -/
def enableZone (z : Zone) (s : State) : State :=
  match s.detection[z] with
  | .quiet => enterState z .normal s
  | .firstKnock => enterState z .alerted s
  | .confirmed => beginCountdown z s.store.zones[z].countdown s

def zoneEnable (zone : Nat) (s : State) : State :=
  match zoneNumbered zone with
  | none => refuse 0x32 .param s
  | some z =>
    if s.release[z].state = .disabled then reply 0x32 .ok .empty (enableZone z s) else refuse 0x32 .state s

def vent (zone : Nat) (force : Bool) (s : State) : State :=
  match zoneNumbered zone with
  | none => refuse 0x33 .param s
  | some z =>
    if firing s z then refuse 0x33 .state s
    else if s.release[z].state = .soakDone then reply 0x33 .ok .empty (enterState z .vent s)
    else if s.release[z].state = .soak ∧ force = true then
      reply 0x33 .ok .empty (enterStateAs .ventForced z .vent s)
    else refuse 0x33 .state s

def reserveRelease (zone : Nat) (s : State) : State :=
  match zoneNumbered zone with
  | none => refuse 0x34 .param s
  | some z =>
    if (s.release[z].state = .soak ∨ s.release[z].state = .soakDone) ∧ firing s z = false ∧
        bankAvailable s z .reserve = true then
      reply 0x34 .ok .empty (releaseReserve z s)
    else refuse 0x34 .state s

/-- The detector monitor's part of a ZONE_RESET; with every latch clear the derived detection is QUIET (R17). -/
def resetDetection (z : Zone) (s : State) : State :=
  let clearLatch := fun (c : ChannelNo) (s : State) =>
    if s.store.detectors[c].zone = some z then s.modChannel c fun ch => { ch with latch := false, arming := 0 } else s
  let s1 := (forEach allChannels clearLatch s).setDetection z .quiet
  setCondition (Source.firstKnock z) false (setCondition (Source.fire z) false s1)

/-- An accepted ZONE_RESET (R43). -/
def resetZone (z : Zone) (s : State) : State :=
  let s1 := s.modRelease z fun r => { r with manual := false, remaining := 0 }
  let s2 := s1.modRecord z fun r => { r with mainUsed := false, reserveUsed := false }
  (resetDetection z (enterState z .normal s2)).modEstimate z fun _ => Estimate.absent

def zoneReset (zone : Nat) (s : State) : State :=
  match zoneNumbered zone with
  | none => refuse 0x35 .param s
  | some z =>
    match s.release[z].state with
    | .alerted | .abortHeld | .cleared => reply 0x35 .ok .empty (resetZone z s)
    | _ => refuse 0x35 .state s

/-- What ZONE_STATUS says of the holds (R45). -/
def holdReport (s : State) (z : Zone) : HoldReport :=
  match s.release[z].doorHold, s.release[z].occupancyHold with
  | some n, _ => .doorHold n
  | none, some n => .occupancyHold n
  | none, none => if s.release[z].state = .occupiedHold then .expired else .idle

/-- The fields of ZONE_STATUS (R45). -/
def zoneReport (s : State) (z : Zone) : ZoneReport where
  state := s.release[z].state
  detection := s.detection[z]
  abort := abortHeld s z
  manual := s.release[z].manual
  remaining := s.release[z].remaining
  hold := holdReport s z
  egress := ReleaseState.isEgress s.release[z].state
  firing := s.release[z].firing.map Firing.bank
  firingLeft := (s.release[z].firing.map Firing.left).getD 0
  mainUsed := bankUsed s z .main
  reserveUsed := bankUsed s z .reserve
  mainAvailable := bankAvailable s z .main
  reserveAvailable := bankAvailable s z .reserve
  impaired := impaired s z
  estimate := s.estimate[z].level
  steps := s.estimate[z].steps
  doorOpened := s.estimate[z].doorOpened
  soakLoss := s.estimate[z].soakLoss

def zoneStatus (zone : Nat) (s : State) : State :=
  match zoneNumbered zone with
  | none => refuse 0x36 .param s
  | some z => reply 0x36 .ok (.zoneReport (zoneReport s z)) s

end Sys2Proof.Machine
end

