-- ==== Sys2Proof/Machine/Detect.lean ====
section
/-! DEFINITION. The detector monitor (section 1.2): samples, held detection, DETECTOR_READ. -/

namespace Sys2Proof.Machine

/-! ## Held detection (R16) -/

/-- The FIRE and FIRST_KNOCK conditions of a zone (R16). -/
def fireConditions (z : Zone) (s : State) : State :=
  let s1 := setCondition (Source.fire z) (decide (s.detection[z] = .confirmed)) s
  setCondition (Source.firstKnock z) (decide (s1.detection[z] = .firstKnock)) s1

/-- A rise of the held state: it is delivered to the sequencer, and the conditions follow it (R16). -/
def raiseDetection (z : Zone) (d : Detection) (s : State) : State :=
  fireConditions z (detectionRise z d (s.setDetection z d))

/-- Re-derive a zone's detection; only a rise is taken (R16). -/
def redetect (z : Zone) (s : State) : State :=
  let d := derivedDetection s z
  if Detection.rank s.detection[z] < Detection.rank d then raiseDetection z d s else s

/-! ## Samples (R10 to R13) -/

/-- A count from 0 to 3 with one added (R11). -/
def runUp (n : Nat) : Nat := min 3 (n + 1)

/-- The sample is in range (R10). -/
def inRange (value : Nat) : Bool := decide (200 ≤ value ∧ value ≤ 3900)

/-- The class of an out-of-range sample (R10). -/
def sampleClass (value : Nat) : FaultFlag := if value < 200 then .openWire else .shortWire

/-- Fault runs and flag after an out-of-range sample (R11). -/
def outOfRange (value : Nat) (c : Channel) : Channel :=
  { c with
    inRun := 0
    outRun := runUp c.outRun
    fault := if runUp c.outRun = 3 ∨ c.fault ≠ .clear then sampleClass value else .clear }

/-- The arming count after an in-range sample (R12). -/
def armingAfter (v : DetectorSettings) (value : Nat) (c : Channel) : Nat :=
  if c.latch then c.arming
  else if v.threshold ≤ value then min 2 (c.arming + 1)
  else if value < v.threshold - v.hysteresis then 0
  else c.arming

/-- Fault runs and flag, peak, arming count and latch after an in-range sample (R11, R12, R13). -/
def withinRange (v : DetectorSettings) (value : Nat) (c : Channel) : Channel :=
  { c with
    outRun := 0
    inRun := runUp c.inRun
    fault := if runUp c.inRun = 3 then .clear else c.fault
    peak := max c.peak value
    arming := armingAfter v value c
    latch := c.latch || decide (armingAfter v value c = 2) }

/-- A channel after a sample. One in zone 0 is at rest: only last sample and peak are kept (R10). -/
def sampleChannel (v : DetectorSettings) (value : Nat) (c : Channel) : Channel :=
  let c := { c with last := value }
  if v.zone.isNone then { c with peak := if inRange value then max c.peak value else c.peak }
  else if inRange value then withinRange v value c
  else outOfRange value c

/-- The DETECTOR_FAULT condition of a channel (R11). -/
def faultCondition (c : ChannelNo) (s : State) : State :=
  setCondition (Source.detectorFault c) (decide (s.channels[c].fault ≠ .clear)) s

/-- A sample arrives on a channel, as one event (R10). -/
def sample (c : ChannelNo) (value : Nat) (s : State) : State :=
  let s1 := faultCondition c (s.modChannel c (sampleChannel s.store.detectors[c] value))
  match s.store.detectors[c].zone with
  | none => s1
  | some z =>
    if s1.channels[c].latch = s.channels[c].latch ∧ s1.channels[c].fault = s.channels[c].fault then s1
    else redetect z s1

/-! ## DETECTOR_READ (R13) -/

def channelReport (c : Channel) : ChannelReport := ⟨c.last, c.latch, c.fault, c.arming, c.peak⟩

def detectorRead (channel : Nat) (clearPeak : Bool) (s : State) : State :=
  match item 16 channel with
  | none => refuse 0x37 .param s
  | some c =>
    let s1 := if clearPeak then s.modChannel c fun ch => { ch with peak := 0 } else s
    reply 0x37 .ok (.channelReport (channelReport s.channels[c])) s1

end Sys2Proof.Machine
end

