-- ==== Sys2Proof/Machine/Occupancy.lean ====
section
/-! DEFINITION. The occupancy lists (section 6.4), the passes applied to them, and what a door's contact, exit request
and first settling set going in several blocks (R73, R74, R78, R92). -/

namespace Sys2Proof.Machine

/-! ## Changes of list and certainty (R127) -/

/-- A change of a zone's list or certainty is delivered to the sequencer and to the watch unit (R127). -/
def occupancyChanged (z : Zone) (s : State) : State := watchOccupancy z (occupancyReport z s)

def listed (s : State) (z : Zone) (cred : Nat) : Bool := s.occupancy[z].list.contains cred

/-- An entry leaves a list, if it stands there (R122). -/
def removeEntry (cred : Nat) (z : Zone) (s : State) : State :=
  if listed s z cred then occupancyChanged z (s.modOccupancy z fun o => { o with list := o.list.erase cred }) else s

/-- An entry joins a list at its end (R122). -/
def appendEntry (cred : Nat) (z : Zone) (s : State) : State :=
  occupancyChanged z (s.modOccupancy z fun o => { o with list := o.list ++ [cred] })

/-- The certainty flag takes a value; only a change is delivered (R127). -/
def setCertain (z : Zone) (b : Bool) (s : State) : State :=
  if s.occupancy[z].certain = b then s else occupancyChanged z (s.modOccupancy z fun o => { o with certain := b })

/-! ## Passes (R123, R124) -/

/-- The pass meets a full list (R123, R124). -/
def meetsFull (s : State) (n : DoorNo) (p : Pass) : Bool :=
  match p.dir with
  | .entry =>
    match s.store.doors[n].inside with
    | some z => !listed s z p.cred && decide (32 ≤ s.occupancy[z].list.length)
    | none => false
  | .exit =>
    match s.store.doors[n].outside with
    | some y => decide (32 ≤ (s.occupancy[y].list.erase p.cred).length)
    | none => false

/-- Join a zone's list, or clear its certainty where the list is full (R123). -/
def joinList (full : Bool) (cred : Nat) (z : Zone) (s : State) : State :=
  if full then setCertain z false s else appendEntry cred z s

/-- An ENTRY pass, its record written (R123). -/
def applyEntry (full : Bool) (n : DoorNo) (cred : Nat) (s : State) : State :=
  match inside s n with
  | none => forEach allZones (removeEntry cred) s
  | some z =>
    let s1 := forEach (allZones.filter fun y => decide (y ≠ z)) (removeEntry cred) s
    if listed s1 z cred then s1 else joinList full cred z s1

/-- The zone left by an EXIT pass: an unlisted exit is journalled, and the last listed one makes it certain (R124). -/
def leaveZones (n : DoorNo) (cred : Nat) (s : State) : State :=
  match inside s n with
  | none => forEach allZones (removeEntry cred) s
  | some z =>
    if listed s z cred then
      let s1 := forEach allZones (removeEntry cred) s
      if s1.occupancy[z].list.isEmpty then setCertain z true s1 else s1
    else forEach allZones (removeEntry cred) (write .unlistedExit n.val cred .blank s)

/-- An EXIT pass, its record written (R124). -/
def applyExit (full : Bool) (n : DoorNo) (cred : Nat) (s : State) : State :=
  let s1 := leaveZones n cred s
  match s.store.doors[n].outside with
  | none => s1
  | some y => joinList full cred y s1

/-- A pass handed over at a door is applied (R123, R124). -/
def applyPass (n : DoorNo) (p : Pass) (s : State) : State :=
  let full := meetsFull s n p
  let s1 := write .passUsed n.val p.cred (if full then .listFull else .direction p.dir) s
  match p.dir with
  | .entry => applyEntry full n p.cred s1
  | .exit => applyExit full n p.cred s1

/-! ## A door's contact, exit request and first settling -/

/-- An opening is reported to the agent estimator of the inside zone; the sequencer takes no action on it (R28, R54). -/
def reportOpening (n : DoorNo) (s : State) : State :=
  match inside s n with
  | some z => noteOpening z s
  | none => s

/-- A door opens: the door acts, its passes are applied, the opening is reported (R73). -/
def contactOpened (n : DoorNo) (s : State) : State :=
  reportOpening n (forEach (openingPasses s n) (applyPass n) (openDoor n s))

/-- A door closes: the door acts, the closing is reported to the sequencer (R74, R28). -/
def contactClosed (n : DoorNo) (s : State) : State :=
  let s1 := closeDoor n s
  match inside s n with
  | some z => doorClosing z s1
  | none => s1

/-- A REX release is reported: an occupied room becomes uncertain (R125). -/
def rexReport (n : DoorNo) (s : State) : State :=
  match inside s n with
  | some z => if s.occupancy[z].list.isEmpty then s else setCertain z false s
  | none => s

/-- An exit request (R78). -/
def rexActivation (n : DoorNo) (s : State) : State :=
  if takesRequest s n then
    if interlockClear s n || overridden s n then
      rexReport n (write .rexExit n.val 0 .blank (release n .egress [] s))
    else write .rexRefused n.val 0 (.refusal .interlock) s
  else if standsOpen s n then s
  else write .rexRefused n.val 0 (.refusal .doorFault) s

/-- The door's inputs have given their first values (R92). -/
def inputsSettled (s : State) (n : DoorNo) : Bool :=
  s.inputs[contactInput n].first && (!motorBolt s n || s.inputs[boltInput n].first)

/-- A starting door whose inputs have settled takes its state; one found open is reported (R92). -/
def trySettle (n : DoorNo) (s : State) : State :=
  if s.doors[n].state = .starting ∧ inputsSettled s n = true then
    let s1 := serve (settleDoor n s)
    if contactOpen s n then reportOpening n s1 else s1
  else s

/-! ## Messages (R126, R127) -/

def occupancyRead (zone : Nat) (s : State) : State :=
  match zoneNumbered zone with
  | none => refuse 0x48 .param s
  | some z => reply 0x48 .ok (.occupancy s.occupancy[z].certain s.occupancy[z].list) s

def occupancyConfirm (zone : Nat) (s : State) : State :=
  match zoneNumbered zone with
  | none => refuse 0x49 .param s
  | some z => reply 0x49 .ok .empty (writeConfig (Zone.number z) .confirm (setCertain z true s))

def occupancyRemove (zone cred : Nat) (s : State) : State :=
  match zoneNumbered zone with
  | none => refuse 0x4A .param s
  | some z =>
    if cred = 0 then refuse 0x4A .param s
    else if listed s z cred then
      reply 0x4A .ok .empty (write .config (Zone.number z) cred .remove (removeEntry cred z s))
    else refuse 0x4A .notFound s

end Sys2Proof.Machine
end

