-- ==== Sys2Proof/Machine/Entry.lean ====
section
/-! DEFINITION. The entry unit's decisions: presentations and their sixteen checks (section 6.2), PINs and duress,
lockouts, custody (section 6.3). -/

namespace Sys2Proof.Machine

/-! ## What a presentation is judged against (R110) -/

/-- The target zone of a presentation at a reader (R110). -/
def targetZone (s : State) (r : ReaderNo) : Option Zone :=
  match s.store.readers[r].direction with
  | .entry => s.store.doors[s.store.readers[r].door].inside
  | .exit => s.store.doors[s.store.readers[r].door].outside

/-- The door's zone: inside, or outside where inside is 0 (R110). -/
def doorZone (s : State) (n : DoorNo) : Option Zone :=
  match s.store.doors[n].inside with
  | some z => some z
  | none => s.store.doors[n].outside

/-- The target zone where a check marked "ENTRY, zone" applies. -/
def entryZone (s : State) (r : ReaderNo) : Option Zone :=
  match s.store.readers[r].direction with
  | .entry => targetZone s r
  | .exit => none

/-- The door's zone is in AFTER_HOURS; two public sides count as DAY (R110). -/
def doorAfterHours (s : State) (n : DoorNo) : Bool :=
  match doorZone s n with
  | some z => decide (s.period[z] = .afterHours)
  | none => false

/-! ## Checks 3 to 9 on the record (R112) -/

/-- Checks 8 and 9, toward a zone. -/
def zoneRefusal (s : State) (z : Zone) : Option RefusalCode :=
  if s.store.modes[z] = .lockdown then some .lockdown
  else if ReleaseState.inSpan s.release[z].state then some .suppression
  else none

/-- Checks 6 to 9, at an ENTRY reader. -/
def accessRefusal (s : State) (r : ReaderNo) (c : Credential) : Option RefusalCode :=
  if c.doors.getLsbD s.store.readers[r].door.val = false then some .noDoor
  else if scheduleActive s c.schedule = false then some .schedule
  else (targetZone s r).bind (zoneRefusal s)

/-- Checks 3 to 9. -/
def recordRefusal (s : State) (r : ReaderNo) (c : Credential) : Option RefusalCode :=
  if c.suspended then some .suspended
  else match verdict s c with
    | .clock => some .clock
    | .notYetValid => some .notYetValid
    | .expired => some .expired
    | .valid =>
      match s.store.readers[r].direction with
      | .entry => accessRefusal s r c
      | .exit => none

/-! ## Check 10, the PIN (R113, R114) -/

/-- What check 10 finds. -/
inductive PinResult
  | ok | duress | refused (code : RefusalCode)
  deriving DecidableEq, Repr

/-- A PIN is required (R113). -/
def pinRequired (s : State) (r : ReaderNo) : Bool :=
  match s.store.readers[r].policy with
  | .never => false
  | .always => true
  | .afterHours => doorAfterHours s s.store.readers[r].door

/-- The duress form: the last digit raised by one, modulo 10 (R114). -/
def duressForm (pin : List Nat) : List Nat := pin.dropLast ++ [(pin.getLastD 0 + 1) % 10]

/-- Check 10 (R113). -/
def pinCheck (s : State) (r : ReaderNo) (pin digits : List Nat) : PinResult :=
  if pinRequired s r = false then .ok
  else if digits = [] then .refused .pinRequired
  else if pin = [] then .refused .noPin
  else if digits = pin then .ok
  else if digits = duressForm pin then .duress
  else .refused .badPin

/-! ## Checks 11 to 14 (R116, R117) -/

/-- ENTRY passes pending toward a zone (R117). -/
def pendingEntries (s : State) (z : Zone) : Nat :=
  ((zoneDoors s z).map fun n => s.doors[n].passes.countP fun p => decide (p.dir = .entry)).sum

/-- Check 13 fails (R117). -/
def overCapacity (s : State) (n : DoorNo) (z : Zone) : Bool :=
  decide (32 < s.occupancy[z].list.length + pendingEntries s z + 1 + if s.custody[n].isSome then 1 else 0)

/-- An escort is at hand (R117). -/
def escortAtHand (s : State) (n : DoorNo) (z : Zone) : Bool :=
  s.occupancy[z].list.any (isEscort s) || s.custody[n].any (fun w => Role.escorts w.role) ||
  s.doors[n].passes.any fun p => decide (p.dir = .entry) && isEscort s p.cred

/-- Checks 13 and 14. -/
def roomRefusal (s : State) (n : DoorNo) (z : Zone) (c : Credential) : Option RefusalCode :=
  if overCapacity s n z then some .full
  else if c.escortRequired && !escortAtHand s n z then some .escort
  else none

/-- Check 11, and the HARD case of check 12 (R116). -/
def doorRefusal (s : State) (r : ReaderNo) (c : Credential) : Option RefusalCode :=
  let st := s.doors[s.store.readers[r].door].state
  if st = .boltFault ∨ st = .starting then some .doorFault
  else match entryZone s r with
    | some z => if s.store.zones[z].passback = .hard ∧ listed s z c.number = true then some .passback else none
    | none => none

/-- The SOFT case of check 12 (R116). -/
def softPassback (s : State) (r : ReaderNo) (c : Credential) : Bool :=
  match entryZone s r with
  | some z => decide (s.store.zones[z].passback = .soft) && listed s z c.number
  | none => false

/-! ## Refusals, grants, custody -/

/-- One REFUSE record (R111). -/
def refuseEntry (r : ReaderNo) (code : RefusalCode) (cred : Nat) (s : State) : State :=
  write .refuse r.val cred (.refusal code) s

/-- A BAD_PIN refusal counts toward the lockout (R115). -/
def badPin (r : ReaderNo) (cred : Nat) (s : State) : State :=
  let s1 := (refuseEntry r .badPin cred s).modReader r fun v => { v with bad := min 3 (v.bad + 1) }
  if s1.readers[r].bad = 3 then
    refuseEntry r .lockout 0 (s1.modReader r fun v => { v with lockout := some 60 })
  else s1

/-- The door serves a request carrying passes: they are added, or applied after the GRANT records at an open door
(R70, R118). -/
def serveGrant (r : ReaderNo) (n : DoorNo) (detail : Detail) (passes : List Pass) (s : State) : State :=
  let writeGrants := forEach passes fun p => write .grant r.val p.cred detail
  let clearCount := fun (s : State) => s.modReader r fun v => { v with bad := 0 }
  if standsOpen s n then forEach passes (applyPass n) (clearCount (writeGrants s))
  else clearCount (writeGrants (release n .access passes s))

/-- Check 16 and the grant (R118). -/
def grant (r : ReaderNo) (detail : Detail) (creds : List Nat) (s : State) : State :=
  let n := s.store.readers[r].door
  let passes := creds.map fun c => ⟨c, s.store.readers[r].direction⟩
  if interlockClear s n = false then forEach creds (refuseEntry r .interlock) s
  else match requestRefusal s n passes with
    | some code => forEach creds (refuseEntry r code) s
    | none => serveGrant r n detail passes s

/-- A custody window closes unused (R121). -/
def closeCustody (n : DoorNo) (s : State) : State :=
  match s.custody[n] with
  | some w => write .passUnused n.val w.cred .custody (s.setCustody n none)
  | none => s

/-- Custody applies to a presentation at a reader toward a zone (R119). -/
def custodyApplies (s : State) (n : DoorNo) (z : Zone) : Bool :=
  match s.store.doors[n].custody with
  | .never => false
  | .always => true
  | .afterHours => decide (s.period[z] = .afterHours)

/-- A first presenter opens the window (R119). -/
def openCustody (r : ReaderNo) (n : DoorNo) (z : Zone) (c : Credential) (s : State) : State :=
  write .custodyFirst r.val c.number .blank
    (s.setCustody n (some ⟨c.number, c.holder, c.role, z, s.store.zones[z].custodyWindow⟩))

/-- A second presenter is decided against the window (R120). -/
def secondPresenter (r : ReaderNo) (n : DoorNo) (w : CustodyWindow) (c : Credential) (s : State) : State :=
  if c.holder = w.holder then refuseEntry r .custodySameHolder c.number s
  else if w.role ≠ .custodian ∧ c.role ≠ .custodian then closeCustody n (refuseEntry r .custodyRole c.number s)
  else grant r .pair [w.cred, c.number] (s.setCustody n none)

/-- Check 15 and what follows it (R118 to R120). -/
def custodyOrGrant (r : ReaderNo) (c : Credential) (s : State) : State :=
  let n := s.store.readers[r].door
  match entryZone s r with
  | none => grant r .single [c.number] s
  | some z =>
    if custodyApplies s n z then
      match s.custody[n] with
      | none => openCustody r n z c s
      | some w => secondPresenter r n w c s
    else grant r .single [c.number] s

/-- Checks 13 and 14, then custody (R117). -/
def roomChecks (r : ReaderNo) (c : Credential) (s : State) : State :=
  match (entryZone s r).bind fun z => roomRefusal s s.store.readers[r].door z c with
  | some code => refuseEntry r code c.number s
  | none => custodyOrGrant r c s

/-- Checks 11 to 16, once the PIN has passed (R116). -/
def afterPin (r : ReaderNo) (c : Credential) (s : State) : State :=
  match doorRefusal s r c with
  | some code => refuseEntry r code c.number s
  | none => roomChecks r c (if softPassback s r c then refuseEntry r .passbackSoft c.number s else s)

/-- Check 10 and what follows it (R113, R114). -/
def pinStage (r : ReaderNo) (c : Credential) (digits : List Nat) (s : State) : State :=
  match pinCheck s r c.pin digits with
  | .ok => afterPin r c s
  | .duress => afterPin r c (write .duress r.val c.number .blank (edgeEvent (Source.duress r) s))
  | .refused .badPin => badPin r c.number s
  | .refused code => refuseEntry r code c.number s

/-- A presentation, decided in one event (R111, R112). -/
def present (r : ReaderNo) (cred : Nat) (digits : List Nat) (s : State) : State :=
  if s.readers[r].lockout.isSome then refuseEntry r .readerLocked cred s
  else match lookup s cred with
    | none => refuseEntry r .unknown cred s
    | some c =>
      match recordRefusal s r c with
      | some code => refuseEntry r code cred s
      | none => pinStage r c digits s

/-! ## Timers (R115, R121) -/

/-- The lockout of a reader expires (R115). -/
def expireLockout (r : ReaderNo) (s : State) : State :=
  if s.readers[r].lockout.isSome then s.modReader r fun _ => ⟨0, none⟩ else s

end Sys2Proof.Machine
end

