-- ==== Sys2Proof/Machine/Clock.lean ====
section
/-! DEFINITION. The credential store (chapter 5): credentials, the clock, schedules, holidays, zone modes and periods;
and the passing of seconds. -/

namespace Sys2Proof.Machine

/-! ## Periods and their deliveries (R104, R106, R121) -/

/-- Close the custody windows of a zone at the doors that `which` picks (R121). -/
def closeZoneWindows (which : DoorNo → Bool) (z : Zone) (s : State) : State :=
  forEach allDoors
    (fun n s => if which n && s.custody[n].any (fun w => decide (w.zone = z)) then closeCustody n s else s) s

/-- The entry unit takes a change to DAY: windows under an AFTER_HOURS rule close (R121). -/
def dayBegins (z : Zone) (s : State) : State :=
  closeZoneWindows (fun n => decide (s.store.doors[n].custody = .afterHours)) z s

/-- A zone's period, re-derived; a change is delivered to the entry unit and the watch unit (R106). -/
def rePeriod (z : Zone) (s : State) : State :=
  let p := derivedPeriod s z
  if s.period[z] = p then s
  else
    let s1 := s.setPeriod z p
    reLone z (if p = .day then dayBegins z s1 else s1)

/-- Schedules and every zone's period, re-evaluated (R104). -/
def rePeriods (s : State) : State := forEach allZones rePeriod s

/-! ## The clock (R98, R99) -/

/-- A set clock after `n` more seconds, `n` at most a day; past day 65535 it becomes unset (R98). -/
def Clock.advance (n : Nat) (c : Clock) : Clock :=
  if c.second + n < 86400 then { c with second := c.second + n }
  else if c.day < 65535 then ⟨true, c.day + 1, c.second + n - 86400⟩
  else ⟨false, 0, 0⟩

/-- The CLOCK condition: the clock is unset (R100). -/
def clockCondition (s : State) : State := setCondition Source.clock (!s.clock.set) s

/-- The clock advances and, at a minute boundary, periods are re-evaluated (R98, R104). -/
def advanceClock (n : Nat) (s : State) : State :=
  if s.clock.set then
    let s1 := clockCondition (s.setClock (Clock.advance n s.clock))
    if s1.clock.second % 60 = 0 then rePeriods s1 else s1
  else s

/-- Every running timer after `n` more seconds, and the seconds since power-on (R196; notes/assumptions/3.md). -/
def passSeconds (n : Nat) (s : State) : State :=
  { s with
    release := s.release.map fun r =>
      { r with
        doorHold := elapse n r.doorHold
        occupancyHold := elapse n r.occupancyHold
        firing := r.firing.map fun f => { f with left := f.left - n } }
    estimate := s.estimate.map fun e => { e with timer := elapse n e.timer }
    doors := s.doors.map fun d => { d with window := elapse n d.window, heldTimer := elapse n d.heldTimer }
    motions := s.motions.map fun m => m.map fun v => { v with left := v.left - n }
    readers := s.readers.map fun r => { r with lockout := elapse n r.lockout }
    custody := s.custody.map fun w => w.map fun v => { v with left := v.left - n }
    loneTimer := s.loneTimer.map (elapse n)
    loneOutrun := s.loneOutrun.map fun b => b && decide (n = 0)
    line := { s.line with periodic := elapse n s.line.periodic }
    link := { s.link with uptime := min 4294967295 (s.link.uptime + n) } }

/-- One second passes (R98, R196). -/
def clockSecond (s : State) : State := advanceClock 1 (passSeconds 1 s)

/-- Seconds to the next multiple of 60, 0 on one. -/
def toBoundary (second : Nat) : Nat := (60 - second % 60) % 60

/-- A set clock reaches its next minute boundary; on one already, periods are re-evaluated (R104;
notes/assumptions/4.md). -/
def minuteBoundary (s : State) : State :=
  if s.clock.set then
    advanceClock (toBoundary s.clock.second) (passSeconds (toBoundary s.clock.second) s)
  else s

/-- How the clock moved (R99). -/
def clockMove (old : Clock) (day second : Nat) : ClockMove :=
  if old.set = false then .first
  else if old.day < day ∨ (old.day = day ∧ old.second < second) then .forward
  else if day < old.day ∨ (day = old.day ∧ second < old.second) then .backward
  else .same

/-- An accepted SET_TIME (R99). -/
def applyTime (day second : Nat) (s : State) : State :=
  let s1 := s.setClock ⟨true, day, second⟩
  clockCondition (rePeriods (write .clockSet 0 0 (.clock (clockMove s.clock day second)) s1))

/-- SET_TIME; a broadcast is never answered, and like every frame it is line activity (R99, R163). -/
def setTime (broadcast : Bool) (day second : Nat) (s : State) : State :=
  if 86399 < second ∨ 65535 < day then if broadcast then heardActivity s else refuse 0x05 .param s
  else if broadcast then heardActivity (applyTime day second s)
  else reply 0x05 .ok .empty (applyTime day second s)

/-- The fields of GET_TIME (R100). -/
def timeReport (s : State) : TimeReport where
  set := s.clock.set
  day := if s.clock.set then s.clock.day else 0
  second := if s.clock.set then s.clock.second else 0
  weekday := if s.clock.set then some (weekday s.clock.day) else none
  effectiveDay := if s.clock.set then some (effectiveDay s s.clock.day) else none
  active := Vector.ofFn (scheduleActive s)
  zones := Vector.ofFn fun z => (s.store.modes[z], s.period[z])

def getTime (s : State) : State := reply 0x06 .ok (.time (timeReport s)) s

/-! ## Schedules, holidays, modes (R101, R102, R105) -/

def IntervalRequest.ok (i : IntervalRequest) : Bool :=
  decide (i.days ≠ 0 ∧ i.start ≤ 1439 ∧ 1 ≤ i.stop ∧ i.stop ≤ 1440 ∧ i.start < i.stop)

def setSchedule (schedule : Nat) (intervals : List IntervalRequest) (s : State) : State :=
  match item 16 schedule with
  | none => refuse 0x19 .param s
  | some k =>
    if k.val = 0 ∨ 6 < intervals.length ∨ intervals.all IntervalRequest.ok = false then refuse 0x19 .param s
    else
      let v := intervals.map fun i => Interval.mk i.days i.start i.stop
      let s1 := s.modStore fun st => { st with schedules := upd st.schedules k fun _ => v }
      reply 0x19 .ok (.schedule k v) (rePeriods (writeConfig k.val (.kind 0x19) s1))

/-- A day number inserted into a rising list, once (R102). -/
def insertDay (d : Nat) : List Nat → List Nat
  | [] => [d]
  | x :: rest => if d < x then d :: x :: rest else if d = x then x :: rest else x :: insertDay d rest

def setHolidays (days : List Nat) (s : State) : State :=
  if 32 < days.length ∨ days.all (fun d => decide (1 ≤ d ∧ d ≤ 65535)) = false then refuse 0x1A .param s
  else
    let v := days.foldl (fun l d => insertDay d l) []
    let s1 := s.modStore fun st => { st with holidays := v }
    reply 0x1A .ok (.holidays v) (rePeriods (writeConfig 0 (.kind 0x1A) s1))

/-- A zone enters LOCKDOWN: its custody windows close (R121). -/
def lockdownBegins (z : Zone) (s : State) : State := closeZoneWindows (fun _ => true) z s

/-- An accepted ZONE_MODE (R105). -/
def applyMode (z : Zone) (m : ZoneMode) (s : State) : State :=
  let s1 := s.modStore fun st => { st with modes := upd st.modes z fun _ => m }
  let s2 := writeConfig (Zone.number z) (.mode m) s1
  let s3 := if m = .lockdown ∧ s.store.modes[z] ≠ .lockdown then lockdownBegins z s2 else s2
  rePeriod z s3

def zoneMode (zone mode : Nat) (s : State) : State :=
  match zoneNumbered zone, ZoneMode.ofCode mode with
  | some z, some m =>
    let s1 := applyMode z m s
    reply 0x30 .ok (.zoneMode m s1.period[z]) s1
  | _, _ => refuse 0x30 .param s

/-! ## Credentials (R93 to R96) -/

/-- The record a request asks for, where R93 accepts it. -/
def CredentialRequest.accept (r : CredentialRequest) : Option Credential :=
  match Role.ofCode r.role, item 16 r.schedule with
  | some role, some schedule =>
    let pin := r.digits.take r.pinLength
    if r.number = 0 ∨ r.holder = 0 ∨ ¬(r.pinLength = 0 ∨ r.pinLength = 4 ∨ r.pinLength = 5 ∨ r.pinLength = 6) ∨
        pin.all (fun d => decide (d ≤ 9)) = false ∨
        (r.validFrom ≠ 0 ∧ r.validUntil ≠ 0 ∧ r.validUntil < r.validFrom) then none
    else some ⟨r.number, r.holder, role, r.doors, schedule, pin, r.validFrom, r.validUntil, r.escortRequired,
      r.suspended⟩
  | _, _ => none

/-- A record put at its place in the rising table, over one of the same number (R94). -/
def insertCredential (c : Credential) : List Credential → List Credential
  | [] => [c]
  | x :: rest =>
    if c.number < x.number then c :: x :: rest
    else if c.number = x.number then c :: rest
    else x :: insertCredential c rest

/-- The table changes; the record is journalled and the watch unit told (R94, R95, R137). -/
def changeTable (table : List Credential) (number : Nat) (detail : Detail) (s : State) : State :=
  let s1 := s.modStore fun st => { st with credentials := table }
  forEach allZones reEscort (write .credential 0 number detail s1)

def enrol (request : CredentialRequest) (s : State) : State :=
  match CredentialRequest.accept request with
  | none => refuse 0x20 .param s
  | some c =>
    if (lookup s c.number).isSome then
      reply 0x20 .ok .empty (changeTable (insertCredential c s.store.credentials) c.number .replaced s)
    else if s.store.credentials.length < 4096 then
      reply 0x20 .ok .empty (changeTable (insertCredential c s.store.credentials) c.number .added s)
    else refuse 0x20 .full s

def revoke (number : Nat) (s : State) : State :=
  if number = 0 then refuse 0x21 .param s
  else if (lookup s number).isSome then
    reply 0x21 .ok .empty
      (changeTable (s.store.credentials.filter fun c => decide (c.number ≠ number)) number .revoked s)
  else refuse 0x21 .notFound s

/-- A record as LOOKUP returns it: PIN digits zeroed, its length kept (R96). -/
def Credential.shown (c : Credential) : Credential := { c with pin := c.pin.map fun _ => 0 }

def lookupExact (number : Nat) (s : State) : State :=
  if number = 0 then refuse 0x22 .param s
  else match lookup s number with
    | some c => reply 0x22 .ok (.credential (Credential.shown c)) s
    | none => refuse 0x22 .notFound s

/-- The record with the smallest number above the one given (R96). -/
def nextCredential (s : State) (number : Nat) : Option Credential :=
  s.store.credentials.find? fun c => decide (number < c.number)

def lookupNext (number : Nat) (s : State) : State :=
  match nextCredential s number with
  | some c => reply 0x22 .ok (.credential (Credential.shown c)) s
  | none => refuse 0x22 .notFound s

def credentialCount (s : State) : State := reply 0x23 .ok (.count s.store.credentials.length) s

end Sys2Proof.Machine
end

