-- ==== Sys2Proof/Machine/Inputs.lean ====
section
/-! DEFINITION. The input conditioner (section 1.1): conditioning, delivery to the owning blocks, INPUT_CLEAR,
INPUT_STATUS. -/

namespace Sys2Proof.Machine

/-! ## Delivery (R1) -/

/-- An activation goes to the owning block (R1). -/
def deliverActivation (i : InputNo) (s : State) : State :=
  match inputRole i with
  | .contact n => contactOpened n s
  | .bolt n => boltChange n s
  | .rex n => rexActivation n s
  | .manual z => manualActivation z s
  | .abort z => abortActivation z s
  | .staff n => staffActivation n s

/-- A release goes to the owning block; the owners of REX, manual and staff inputs ignore it (R1, R24, R78, R132). -/
def deliverRelease (i : InputNo) (s : State) : State :=
  match inputRole i with
  | .contact n => contactClosed n s
  | .bolt n => boltChange n s
  | .abort z => abortRelease z s
  | .rex _ => s
  | .manual _ => s
  | .staff _ => s

/-! ## Conditioning (R3, R4). A zero setting's timer expires as it starts. -/

def setPhase (i : InputNo) (p : Phase) (s : State) : State := s.modInput i fun v => { v with phase := p }

/-- The conditioned state becomes ACTIVE (R3). -/
def activate (i : InputNo) (s : State) : State :=
  deliverActivation i (setPhase i (match inputMode s i with | .follow => .on | .latch => .latched) s)

/-- The conditioned state becomes INACTIVE (R4, R6). -/
def deactivate (i : InputNo) (s : State) : State := deliverRelease i (setPhase i .idle s)

/-- The attempt goes on to validation (R3). -/
def enterValidate (i : InputNo) (s : State) : State :=
  if s.store.inputs[i].validation = 0 then activate i s else setPhase i .validate s

/-- The debounce of an attempt ends: the raw level is sampled (R3). -/
def endDebounceOn (i : InputNo) (s : State) : State := if rawActive s i then enterValidate i s else setPhase i .idle s

/-- An activation attempt begins (R3). -/
def beginAttempt (i : InputNo) (s : State) : State :=
  if s.store.inputs[i].debounce = 0 then endDebounceOn i s else setPhase i .debounceOn s

/-- A release begins (R4). -/
def beginRelease (i : InputNo) (s : State) : State :=
  if s.store.inputs[i].debounce = 0 then deactivate i s else setPhase i .debounceOff s

/-- What a raw level, as it now stands, does in the input's phase (R3, R4, R5). -/
def judgeRaw (i : InputNo) (s : State) : State :=
  match s.inputs[i].phase, rawActive s i with
  | .idle, true => beginAttempt i s
  | .validate, false => setPhase i .idle s
  | .on, false => beginRelease i s
  | .debounceOff, true => setPhase i .on s
  | _, _ => s

/-! ## First values (R8, R92) -/

/-- No attempt is in progress. -/
def Phase.atRest : Phase → Bool
  | .debounceOn => false
  | .validate => false
  | _ => true

/-- The door whose starting phase waits for an input (R92). -/
def waitingDoor (i : InputNo) : Option DoorNo :=
  match inputRole i with
  | .contact n => some n
  | .bolt n => some n
  | _ => none

/-- An input at rest has given its first conditioned value (R8); the door that waits for it may settle (R92). That an
attempt which SET_INPUT ends counts where none follows it, and that one which a new attempt replaces in the same event does
not, is the model's choice (notes/assumptions/15.md). -/
def noteFirst (i : InputNo) (s : State) : State :=
  let s1 := if Phase.atRest s.inputs[i].phase then s.modInput i fun v => { v with first := true } else s
  match waitingDoor i with
  | some n => trySettle n s1
  | none => s1

/-! ## Events (R3, R4) -/

/-- The raw level changes; a level that is as it was is no change (notes/assumptions/21.md). -/
def rawChange (i : InputNo) (level : Level) (s : State) : State :=
  if s.inputs[i].raw = level then s
  else noteFirst i (judgeRaw i (s.modInput i fun v => { v with raw := level }))

/-- The debounce timer expires (R3, R4). -/
def expireDebounce (i : InputNo) (s : State) : State :=
  match s.inputs[i].phase with
  | .debounceOn => noteFirst i (endDebounceOn i s)
  | .debounceOff => noteFirst i (deactivate i s)
  | _ => s

/-- The validation timer expires (R3). -/
def expireValidation (i : InputNo) (s : State) : State :=
  match s.inputs[i].phase with
  | .validate => noteFirst i (activate i s)
  | _ => s

/-! ## Restarting and re-moding (R5, R7) -/

/-- Conditioning in progress is restarted under new settings (R7). -/
def restartConditioning (i : InputNo) (s : State) : State :=
  let back : Phase → Phase := fun p =>
    match p with
    | .debounceOn => .idle
    | .validate => .idle
    | .debounceOff => .on
    | p => p
  noteFirst i (judgeRaw i (s.modInput i fun v => { v with phase := back v.phase }))

/-- A staff channel's mode changes (R5). -/
def changeMode (i : InputNo) (mode : InputMode) (s : State) : State :=
  match mode, s.inputs[i].phase with
  | .follow, .latched => judgeRaw i (setPhase i .on s)
  | .latch, .on => setPhase i .latched s
  | .latch, .debounceOff => setPhase i .latched s
  | _, _ => s

/-! ## Messages (R6, R8) -/

/-- INPUT_CLEAR of one input (R6). -/
def clearInput (i : InputNo) (s : State) : State :=
  if s.inputs[i].phase = .latched ∧ rawActive s i = false then deactivate i s else s

def inputClear (selection : Nat) (s : State) : State :=
  if !selectionOk 48 selection then refuse 0x50 .param s
  else
    let chosen := allInputs.filter fun i => selected selection i
    let s1 := forEach chosen clearInput s
    reply 0x50 .ok (.latched (chosen.filter fun i => decide (s1.inputs[i].phase = .latched))) s1

/-- One input of INPUT_STATUS (R8). -/
def inputReport (s : State) (i : InputNo) : InputReport where
  raw := s.inputs[i].raw
  rawActive := rawActive s i
  active := active s i
  phase := s.inputs[i].phase
  mode := inputMode s i

def inputStatus (s : State) : State := reply 0x51 .ok (.inputs (Vector.ofFn (inputReport s))) s

end Sys2Proof.Machine
end

