-- ==== Sys2Proof/Machine/Settings.lean ====
section
/-! DEFINITION. The SET_ messages and GET_CONFIG (R194, R195): what each refuses, clamps and stores, its CONFIG record,
and what takes effect in the same event. -/

namespace Sys2Proof.Machine

/-- ADJUSTED where a value was clamped, else OK (R194). -/
def stored (clamped : Bool) : Status := if clamped then .adjusted else .ok

/-! ## SET_INPUT (R2, R7) -/

def setInput (input level debounce validation : Nat) (s : State) : State :=
  match item 48 input, Level.ofCode level with
  | some i, some l =>
    let v : InputSettings := ⟨l, min 63 debounce, min 63 validation⟩
    let s1 := s.modStore fun st => { st with inputs := upd st.inputs i fun _ => v }
    let s2 := restartConditioning i (writeConfig i.val (.kind 0x10) s1)
    reply 0x10 (stored (decide (63 < debounce ∨ 63 < validation))) (.input i v) s2
  | _, _ => refuse 0x10 .param s

/-! ## SET_DETECTOR (R9) -/

/-- A zone whose release state forbids moving a channel to or from it (R9). -/
def zoneBusy (s : State) (z : Option Zone) : Bool :=
  match z with
  | some z => !ReleaseState.isQuiet s.release[z].state
  | none => false

/-- A channel after its settings change (R9): at rest in zone 0, else its arming count restarts while unlatched. -/
def Channel.reassign (old new : DetectorSettings) (c : Channel) : Channel :=
  if new.zone = none ∧ old.zone ≠ none then
    { c with arming := 0, latch := false, fault := .clear, outRun := 0, inRun := 0 }
  else if old = new ∨ c.latch = true then c
  else { c with arming := 0 }

/-- Re-derive the detection of a zone setting (R16). -/
def redetectSetting (z : Option Zone) (s : State) : State :=
  match z with
  | some z => redetect z s
  | none => s

/-- What an accepted SET_DETECTOR does (R9). -/
def applyDetector (c : ChannelNo) (new : DetectorSettings) (s : State) : State :=
  let old := s.store.detectors[c]
  let s1 := s.modStore fun st => { st with detectors := upd st.detectors c fun _ => new }
  let s2 := (writeConfig c.val (.kind 0x11) s1).modChannel c (Channel.reassign old new)
  let s3 := faultCondition c s2
  if old.zone = new.zone ∧ old.loop = new.loop then s3
  else
    let s4 := redetectSetting old.zone s3
    if old.zone = new.zone then s4 else redetectSetting new.zone s4

def setDetector (channel zone loop threshold hysteresis : Nat) (s : State) : State :=
  match item 16 channel, zoneSetting zone, Loop.ofCode loop with
  | some c, some z, some l =>
    let t := min 4095 threshold
    let v : DetectorSettings := ⟨z, l, t, min t hysteresis⟩
    let old := s.store.detectors[c].zone
    if old ≠ z ∧ (zoneBusy s old = true ∨ zoneBusy s z = true) then refuse 0x11 .state s
    else reply 0x11 (stored (decide (4095 < threshold ∨ t < hysteresis))) (.detector c v) (applyDetector c v s)
  | _, _, _ => refuse 0x11 .param s

/-! ## SET_ZONE (R19, R48, R105, R110, R136) -/

/-- The settings a SET_ZONE request stores, each number at the nearer end of its range; `none` where a named value is
none of its values (R19, R48). -/
def ZoneRequest.clamped (r : ZoneRequest) : Option ZoneSettings :=
  match AbortMode.ofCode r.abortMode, OccupiedRelease.ofCode r.occupiedRelease, YesNo.ofCode r.reservePresent,
    YesNo.ofCode r.reserveAuto, YesNo.ofCode r.singleKnock, Passback.ofCode r.passback with
  | some abortMode, some occupiedRelease, some reservePresent, some reserveAuto, some singleKnock, some passback =>
    let hold := clamp 1000 10000 r.holdThreshold
    some
      { countdown := clamp 10 60 r.countdown
        manualDelay := clamp 0 30 r.manualDelay
        abortMode := abortMode
        doorHoldMax := clamp 0 120 r.doorHoldMax
        occupiedRelease := occupiedRelease
        occupancyHoldMax := clamp 30 600 r.occupancyHoldMax
        firingTime := clamp 1 10 r.firingTime
        reservePresent := reservePresent
        reserveAuto := reserveAuto
        singleKnock := singleKnock
        soakConstant := clamp 0 65535 r.soakConstant
        ventConstant := clamp 0 65535 r.ventConstant
        doorConstant := clamp 0 65535 r.doorConstant
        holdThreshold := hold
        reentryThreshold := clamp 0 (hold - 1) r.reentryThreshold
        minimumSoak := clamp 6 360 r.minimumSoak
        reserveFraction := clamp 0 10000 r.reserveFraction
        custodyWindow := clamp 5 60 r.custodyWindow
        passback := passback
        loneTime := clamp 1 120 r.loneTime
        openingSchedule := ⟨min 15 r.openingSchedule, by omega⟩ }
  | _, _, _, _, _, _ => none

/-- The numeric fields of a request, and of settings, in one order. -/
def ZoneRequest.numbers (r : ZoneRequest) : List Nat :=
  [r.countdown, r.manualDelay, r.doorHoldMax, r.occupancyHoldMax, r.firingTime, r.soakConstant, r.ventConstant,
    r.doorConstant, r.holdThreshold, r.reentryThreshold, r.minimumSoak, r.reserveFraction, r.custodyWindow, r.loneTime,
    r.openingSchedule]
def ZoneSettings.numbers (v : ZoneSettings) : List Nat :=
  [v.countdown, v.manualDelay, v.doorHoldMax, v.occupancyHoldMax, v.firingTime, v.soakConstant, v.ventConstant,
    v.doorConstant, v.holdThreshold, v.reentryThreshold, v.minimumSoak, v.reserveFraction, v.custodyWindow, v.loneTime,
    v.openingSchedule.val]

/-- What an accepted SET_ZONE does (R19, R104). -/
def applyZone (z : Zone) (v : ZoneSettings) (s : State) : State :=
  let old := s.store.zones[z]
  let s1 := s.modStore fun st => { st with zones := upd st.zones z fun _ => v }
  let s2 := writeConfig (Zone.number z) (.kind 0x12) s1
  let s3 := if old.singleKnock = v.singleKnock then s2 else redetect z s2
  let s4 := if old.reservePresent = v.reservePresent then s3 else reImpaired z s3
  if old.openingSchedule = v.openingSchedule then s4 else rePeriods s4

def setZone (r : ZoneRequest) (s : State) : State :=
  match zoneNumbered r.zone, ZoneRequest.clamped r with
  | some z, some v =>
    if ReleaseState.inSpan s.release[z].state then refuse 0x12 .state s
    else
      reply 0x12 (stored (decide (ZoneRequest.numbers r ≠ ZoneSettings.numbers v))) (.zone z v) (applyZone z v s)
  | _, _ => refuse 0x12 .param s

/-! ## SET_DOOR (R66) -/

/-- The settings a SET_DOOR request stores; `none` where it is refused with PARAM (R66). -/
def DoorRequest.clamped (r : DoorRequest) : Option DoorSettings :=
  match zoneSetting r.inside, zoneSetting r.outside, LockKind.ofCode r.lock, FailMode.ofCode r.fail,
    CustodyRule.ofCode r.custody with
  | some inside, some outside, some lock, some fail, some custody =>
    if (inside = outside ∧ inside ≠ none) ∨ 4 < r.group then none
    else some
      { inside := inside
        outside := outside
        lock := lock
        fail := if lock = .motorBolt then .secure else fail
        unlockWindow := clamp 1 30 r.unlockWindow
        heldTime := clamp 5 600 r.heldTime
        boltTime := clamp 2 20 r.boltTime
        group := r.group
        custody := custody }
  | _, _, _, _, _ => none

/-- The motion slots a request stores. -/
def DoorRequest.slotCount (r : DoorRequest) : Nat := clamp 1 3 r.slots

/-- A value was clamped, or SAFE was sent for a MOTOR_BOLT door (R66). -/
def DoorRequest.adjusted (r : DoorRequest) (v : DoorSettings) : Bool :=
  decide (r.unlockWindow ≠ v.unlockWindow ∨ r.heldTime ≠ v.heldTime ∨ r.boltTime ≠ v.boltTime ∨
    r.slots ≠ DoorRequest.slotCount r ∨ FailMode.ofCode r.fail ≠ some v.fail)

/-- The door's new inside zone is in an egress state (R66, R25). -/
def joinsEgress (s : State) (old new : DoorSettings) : Bool :=
  match new.inside with
  | some z => decide (old.inside ≠ new.inside) && ReleaseState.isEgress s.release[z].state
  | none => false

/-- What an accepted SET_DOOR does (R66, R84, R121). -/
def applyDoor (n : DoorNo) (v : DoorSettings) (slots : Nat) (s : State) : State :=
  let old := s.store.doors[n]
  let s1 := s.modStore fun st => { st with doors := upd st.doors n fun _ => v, slots := slots }
  let s2 := writeConfig n.val (.kind 0x13) s1
  let s3 := if old.custody = v.custody ∧ old.inside = v.inside then s2 else closeCustody n s2
  let s4 := if joinsEgress s old v then egressDoor n s3 else s3
  let s5 :=
    if old.lock ≠ .motorBolt ∧ v.lock = .motorBolt ∧ s4.doors[n].state = .secured ∧ boltThrown s4 n = false then
      joinThrow n (setDoorState n .securing s4)
    else s4
  serve s5

def setDoor (r : DoorRequest) (s : State) : State :=
  match item 8 r.door, DoorRequest.clamped r with
  | some n, some v =>
    if s.doors[n].state ≠ .secured ∨ overridden s n = true ∨ DoorRequest.slotCount r < motionsInProgress s then
      refuse 0x13 .state s
    else
      reply 0x13 (stored (DoorRequest.adjusted r v)) (.door n v (DoorRequest.slotCount r))
        (applyDoor n v (DoorRequest.slotCount r) s)
  | _, _ => refuse 0x13 .param s

/-! ## SET_READER (R109), SET_STAFF (R131) -/

def setReader (reader door direction policy : Nat) (s : State) : State :=
  match item 8 reader, item 8 door, Direction.ofCode direction, PinPolicy.ofCode policy with
  | some r, some n, some d, some p =>
    let v : ReaderSettings := ⟨n, d, p⟩
    let s1 := s.modStore fun st => { st with readers := upd st.readers r fun _ => v }
    reply 0x14 .ok (.reader r v) (writeConfig r.val (.kind 0x14) s1)
  | _, _, _, _ => refuse 0x14 .param s

/-- What an accepted SET_STAFF does (R131, R5). -/
def applyStaff (n : StaffNo) (v : StaffSettings) (s : State) : State :=
  let old := StaffKind.mode s.store.staff[n].kind
  let s1 := s.modStore fun st => { st with staff := upd st.staff n fun _ => v }
  let s2 := writeConfig n.val (.staff v.kind) s1
  if old = StaffKind.mode v.kind then s2 else changeMode (staffInput n) (StaffKind.mode v.kind) s2

def setStaff (channel zone kind : Nat) (s : State) : State :=
  match item 16 channel, zoneSetting zone, StaffKind.ofCode kind with
  | some n, some z, some k => reply 0x15 .ok (.staff n ⟨z, k⟩) (applyStaff n ⟨z, k⟩ s)
  | _, _, _ => refuse 0x15 .param s

/-! ## SET_OUTPUT (R140) -/

/-- The source list a request carries, where R140 accepts it. -/
def sourceList (sources : List Nat) : Option (List Source) :=
  if 16 < sources.length ∨ ¬ sources.Nodup then none else sources.mapM sourceNumbered

/-- What an accepted SET_OUTPUT does (R140). -/
def applyOutput (o : OutputNo) (v : OutputSettings) (s : State) : State :=
  let s1 := s.modStore fun st => { st with outputs := upd st.outputs o fun _ => v }
  let s2 := refreshOutput o (s1.modOutput o fun w => { w with silenced := false })
  writeConfig o.val (.kind 0x16) s2

def setOutput (output : Nat) (sources : List Nat) (mode silenceable : Nat) (s : State) : State :=
  match item 8 output, sourceList sources, OutputMode.ofCode mode, YesNo.ofCode silenceable with
  | some o, some l, some m, some b => reply 0x16 .ok (.output o ⟨l, m, b⟩) (applyOutput o ⟨l, m, b⟩ s)
  | _, _, _, _ => refuse 0x16 .param s

/-! ## SET_SOURCE (R157), SET_THRESHOLD (R158), SET_LINK (R197) -/

/-- A source of the range `a` to `b`. -/
def inSourceRange (a b src : Source) : Bool := decide (a ≤ src ∧ src ≤ b)

/-- What an accepted SET_SOURCE does (R157). -/
def applySource (a b : Source) (v : SourceSettings) (s : State) : State :=
  let table := Vector.ofFn fun src => if inSourceRange a b src then v else s.store.sources[src]
  let s1 := s.modStore fun st => { st with sources := table }
  liftSuppression s (writeConfig (Source.number a) (.kind 0x17) s1)

def setSource (first last prio enable : Nat) (s : State) : State :=
  match sourceNumbered first, sourceNumbered last, YesNo.ofCode enable with
  | some a, some b, some e =>
    let p := min 7 prio
    if b < a then refuse 0x17 .param s
    else if s.alarm.inService.any fun src => inSourceRange a b src && decide (priority s src ≠ p) then
      refuse 0x17 .state s
    else reply 0x17 (stored (decide (7 < prio))) (.source a b ⟨p, e⟩) (applySource a b ⟨p, e⟩ s)
  | _, _, _ => refuse 0x17 .param s

/-- What an accepted SET_THRESHOLD does (R158). -/
def applyThreshold (t : Nat) (s : State) : State :=
  liftSuppression s (writeConfig 0 (.value t) (s.modStore fun st => { st with threshold := t }))

def setThreshold (threshold : Nat) (s : State) : State :=
  let t := min 7 threshold
  reply 0x18 (stored (decide (7 < threshold))) (.threshold t) (applyThreshold t s)

/-- What an accepted SET_LINK does (R197, R178). -/
def applyLink (timeout interval : Nat) (s : State) : State :=
  let s1 := s.modStore fun st => { st with receiveTimeout := timeout, testInterval := interval }
  let s2 := writeConfig 0 (.kind 0x07) s1
  if s.store.testInterval = interval then s2
  else s2.modLine fun l => { l with periodic := periodicStart interval }

def setLink (timeout interval : Nat) (s : State) : State :=
  let t := min 240 interval
  reply 0x07 (stored (decide (240 < interval))) (.link timeout t) (applyLink timeout t s)

/-! ## GET_CONFIG (R195) -/

/-- The stored settings of an item of a configuration kind; `none` for no such kind or item (R195). -/
def configItem (s : State) (kind number : Nat) : Option ReplyBody :=
  match kind with
  | 0x10 => (item 48 number).map fun i => .input i s.store.inputs[i]
  | 0x11 => (item 16 number).map fun c => .detector c s.store.detectors[c]
  | 0x12 => (zoneNumbered number).map fun z => .zone z s.store.zones[z]
  | 0x13 => (item 8 number).map fun n => .door n s.store.doors[n] s.store.slots
  | 0x14 => (item 8 number).map fun r => .reader r s.store.readers[r]
  | 0x15 => (item 16 number).map fun n => .staff n s.store.staff[n]
  | 0x16 => (item 8 number).map fun o => .output o s.store.outputs[o]
  | 0x17 => (sourceNumbered number).map fun src => .source src src s.store.sources[src]
  | 0x18 => if number = 0 then some (.threshold s.store.threshold) else none
  | 0x19 => if number = 0 then none else (item 16 number).map fun k => .schedule k s.store.schedules[k]
  | 0x1A => if number = 0 then some (.holidays s.store.holidays) else none
  | 0x07 => if number = 0 then some (.link s.store.receiveTimeout s.store.testInterval) else none
  | _ => none

def getConfig (kind number : Nat) (s : State) : State :=
  match configItem s kind number with
  | some body => reply 0x1B .ok body s
  | none => refuse 0x1B .param s

end Sys2Proof.Machine
end

