-- ==== Sys2Proof/Machine/Messages.lean ====
section
/-! DEFINITION. The remaining messages: the alarm controller's (R153 to R165), the journal's (R184, R185) and the
general ones with RESTART (R193, R196, R198). -/

namespace Sys2Proof.Machine

/-! ## Alarm controller -/

def claim (s : State) : State :=
  match claimable s with
  | none => reply 0x58 .ok (.alarm none) (s.modAlarm fun a => { a with suppressed := false })
  | some src => reply 0x58 .ok (.alarm (some (alarmReport s src))) (takeIntoService src s)

def peek (s : State) : State :=
  reply 0x59 .ok (.alarm ((claimable s).map (alarmReport s))) (s.modAlarm fun a => { a with suppressed := false })

/-- The entry a COMPLETE names: the newest for 0, else the source itself where it is in service (R155). -/
def completed (s : State) (source : Nat) : Option Source :=
  if source = 0 then s.alarm.inService.getLast?
  else s.alarm.inService.find? fun src => decide (Source.number src = source)

def complete (source : Nat) (s : State) : State :=
  if 115 < source then refuse 0x5A .param s
  else match completed s source with
    | none => refuse 0x5A .state s
    | some src =>
      let s1 := leaveService src s
      reply 0x5A .ok (.completed src (notificationLevel s1)) s1

/-- The fields of ALARM_STATUS (R165). -/
def alarmStatusReport (s : State) : AlarmStatusReport where
  threshold := s.store.threshold
  level := notificationLevel s
  driven := attentionDriven s
  suppressed := s.alarm.suppressed
  inService := s.alarm.inService.map fun src => (src, priority s src)
  pending := s.alarm.pending
  conditions := s.alarm.condition
  eligible := Vector.ofFn (eligible s)
  outputsOn := s.outputs.map Output.on
  outputsSilenced := s.outputs.map Output.silenced

def alarmStatus (s : State) : State := reply 0x5B .ok (.alarmStatus (alarmStatusReport s)) s

/-- WHO_CALLS addressed to the part (R164). -/
def whoCallsAddressed (s : State) : State :=
  reply 0x04 .ok (.calling (attentionDriven s) s.alarm.suppressed ((claimable s).map (alarmReport s))) s

/-! ## Journal -/

/-- Records from `start` onward are lost (R184). -/
def gap (s : State) (start : Nat) : Bool := decide (start < oldestRetained s ∧ 1 < oldestRetained s)

def journalRead (start count : Nat) (s : State) : State :=
  if count = 0 ∨ 15 < count then refuse 0x68 .param s
  else reply 0x68 .ok (.journal (gap s start) ((s.journal.ring.filter fun r => decide (start ≤ r.sequence)).take count)) s

/-- The boundary moves forward (R185, R186). -/
def acknowledge (sequence : Nat) (s : State) : State :=
  if s.journal.boundary < sequence then
    deliverBacklogWith abandonCheck { s with journal := { s.journal with boundary := sequence } }
  else s

def journalAck (sequence : Nat) (s : State) : State :=
  if s.journal.newest < sequence then refuse 0x69 .param s
  else
    let s1 := acknowledge sequence s
    reply 0x69 .ok (.journalPosition s1.journal.newest (oldestRetained s1) s1.journal.boundary (backlog s1)) s1

/-! ## General messages -/

/-- A KIND outside the catalogue (R193). -/
def unknownKind (kind : Byte) (s : State) : State := refuse kind.toNat .unknownKind s

def echo (payload : List Byte) (s : State) : State :=
  if payload = [] then refuse 0x01 .param s
  else if 249 < payload.length then refuse 0x01 .length s
  else reply 0x01 .ok (.bytes payload) s

def identify (s : State) : State := reply 0x02 .ok (.identity s.link.foundStored s.link.node s.link.uptime) s

/-! ## RESTART (R198, R167, R145, R128) -/

/-- The framer returns to WAITING with its timer stopped. -/
def resetFramer (s : State) : State := s.modLink fun l => { l with framer := .waiting, timing := false }

/-- A LEVEL source not in service is re-evaluated against its recorded condition (R167). -/
def reLevel (src : Source) (s : State) : State :=
  if Source.kind src = .level ∧ s.alarm.inService.contains src = false then setPending src s.alarm.condition[src] s
  else s

/-- The alarm controller's part (R167). -/
def restartAlarm (s : State) : State :=
  let s1 := forEach s.alarm.inService leaveService s
  (forEach allSources reLevel s1).modAlarm fun a => { a with suppressed := false }

/-- The annunciator driver's part (R145). -/
def unsilence (o : OutputNo) (s : State) : State := refreshOutput o (s.modOutput o fun v => { v with silenced := false })

/-- RESTART (R198). -/
def restart (s : State) : State :=
  let s1 := forEach allOutputs unsilence (restartAlarm (resetFramer s))
  let s2 := { s1 with readers := Vector.replicate 8 ⟨0, none⟩ }
  reply 0x03 .ok .empty (forEach allDoors closeCustody (write .restart 0 0 .blank s2))

end Sys2Proof.Machine
end

