-- ==== Sys2Proof/Machine/Layouts.lean ====
section
/-! DEFINITION. Bytes on the line: the CRC (R200), replies as bytes (R189, R199, R200), and request payloads read by
the layout of their kind (R193, R199; notes/assumptions/6.md and 7.md). -/

namespace Sys2Proof.Machine

/-! ## CRC (R200) -/

/-- One bit taken into the register. -/
def crcBit (reg : BitVec 16) (bit : Bool) : BitVec 16 :=
  if reg.msb != bit then (reg <<< 1) ^^^ 0x1021#16 else reg <<< 1

/-- One byte taken into the register, most significant bit first. -/
def crcByte (reg : BitVec 16) (b : Byte) : BitVec 16 :=
  (List.range 8).foldl (fun r k => crcBit r (b.getMsbD k)) reg

/-- The CRC of a run of bytes. -/
def crc (bytes : List Byte) : BitVec 16 := bytes.foldl crcByte 0xFFFF#16

/-! ## Fields as bytes (R199) -/

/-- A field of `n` bytes, high byte first. -/
def field : Nat → Nat → List Byte
  | 0, _ => []
  | n + 1, v => field n (v / 256) ++ [BitVec.ofNat 8 v]

/-- A set of `n` bytes: item k in bit k from the low end of the last byte. -/
def setField (n : Nat) (items : List Nat) : List Byte := field n ((items.map fun k => 2 ^ k).sum)

/-- A set given as one flag per item. -/
def setBytes (n : Nat) {k : Nat} (v : Vector Bool k) : List Byte :=
  setField n (((List.finRange k).filter fun i => v[i]).map fun i => i.val)

/-- A flag that is no named value: 1 or 0 (notes/assumptions/19.md). -/
def flag (b : Bool) : List Byte := field 1 (if b then 1 else 0)

/-- A number from 0 to 255. -/
def byte (v : Nat) : List Byte := field 1 v

/-- Two decimal digits in one byte, the first in the high half (R200). -/
def digitPair (a b : Nat) : List Byte := byte (16 * a + b)

def InputSettings.bytes (i : Nat) (v : InputSettings) : List Byte :=
  byte i ++ byte (Level.code v.active) ++ byte v.debounce ++ byte v.validation

def DetectorSettings.bytes (c : Nat) (v : DetectorSettings) : List Byte :=
  byte c ++ byte (zoneSettingNumber v.zone) ++ byte (Loop.code v.loop) ++ field 2 v.threshold ++ field 2 v.hysteresis

def ZoneSettings.bytes (z : Nat) (v : ZoneSettings) : List Byte :=
  byte z ++ byte v.countdown ++ byte v.manualDelay ++ byte (AbortMode.code v.abortMode) ++ byte v.doorHoldMax ++
  byte (OccupiedRelease.code v.occupiedRelease) ++ field 2 v.occupancyHoldMax ++ byte v.firingTime ++
  byte (YesNo.code v.reservePresent) ++ byte (YesNo.code v.reserveAuto) ++ byte (YesNo.code v.singleKnock) ++
  field 2 v.soakConstant ++ field 2 v.ventConstant ++ field 2 v.doorConstant ++ field 2 v.holdThreshold ++
  field 2 v.reentryThreshold ++ field 2 v.minimumSoak ++ field 2 v.reserveFraction ++ byte v.custodyWindow ++
  byte (Passback.code v.passback) ++ byte v.loneTime ++ byte v.openingSchedule.val

def DoorSettings.bytes (n : Nat) (v : DoorSettings) (slots : Nat) : List Byte :=
  byte n ++ byte (zoneSettingNumber v.inside) ++ byte (zoneSettingNumber v.outside) ++ byte (LockKind.code v.lock) ++
  byte (FailMode.code v.fail) ++ byte v.unlockWindow ++ field 2 v.heldTime ++ byte v.boltTime ++ byte v.group ++
  byte (CustodyRule.code v.custody) ++ byte slots

def OutputSettings.bytes (o : Nat) (v : OutputSettings) : List Byte :=
  byte o ++ byte v.sources.length ++ v.sources.flatMap (fun src => byte (Source.number src)) ++
  byte (OutputMode.code v.mode) ++ byte (YesNo.code v.silenceable)

def Interval.bytes (i : Interval) : List Byte := byte i.days.toNat ++ field 2 i.start ++ field 2 i.stop

/-- The credential record of R200, eighteen bytes. -/
def Credential.bytes (c : Credential) : List Byte :=
  let d := fun k => c.pin.getD k 0
  field 4 c.number ++ field 2 c.holder ++ byte (Role.code c.role) ++ byte c.doors.toNat ++ byte c.schedule.val ++
  byte ((if c.escortRequired then 1 else 0) + (if c.suspended then 2 else 0)) ++ byte c.pin.length ++
  digitPair (d 0) (d 1) ++ digitPair (d 2) (d 3) ++ digitPair (d 4) (d 5) ++ field 2 c.validFrom ++
  field 2 c.validUntil

/-- The journal record of R200, sixteen bytes. -/
def Record.bytes (r : Record) : List Byte :=
  field 4 r.sequence ++ field 2 r.day ++ field 3 r.second ++ byte (RecordKind.code r.kind) ++ byte r.subject ++
  field 4 r.cred ++ [Detail.code r.detail]

/-! ## Replies as bytes

Each lays the fields of its rule one after the other in the rule's order; where the manual states no layout that is the
model's choice (notes/assumptions/7.md). -/

/-- What a claim returns: source, priority, kind, condition, one byte each, all 0 for no source (R153; the layout is the
model's choice, notes/assumptions/7.md). -/
def alarmBytes : Option AlarmReport → List Byte
  | none => [0, 0, 0, 0]
  | some a => byte (Source.number a.source) ++ byte a.priority ++ byte (SourceKind.code a.kind) ++ flag a.condition

/-- Source and priority, one byte each (R163, R200); both 0 for no source (R164; the model's choice,
notes/assumptions/7.md). -/
def callerBytes : Option AlarmReport → List Byte
  | none => [0, 0]
  | some a => byte (Source.number a.source) ++ byte a.priority

/-- GET_TIME (R100). -/
def TimeReport.bytes (t : TimeReport) : List Byte :=
  let weekdayByte := fun (d : Option Nat) => byte (d.elim 0 (· + 1))
  flag t.set ++ field 2 t.day ++ field 3 t.second ++ weekdayByte t.weekday ++ weekdayByte t.effectiveDay ++
  setBytes 2 t.active ++ t.zones.toList.flatMap fun z => byte (ZoneMode.code z.1) ++ byte (Period.code z.2)

/-- The hold that runs: DOOR_HOLD 1, OCCUPANCY_HOLD 2, or the occupancy hold expired 3, then the seconds left. -/
def HoldReport.bytes : HoldReport → List Byte
  | .idle => byte 0 ++ field 2 0
  | .doorHold left => byte 1 ++ field 2 left
  | .occupancyHold left => byte 2 ++ field 2 left
  | .expired => byte 3 ++ field 2 0

/-- ZONE_STATUS (R45). -/
def ZoneReport.bytes (v : ZoneReport) : List Byte :=
  byte (ReleaseState.code v.state) ++ byte (Detection.code v.detection) ++ byte (conditionedCode v.abort) ++
  flag v.manual ++ byte v.remaining ++ HoldReport.bytes v.hold ++ flag v.egress ++ byte (v.firing.elim 0 Bank.code) ++
  byte v.firingLeft ++ flag v.mainUsed ++ flag v.reserveUsed ++ flag v.mainAvailable ++ flag v.reserveAvailable ++
  flag v.impaired ++ field 2 v.estimate ++ field 2 v.steps ++ flag v.doorOpened ++ flag v.soakLoss

/-- The timer of a door that runs: unlock window 1, held timer 2, then the seconds left (R77). -/
def doorTimerBytes : Option Nat → Option Nat → List Byte
  | some left, _ => byte 1 ++ field 2 left
  | none, some left => byte 2 ++ field 2 left
  | none, none => byte 0 ++ field 2 0

/-- DOOR_STATUS (R77); the pass list is its count and four places, those past the count 0. -/
def DoorReport.bytes (v : DoorReport) : List Byte :=
  let passBytes := fun (p : Pass) => field 4 p.cred ++ byte (Direction.code p.dir)
  byte (DoorState.code v.state) ++ byte (conditionedCode v.contact) ++ byte (conditionedCode v.bolt) ++
  flag v.egress ++ flag v.free ++ byte (markCode v.mark) ++ byte v.passes.length ++
  (List.range 4).flatMap (fun k => v.passes[k]?.elim (List.replicate 5 0) passBytes) ++
  doorTimerBytes v.window v.heldTimer ++ flag v.heldCondition ++ flag v.boltCondition ++
  v.queued.elim [0, 0] (fun r => byte (Motion.code r.motion) ++ byte (BoltClass.code r.cls)) ++
  v.motion.elim [0, 0] (fun m => byte (Motion.code m.motion) ++ byte m.left) ++
  byte v.slots ++ byte v.motionsInProgress ++ byte v.requestsQueued ++ flag v.gateClosed

/-- One input of INPUT_STATUS (R8). -/
def InputReport.bytes (v : InputReport) : List Byte :=
  byte (Level.code v.raw) ++ flag v.rawActive ++ byte (conditionedCode v.active) ++ byte (Phase.code v.phase) ++
  byte (InputMode.code v.mode)

/-- The set of the sources with a flag set, source n in bit n (R165, R199). -/
def sourceSet (v : Vector Bool 115) : List Byte := setField 15 ((allSources.filter fun src => v[src]).map Source.number)

/-- ALARM_STATUS (R165). -/
def AlarmStatusReport.bytes (v : AlarmStatusReport) : List Byte :=
  byte v.threshold ++ byte v.level ++ flag v.driven ++ flag v.suppressed ++ byte v.inService.length ++
  v.inService.flatMap (fun e => byte (Source.number e.1) ++ byte e.2) ++ sourceSet v.pending ++
  sourceSet v.conditions ++ sourceSet v.eligible ++ setBytes 1 v.outputsOn ++ setBytes 1 v.outputsSilenced

/-- The circuits' flags: the set with SHORT, then the set with OPEN (R176, R180). -/
def circuitFlagBytes (v : Vector CircuitFlags 16) : List Byte :=
  setBytes 2 (v.map CircuitFlags.shortFlag) ++ setBytes 2 (v.map CircuitFlags.openFlag)

/-- The check in progress: SUPPLY 1, SHORT 2, OPEN 3, then its circuit (R180). -/
def checkBytes : Option CheckInProgress → List Byte
  | none => [0, 0]
  | some .supply => [1, 0]
  | some (.short c) => [2] ++ byte c.val
  | some (.opened c) => [3] ++ byte c.val

/-- The run record: run state, kind, run set, supply result, the sixteen results (R170). -/
def RunRecord.bytes (v : RunRecord) : List Byte :=
  byte (RunState.code v.state) ++ byte (RunKind.code v.kind) ++
  setBytes 2 (v.results.map fun r => decide (r ≠ .notInRun)) ++ byte (SupplyResult.code v.supply) ++
  v.results.toList.flatMap fun r => byte (CircuitResult.code r)

/-- LINE_STATUS (R180). -/
def LineReport.bytes (v : LineReport) : List Byte :=
  RunRecord.bytes v.run ++ checkBytes v.check ++ byte v.millisecondsLeft ++ circuitFlagBytes v.flags ++
  flag v.supplyFlag ++ byte v.interval ++ flag v.minutesLeft.isSome ++ byte (v.minutesLeft.getD 0) ++
  setBytes 1 (v.checks.map Option.isSome) ++ setBytes 1 (v.checks.map fun c => decide (c = some true)) ++
  setBytes 1 v.outputsOn

/-- JOURNAL_READ: the count with GAP in the top bit, then fifteen places of sixteen bytes (R200); a place past the count
reads 0 (notes/assumptions/31.md). -/
def journalBytes (gap : Bool) (records : List Record) : List Byte :=
  byte (records.length + if gap then 128 else 0) ++
  (List.range 15).flatMap fun k => records[k]?.elim (List.replicate 16 0) Record.bytes

/-- The payload bytes of a reply. The channel state of R13 is ALARM 1, NORMAL 2 (notes/assumptions/19.md). R200 states
the layouts of the credential record, JOURNAL_READ and OCCUPANCY_READ; the others, IDENTIFY, COMPLETE, JOURNAL_ACK and
addressed WHO_CALLS among them, are the model's choice (notes/assumptions/7.md). -/
def bodyBytes : ReplyBody → List Byte
  | .empty => []
  | .bytes b => b
  | .identity found node uptime =>
    Config.partCode.take 239 ++ [Config.firmware.1, Config.firmware.2] ++ byte node.toNat ++
    byte (if found then 1 else 2) ++ field 4 uptime
  | .link timeout interval => byte timeout ++ byte interval
  | .input i v => InputSettings.bytes i.val v
  | .detector c v => DetectorSettings.bytes c.val v
  | .zone z v => ZoneSettings.bytes (Zone.number z) v
  | .door n v slots => DoorSettings.bytes n.val v slots
  | .reader r v => byte r.val ++ byte v.door.val ++ byte (Direction.code v.direction) ++ byte (PinPolicy.code v.policy)
  | .staff n v => byte n.val ++ byte (zoneSettingNumber v.zone) ++ byte (StaffKind.code v.kind)
  | .output o v => OutputSettings.bytes o.val v
  | .source a b v =>
    byte (Source.number a) ++ byte (Source.number b) ++ byte v.priority ++ byte (YesNo.code v.enabled)
  | .threshold n => byte n
  | .schedule k v => byte k.val ++ byte v.length ++ v.flatMap Interval.bytes
  | .holidays days => byte days.length ++ days.flatMap (field 2)
  | .credential c => Credential.bytes c
  | .count n => field 2 n
  | .zoneMode m p => byte (ZoneMode.code m) ++ byte (Period.code p)
  | .channelReport v =>
    field 2 v.last ++ byte (if v.alarm then 1 else 2) ++ byte (FaultFlag.code v.fault) ++ byte v.arming ++
    field 2 v.peak
  | .occupancy certain list =>
    flag certain ++ byte list.length ++ (List.range 32).flatMap fun k => field 4 (list.getD k 0)
  | .latched l => setField 6 (l.map fun i => i.val)
  | .alarm v => alarmBytes v
  | .completed src level => byte (Source.number src) ++ byte level
  | .journal gap records => journalBytes gap records
  | .journalPosition newest oldest boundary backlog =>
    field 4 newest ++ field 4 oldest ++ field 4 boundary ++ field 4 backlog
  | .calling driven suppressed v => flag driven ++ flag suppressed ++ callerBytes v
  | .time t => TimeReport.bytes t
  | .zoneReport v => ZoneReport.bytes v
  | .doorReport v => DoorReport.bytes v
  | .inputs v => v.toList.flatMap InputReport.bytes
  | .alarmStatus v => AlarmStatusReport.bytes v
  | .lineReport v => LineReport.bytes v
  | .lineFlags f b => circuitFlagBytes f ++ flag b

/-- A frame: its bytes and their CRC, high byte first (R189, R200). -/
def withCrc (bytes : List Byte) : List Byte := bytes ++ field 2 (crc bytes).toNat

/-- A reply frame (R189, R199). -/
def replyFrame (node : BitVec 5) (r : Reply) : List Byte :=
  let payload := bodyBytes r.body
  withCrc (byte node.toNat ++ byte (payload.length + 2) ++ [r.kind, Status.code r.status] ++ payload)

/-! ## Request payloads -/

/-- Bytes as one number, high byte first (R199). -/
def number (bytes : List Nat) : Nat := bytes.foldl (fun n b => 256 * n + b) 0

/-- The intervals of SET_SCHEDULE, five bytes each. -/
def readIntervals : Nat → List Nat → Option (List IntervalRequest)
  | 0, [] => some []
  | n + 1, d :: a :: b :: c :: e :: rest =>
    (readIntervals n rest).map fun l => ⟨BitVec.ofNat 8 d, number [a, b], number [c, e]⟩ :: l
  | _, _ => none

/-- The day numbers of SET_HOLIDAYS, two bytes each. -/
def readDays : Nat → List Nat → Option (List Nat)
  | 0, [] => some []
  | n + 1, a :: b :: rest => (readDays n rest).map fun l => number [a, b] :: l
  | _, _ => none

/-- The record ENROL carries (R200). -/
def readCredential : List Nat → Option CredentialRequest
  | [a0, a1, a2, a3, h0, h1, role, doors, schedule, bits, len, p0, p1, p2, f0, f1, u0, u1] =>
    some
      { number := number [a0, a1, a2, a3]
        holder := number [h0, h1]
        role := role
        doors := BitVec.ofNat 8 doors
        schedule := schedule
        escortRequired := bits.testBit 0
        suspended := bits.testBit 1
        pinLength := len
        digits := [p0 / 16, p0 % 16, p1 / 16, p1 % 16, p2 / 16, p2 % 16]
        validFrom := number [f0, f1]
        validUntil := number [u0, u1] }
  | _ => none

/-- The fields of SET_ZONE, thirty bytes. -/
def readZone : List Nat → Option ZoneRequest
  | [z, p, m, ab, dh, occ, oh0, oh1, f, rp, ra, sk, k0, k1, v0, v1, d0, d1, h0, h1, e0, e1, m0, m1, fr0, fr1, cw, pb,
      lone, op] =>
    some
      { zone := z, countdown := p, manualDelay := m, abortMode := ab, doorHoldMax := dh, occupiedRelease := occ
        occupancyHoldMax := number [oh0, oh1], firingTime := f, reservePresent := rp, reserveAuto := ra
        singleKnock := sk, soakConstant := number [k0, k1], ventConstant := number [v0, v1]
        doorConstant := number [d0, d1], holdThreshold := number [h0, h1], reentryThreshold := number [e0, e1]
        minimumSoak := number [m0, m1], reserveFraction := number [fr0, fr1], custodyWindow := cw, passback := pb
        loneTime := lone, openingSchedule := op }
  | _ => none

/-- The fields of SET_DOOR, twelve bytes. -/
def readDoor : List Nat → Option DoorRequest
  | [n, i, o, l, f, u, h0, h1, b, g, c, k] =>
    some
      { door := n, inside := i, outside := o, lock := l, fail := f, unlockWindow := u, heldTime := number [h0, h1]
        boltTime := b, group := g, custody := c, slots := k }
  | _ => none

/-- What SET_OUTPUT does: output, count, sources, mode, silenceable. -/
def readOutput : List Nat → Option (State → State)
  | o :: count :: rest =>
    match rest.drop count with
    | [m, b] => some (setOutput o (rest.take count) m b)
    | _ => none
  | _ => none

/-- What DOOR_COMMAND does: door and action; an action not named is refused (R81). -/
def doorCommand (door action : Nat) (s : State) : State :=
  match action with
  | 1 => doorFree door s
  | 2 => doorAuto door s
  | 3 => doorPulse door s
  | 4 => doorRetry door s
  | _ => refuse 0x40 .param s

/-- What LOOKUP does: number and mode, EXACT or NEXT (R96). -/
def lookupMessage (credential mode : Nat) (s : State) : State :=
  match mode with
  | 1 => lookupExact credential s
  | 2 => lookupNext credential s
  | _ => refuse 0x22 .param s

/-- The messages without payload. -/
def emptyMessage (kind : Nat) : Option (State → State) :=
  match kind with
  | 0x02 => some identify
  | 0x03 => some restart
  | 0x04 => some whoCallsAddressed
  | 0x06 => some getTime
  | 0x23 => some credentialCount
  | 0x51 => some inputStatus
  | 0x58 => some claim
  | 0x59 => some peek
  | 0x5B => some alarmStatus
  | 0x61 => some lineStatus
  | _ => none

/-- The settings messages with a payload (R194). -/
def settingsMessage (kind : Nat) (p : List Nat) : Option (State → State) :=
  match kind, p with
  | 0x05, [d0, d1, s0, s1, s2] => some (setTime false (number [d0, d1]) (number [s0, s1, s2]))
  | 0x07, [t, i] => some (setLink t i)
  | 0x10, [i, l, d, v] => some (setInput i l d v)
  | 0x11, [c, z, l, t0, t1, h0, h1] => some (setDetector c z l (number [t0, t1]) (number [h0, h1]))
  | 0x12, p => (readZone p).map setZone
  | 0x13, p => (readDoor p).map setDoor
  | 0x14, [r, n, d, v] => some (setReader r n d v)
  | 0x15, [c, z, k] => some (setStaff c z k)
  | 0x16, p => readOutput p
  | 0x17, [a, b, v, e] => some (setSource a b v e)
  | 0x18, [t] => some (setThreshold t)
  | 0x19, k :: n :: rest => (readIntervals n rest).map (setSchedule k)
  | 0x1A, n :: rest => (readDays n rest).map setHolidays
  | 0x1B, [k, i] => some (getConfig k i)
  | _, _ => none

/-- The other messages with a payload. -/
def orderMessage (kind : Nat) (p : List Nat) : Option (State → State) :=
  match kind, p with
  | 0x20, p => (readCredential p).map enrol
  | 0x21, [a, b, c, d] => some (revoke (number [a, b, c, d]))
  | 0x22, [a, b, c, d, m] => some (lookupMessage (number [a, b, c, d]) m)
  | 0x30, [z, m] => some (zoneMode z m)
  | 0x31, [z] => some (zoneDisable z)
  | 0x32, [z] => some (zoneEnable z)
  | 0x33, [z, f] => some (vent z (decide (f ≠ 0)))
  | 0x34, [z] => some (reserveRelease z)
  | 0x35, [z] => some (zoneReset z)
  | 0x36, [z] => some (zoneStatus z)
  | 0x37, [c, f] => some (detectorRead c (decide (f ≠ 0)))
  | 0x40, [n, a] => some (doorCommand n a)
  | 0x41, [n] => some (doorStatus n)
  | 0x48, [z] => some (occupancyRead z)
  | 0x49, [z] => some (occupancyConfirm z)
  | 0x4A, [z, a, b, c, d] => some (occupancyRemove z (number [a, b, c, d]))
  | 0x50, [a, b, c, d, e, f] => some (inputClear (number [a, b, c, d, e, f]))
  | 0x5A, [n] => some (complete n)
  | 0x5C, [v] => some (silence v)
  | 0x60, [a, b] => some (lineTest (number [a, b]))
  | 0x62, [a, b, c] => some (lineClear (number [a, b, c]))
  | 0x68, [a, b, c, d, n] => some (journalRead (number [a, b, c, d]) n)
  | 0x69, [a, b, c, d] => some (journalAck (number [a, b, c, d]))
  | _, _ => none

/-- What a request of a kind does, by its payload's layout; `none` where the length does not fit the kind (R193). -/
def message (kind : Nat) (payload : List Byte) : Option (State → State) :=
  let p := payload.map fun b => b.toNat
  if kind = 0x01 then some (echo payload)
  else if (emptyMessage kind).isSome then if payload = [] then emptyMessage kind else none
  else if kind < 0x20 then settingsMessage kind p
  else orderMessage kind p

end Sys2Proof.Machine
end

