-- ==== Sys2Proof/WellFormed.lean ====
section
/-! DEFINITION. Which commands a part can be sent: a message's field fits the bytes that carry it (R189, R199), a
presentation has at most six decimal digits (R111), and an unknown kind is no kind of the catalogue (R193). A value
that fits its bytes and breaks a rule of the message is well formed: the message is then refused or clamped. -/

namespace Sys2Proof

/-- The kind codes of the catalogue (section 11.5). -/
def kindCodes : List Nat :=
  [0x01, 0x02, 0x03, 0x04, 0x05, 0x06, 0x07] ++
  [0x10, 0x11, 0x12, 0x13, 0x14, 0x15, 0x16, 0x17, 0x18, 0x19, 0x1A, 0x1B] ++
  [0x20, 0x21, 0x22, 0x23] ++
  [0x30, 0x31, 0x32, 0x33, 0x34, 0x35, 0x36, 0x37] ++
  [0x40, 0x41, 0x48, 0x49, 0x4A, 0x50, 0x51] ++
  [0x58, 0x59, 0x5A, 0x5B, 0x5C] ++
  [0x60, 0x61, 0x62, 0x68, 0x69]

/-- A field of `n` bytes can carry `v`. -/
def fits (n v : Nat) : Bool := decide (v < 256 ^ n)

def ZoneRequest.wellFormed (r : ZoneRequest) : Bool :=
  fits 1 r.zone && fits 1 r.countdown && fits 1 r.manualDelay && fits 1 r.abortMode && fits 1 r.doorHoldMax &&
  fits 1 r.occupiedRelease && fits 2 r.occupancyHoldMax && fits 1 r.firingTime && fits 1 r.reservePresent &&
  fits 1 r.reserveAuto && fits 1 r.singleKnock && fits 2 r.soakConstant && fits 2 r.ventConstant &&
  fits 2 r.doorConstant && fits 2 r.holdThreshold && fits 2 r.reentryThreshold && fits 2 r.minimumSoak &&
  fits 2 r.reserveFraction && fits 1 r.custodyWindow && fits 1 r.passback && fits 1 r.loneTime &&
  fits 1 r.openingSchedule

def DoorRequest.wellFormed (r : DoorRequest) : Bool :=
  fits 1 r.door && fits 1 r.inside && fits 1 r.outside && fits 1 r.lock && fits 1 r.fail && fits 1 r.unlockWindow &&
  fits 2 r.heldTime && fits 1 r.boltTime && fits 1 r.group && fits 1 r.custody && fits 1 r.slots

def CredentialRequest.wellFormed (r : CredentialRequest) : Bool :=
  fits 4 r.number && fits 2 r.holder && fits 1 r.role && fits 1 r.schedule && fits 1 r.pinLength &&
  r.digits.length == 6 && r.digits.all (fun d => decide (d < 16)) && fits 2 r.validFrom && fits 2 r.validUntil

/-- The commands the block can be sent. -/
def Instr.wellFormed : Instr → Bool
  | .powerOn _ _ => true
  | .rawLevelChange _ _ => true
  | .debounceExpiry _ => true
  | .validationExpiry _ => true
  | .detectorSample _ _ => true
  | .countdownIntervalExpiry _ => true
  | .doorHoldExpiry _ => true
  | .occupancyHoldExpiry _ => true
  | .firingTimerExpiry _ => true
  | .estimatorStep _ => true
  | .unlockWindowExpiry _ => true
  | .heldTimerExpiry _ => true
  | .boltTimeExpiry _ => true
  | .presentation _ c ds => fits 4 c && decide (ds.length ≤ 6) && ds.all fun d => decide (d ≤ 9)
  | .lockoutExpiry _ => true
  | .custodyWindowExpiry _ => true
  | .minuteBoundary => true
  | .loneTimerExpiry _ => true
  | .testStepEnd _ => true
  | .periodicTimerExpiry => true
  | .currentArrival _ => true
  | .receiveByte _ => true
  | .receiveTimeoutExpiry => true
  | .sendReply => true
  | .slotAnswer => true
  | .unknownKind k => !kindCodes.contains k.toNat
  | .echo p => decide (p.length ≤ 250)
  | .identify => true
  | .restart => true
  | .whoCalls => true
  | .whoCallsAddressed => true
  | .setTime _ day second => fits 2 day && fits 3 second
  | .getTime => true
  | .setLink timeout interval => fits 1 timeout && fits 1 interval
  | .setInput i l d v => fits 1 i && fits 1 l && fits 1 d && fits 1 v
  | .setDetector c z l t h => fits 1 c && fits 1 z && fits 1 l && fits 2 t && fits 2 h
  | .setZone r => r.wellFormed
  | .setDoor r => r.wellFormed
  | .setReader r d dir p => fits 1 r && fits 1 d && fits 1 dir && fits 1 p
  | .setStaff c z k => fits 1 c && fits 1 z && fits 1 k
  | .setOutput o srcs m s => fits 1 o && srcs.all (fits 1) && decide (srcs.length ≤ 246) && fits 1 m && fits 1 s
  | .setSource a b p e => fits 1 a && fits 1 b && fits 1 p && fits 1 e
  | .setThreshold t => fits 1 t
  | .setSchedule k is =>
    fits 1 k && decide (is.length ≤ 49) && is.all fun i => fits 2 i.start && fits 2 i.stop
  | .setHolidays ds => decide (ds.length ≤ 124) && ds.all (fits 2)
  | .getConfig k i => fits 1 k && fits 1 i
  | .enrol r => r.wellFormed
  | .revoke n => fits 4 n
  | .lookupExact n => fits 4 n
  | .lookupNext n => fits 4 n
  | .credentialCount => true
  | .zoneMode z m => fits 1 z && fits 1 m
  | .zoneDisable z => fits 1 z
  | .zoneEnable z => fits 1 z
  | .vent z _ => fits 1 z
  | .reserveRelease z => fits 1 z
  | .zoneReset z => fits 1 z
  | .zoneStatus z => fits 1 z
  | .detectorRead c _ => fits 1 c
  | .doorCommandFree d => fits 1 d
  | .doorCommandAuto d => fits 1 d
  | .doorCommandPulse d => fits 1 d
  | .doorCommandRetry d => fits 1 d
  | .doorStatus d => fits 1 d
  | .occupancyRead z => fits 1 z
  | .occupancyConfirm z => fits 1 z
  | .occupancyRemove z c => fits 1 z && fits 4 c
  | .inputClear s => fits 6 s
  | .inputStatus => true
  | .claim => true
  | .peek => true
  | .complete n => fits 1 n
  | .alarmStatus => true
  | .silence s => fits 1 s
  | .lineTest s => fits 2 s
  | .lineStatus => true
  | .lineClear s => fits 3 s
  | .journalRead start count => fits 4 start && fits 1 count
  | .journalAck n => fits 4 n
  | .clockSecond => true

end Sys2Proof
end

