-- ==== Sys2Proof/Machine/Link.lean ====
section
/-! DEFINITION. The link interface (sections 11.1 and 11.2, R163): the receive framer and its timeout, what a whole
frame does, the reply sent, the WHO_CALLS slot. -/

namespace Sys2Proof.Machine

/-! ## The slot (R163) -/

/-- A broadcast WHO_CALLS starts the part counting to its slot (R163). -/
def whoCalls (s : State) : State := s.modLink fun l => { l with slot := some false }

/-- The slot answer to a caller (R163, R200). -/
def slotFrame (s : State) (src : Source) : List Byte :=
  withCrc (byte s.link.node.toNat ++ [4, 4, 0] ++ callerBytes (some (alarmReport s src)))

/-- The part's slot starts (R163); a part strapped to address 0 never answers (R191). -/
def slotAnswer (s : State) : State :=
  match s.link.slot, claimable s with
  | none, _ => s
  | some heard, caller =>
    let s1 := s.modLink fun l => { l with slot := none }
    match caller with
    | none => s1
    | some src =>
      if heard = false ∧ attentionDriven s = true ∧ s.link.node ≠ 0 then
        (s1.modLink fun l => { l with sent := slotFrame s src }).modAlarm fun a => { a with suppressed := true }
      else s1

/-! ## Requests (R191 to R193) -/

/-- An addressed request, its kind and length checked in this order (R193). -/
def request (kind : Byte) (payload : List Byte) (s : State) : State :=
  if kindCodes.contains kind.toNat then
    match message kind.toNat payload with
    | some f => f s
    | none => refuse kind.toNat .length s
  else unknownKind kind s

/-- A broadcast: WHO_CALLS and SET_TIME are taken, every other is discarded (R191). -/
def broadcast (kind : Byte) (payload : List Byte) (s : State) : State :=
  match kind.toNat, payload.map fun b => b.toNat with
  | 0x04, [] => whoCalls s
  | 0x05, [d0, d1, s0, s1, s2] => setTime true (number [d0, d1]) (number [s0, s1, s2]) s
  | _, _ => s

/-- A frame that passed its CRC, by its address (R191). -/
def accept (addr kind : Byte) (payload : List Byte) (s : State) : State :=
  if addr = 0 then broadcast kind payload s
  else if addr.toNat = s.link.node.toNat then request kind payload s
  else s

/-- A frame completes: a bad CRC, or a reply still to be sent, discards it (R190, R192). -/
def completeFrame (addr len : Byte) (body : List Byte) (s : State) : State :=
  let content := body.take len.toNat
  if withCrc (addr :: len :: content) ≠ addr :: len :: body then s
  else if s.link.reply.isSome then s
  else match content with
    | kind :: payload => accept addr kind payload s
    | [] => s

/-! ## The framer (R190) -/

/-- The framer's next phase; the receive timer runs in HEADER and BODY unless the limit is 0. -/
def setFramer (f : Framer) (s : State) : State :=
  s.modLink fun l => { l with framer := f, timing := decide (f ≠ .waiting ∧ l.limit ≠ 0) }

/-- LEN is received (R190). -/
def takeLength (addr len : Byte) (s : State) : State :=
  if len.toNat = 0 ∨ 251 < len.toNat then setFramer .waiting s else setFramer (.body addr len []) s

/-- A byte of the body is received (R190). -/
def takeBody (addr len : Byte) (received : List Byte) (b : Byte) (s : State) : State :=
  let body := received ++ [b]
  if body.length = len.toNat + 2 then completeFrame addr len body (setFramer .waiting s)
  else setFramer (.body addr len body) s

/-- ADDR is received; the frame is timed under the setting that now stands (R190, R197). -/
def takeAddress (b : Byte) (s : State) : State :=
  setFramer (.header b) (s.modLink fun l => { l with limit := s.store.receiveTimeout })

/-- A byte arrives on the data pair (R190). -/
def receiveByte (b : Byte) (s : State) : State :=
  let s1 := heardActivity s
  match s.link.framer with
  | .waiting => takeAddress b s1
  | .header addr => takeLength addr b s1
  | .body addr len received => takeBody addr len received b s1

/-- The receive timeout expires (R190). -/
def expireReceive (s : State) : State := if s.link.timing then setFramer .waiting s else s

/-- The part sends its reply (R192; notes/assumptions/18.md and 24.md). -/
def sendReply (s : State) : State :=
  match s.link.reply with
  | none => s
  | some r => (heardActivity s).modLink fun l => { l with sent := replyFrame l.node r, reply := none }

end Sys2Proof.Machine
end

