-- ==== Sys2Proof/Machine/Reset.lean ====
section
/-! DEFINITION. POWER_ON: what each block starts with (R8, R18, R47, R64, R91, R92, R107, R121, R128, R136, R145, R166,
R181, R187, R194, R198), then what happens in that event. -/

namespace Sys2Proof.Machine

/-- The settings the part finds: those it wrote, or every default (R194). -/
def loadStore (store : Store) : Store := { (if store.written then store else Store.erased) with written := true }

/-- The journal the part finds (R187; notes/assumptions/11.md). -/
def loadJournal (s : State) : Journal := if s.store.written then s.journal else Journal.erased

/-- The state a stored state is restored as (R47). -/
def restored : ReleaseState → ReleaseState
  | .discharge => .soak
  | st => st

/-- The estimate of a restored zone (R64). -/
def restoredEstimate (st : ReleaseState) : Estimate :=
  if ReleaseState.isStepping st then ⟨10000, 0, false, false, some 10⟩ else Estimate.absent

/-- The wired level of an input: bit i set is HIGH (notes/assumptions/1.md). -/
def wired (levels : BitVec 48) (i : InputNo) : Level := if levels.getLsbD i.val then .high else .low

/-- The volatile state right after the store is loaded, before anything is evaluated. -/
def coldStart (straps : BitVec 5) (levels : BitVec 48) (s : State) : State :=
  let store := loadStore s.store
  { pending := s.pending
    free := s.free
    store := { store with records := store.records.map fun r => { r with state := restored r.state } }
    journal := loadJournal s
    inputs := Vector.ofFn fun i => ⟨wired levels i, .idle, false⟩
    channels := Vector.replicate 16 Channel.fresh
    detection := Vector.replicate 4 .quiet
    release := store.records.map fun r => Release.fresh (restored r.state)
    estimate := store.records.map fun r => restoredEstimate (restored r.state)
    doors := Vector.replicate 8 (Door.fresh .starting)
    queue := Vector.replicate 8 none
    motions := Vector.replicate 8 none
    gateClosed := false
    clock := ⟨false, 0, 0⟩
    period := Vector.replicate 4 .day
    readers := Vector.replicate 8 ⟨0, none⟩
    custody := Vector.replicate 8 none
    occupancy := Vector.replicate 4 ⟨[], false⟩
    loneTimer := Vector.replicate 4 none
    loneOutrun := Vector.replicate 4 false
    alarm := ⟨Vector.replicate 115 false, Vector.replicate 115 false, [], false⟩
    outputs := Vector.replicate 8 ⟨false, false⟩
    line :=
      { flags := Vector.replicate 16 ⟨false, false⟩
        supply := false
        run := RunRecord.fresh .powerOn fun _ => true
        periodic := periodicStart store.testInterval
        checks := Vector.replicate 8 none }
    link :=
      { node := straps
        framer := .waiting
        limit := 0
        timing := false
        slot := none
        reply := none
        sent := []
        uptime := 0
        foundStored := s.store.written } }

/-- The ZONE_STATE record of a restored zone (R47). -/
def announceZone (z : Zone) (s : State) : State := write .zoneState (Zone.number z) 0 (.state s.release[z].state) s

/-- A zone's starting period and conditions (R107, R166, R138). -/
def evaluateZone (z : Zone) (s : State) : State :=
  reOccupant z (reImpaired z (s.setPeriod z (derivedPeriod s z)))

/-- The first reading of an input (R8, R92). -/
def firstReading (i : InputNo) (s : State) : State := noteFirst i (judgeRaw i s)

/-- POWER_ON. -/
def powerOn (straps : BitVec 5) (levels : BitVec 48) (s : State) : State :=
  let s1 := coldStart straps levels s
  let s2 := write .powerOn 0 0 (if s.store.written then .stored else .erased) s1
  let s3 := forEach allZones evaluateZone (forEach allZones announceZone s2)
  forEach allInputs firstReading (clockCondition s3)

end Sys2Proof.Machine
end

