-- ==== Sys2Proof/Machine/EventCommands.lean ====
section
/-! DEFINITION. What comes from the field, from time and from the line as bytes: one meaning per row of the table.
A meaning that can begin or end a firing lets the firing gate follow at its end (R38). -/

namespace Sys2Proof.Machine

/-- POWER_ON (R194). -/
def execPowerOn (straps : BitVec 5) (levels : BitVec 48) (s : State) : Answer := finish (powerOn straps levels s)

/-- RAW_LEVEL_CHANGE (R3). -/
def execRawLevelChange (input : InputNo) (level : Level) (s : State) : Answer := finish (rawChange input level s)

/-- DEBOUNCE_EXPIRY (R3, R4). -/
def execDebounceExpiry (input : InputNo) (s : State) : Answer := finish (expireDebounce input s)

/-- VALIDATION_EXPIRY (R3). -/
def execValidationExpiry (input : InputNo) (s : State) : Answer := finish (expireValidation input s)

/-- DETECTOR_SAMPLE (R10). -/
def execDetectorSample (channel : ChannelNo) (value : BitVec 12) (s : State) : Answer :=
  finish (sample channel value.toNat s)

/-- COUNTDOWN_INTERVAL_EXPIRY (R26). -/
def execCountdownIntervalExpiry (zone : Zone) (s : State) : Answer := finish (expireInterval zone s)

/-- DOOR_HOLD_EXPIRY (R30). -/
def execDoorHoldExpiry (zone : Zone) (s : State) : Answer := finish (expireDoorHold zone s)

/-- OCCUPANCY_HOLD_EXPIRY (R32). -/
def execOccupancyHoldExpiry (zone : Zone) (s : State) : Answer := finish (expireOccupancyHold zone s)

/-- FIRING_TIMER_EXPIRY (R37). -/
def execFiringTimerExpiry (zone : Zone) (s : State) : Answer := finish (expireFiring zone s)

/-- ESTIMATOR_STEP (R53). -/
def execEstimatorStep (zone : Zone) (s : State) : Answer := finish (estimateStep zone s)

/-- UNLOCK_WINDOW_EXPIRY (R75). -/
def execUnlockWindowExpiry (door : DoorNo) (s : State) : Answer := .next (expireWindow door s)

/-- HELD_TIMER_EXPIRY (R76). -/
def execHeldTimerExpiry (door : DoorNo) (s : State) : Answer := .next (expireHeld door s)

/-- BOLT_TIME_EXPIRY (R86). -/
def execBoltTimeExpiry (time : BoltTime) (s : State) : Answer := .next (expireBolt time.door time.motion s)

/-- PRESENTATION (R111). -/
def execPresentation (reader : ReaderNo) (credential : Nat) (digits : List Nat) (s : State) : Answer :=
  finish (present reader credential digits s)

/-- LOCKOUT_EXPIRY (R115). -/
def execLockoutExpiry (reader : ReaderNo) (s : State) : Answer := .next (expireLockout reader s)

/-- CUSTODY_WINDOW_EXPIRY (R121). -/
def execCustodyWindowExpiry (door : DoorNo) (s : State) : Answer := .next (closeCustody door s)

/-- MINUTE_BOUNDARY (R104). -/
def execMinuteBoundary (s : State) : Answer := .next (minuteBoundary s)

/-- LONE_TIMER_EXPIRY (R135). -/
def execLoneTimerExpiry (zone : Zone) (s : State) : Answer := .next (expireLone zone s)

/-- TEST_STEP_END (R172, R174). -/
def execTestStepEnd (step : StepEnd) (s : State) : Answer := .next (endStep step.check step.faulty s)

/-- PERIODIC_TIMER_EXPIRY (R178). -/
def execPeriodicTimerExpiry (s : State) : Answer := .next (expirePeriodic s)

/-- CURRENT_ARRIVAL (R179). -/
def execCurrentArrival (circuit : Fin 8) (s : State) : Answer := .next (arriveCurrent circuit s)

/-- RECEIVE_BYTE (R190). -/
def execReceiveByte (b : Byte) (s : State) : Answer := finish (receiveByte b s)

/-- RECEIVE_TIMEOUT_EXPIRY (R190). -/
def execReceiveTimeoutExpiry (s : State) : Answer := .next (expireReceive s)

/-- SEND_REPLY (R192). -/
def execSendReply (s : State) : Answer := .next (sendReply s)

/-- SLOT_ANSWER (R163). -/
def execSlotAnswer (s : State) : Answer := .next (slotAnswer s)

/-- CLOCK_SECOND (R98). -/
def execClockSecond (s : State) : Answer := .next (clockSecond s)

end Sys2Proof.Machine
end

