-- ==== Sys2Proof/Machine/OrderCommands.lean ====
section
/-! DEFINITION. The messages that order and ask: one meaning per row. -/

namespace Sys2Proof.Machine

/-- UNKNOWN_KIND (R193). -/
def execUnknownKind (kind : Byte) (s : State) : Answer := .next (unknownKind kind s)

/-- ECHO (R196). -/
def execEcho (payload : List Byte) (s : State) : Answer := .next (echo payload s)

/-- IDENTIFY (R196). -/
def execIdentify (s : State) : Answer := .next (identify s)

/-- RESTART (R198). -/
def execRestart (s : State) : Answer := .next (restart s)

/-- WHO_CALLS as a broadcast (R163). -/
def execWhoCalls (s : State) : Answer := .next (whoCalls s)

/-- WHO_CALLS addressed to the part (R164). -/
def execWhoCallsAddressed (s : State) : Answer := .next (whoCallsAddressed s)

/-- ZONE_MODE (R105). -/
def execZoneMode (zone mode : Nat) (s : State) : Answer := .next (zoneMode zone mode s)

/-- ZONE_DISABLE (R33). -/
def execZoneDisable (zone : Nat) (s : State) : Answer := .next (zoneDisable zone s)

/-- ZONE_ENABLE (R34). -/
def execZoneEnable (zone : Nat) (s : State) : Answer := finish (zoneEnable zone s)

/-- VENT (R41). -/
def execVent (zone : Nat) (force : Bool) (s : State) : Answer := .next (vent zone force s)

/-- RESERVE_RELEASE (R40). -/
def execReserveRelease (zone : Nat) (s : State) : Answer := finish (reserveRelease zone s)

/-- ZONE_RESET (R43). -/
def execZoneReset (zone : Nat) (s : State) : Answer := .next (zoneReset zone s)

/-- ZONE_STATUS (R45). -/
def execZoneStatus (zone : Nat) (s : State) : Answer := .next (zoneStatus zone s)

/-- DETECTOR_READ (R13). -/
def execDetectorRead (channel : Nat) (clearPeak : Bool) (s : State) : Answer :=
  .next (detectorRead channel clearPeak s)

/-- DOOR_COMMAND FREE (R81). -/
def execDoorCommandFree (door : Nat) (s : State) : Answer := .next (doorFree door s)

/-- DOOR_COMMAND AUTO (R81). -/
def execDoorCommandAuto (door : Nat) (s : State) : Answer := .next (doorAuto door s)

/-- DOOR_COMMAND PULSE (R81). -/
def execDoorCommandPulse (door : Nat) (s : State) : Answer := .next (doorPulse door s)

/-- DOOR_COMMAND RETRY (R87). -/
def execDoorCommandRetry (door : Nat) (s : State) : Answer := .next (doorRetry door s)

/-- DOOR_STATUS (R77). -/
def execDoorStatus (door : Nat) (s : State) : Answer := .next (doorStatus door s)

/-- OCCUPANCY_READ (R127). -/
def execOccupancyRead (zone : Nat) (s : State) : Answer := .next (occupancyRead zone s)

/-- OCCUPANCY_CONFIRM (R126). -/
def execOccupancyConfirm (zone : Nat) (s : State) : Answer := finish (occupancyConfirm zone s)

/-- OCCUPANCY_REMOVE (R126). -/
def execOccupancyRemove (zone credential : Nat) (s : State) : Answer := finish (occupancyRemove zone credential s)

/-- INPUT_CLEAR (R6). -/
def execInputClear (selection : Nat) (s : State) : Answer := finish (inputClear selection s)

/-- INPUT_STATUS (R8). -/
def execInputStatus (s : State) : Answer := .next (inputStatus s)

/-- CLAIM (R153). -/
def execClaim (s : State) : Answer := .next (claim s)

/-- PEEK (R154). -/
def execPeek (s : State) : Answer := .next (peek s)

/-- COMPLETE (R155). -/
def execComplete (source : Nat) (s : State) : Answer := .next (complete source s)

/-- ALARM_STATUS (R165). -/
def execAlarmStatus (s : State) : Answer := .next (alarmStatus s)

/-- SILENCE (R142). -/
def execSilence (selection : Nat) (s : State) : Answer := .next (silence selection s)

/-- LINE_TEST (R171). -/
def execLineTest (selection : Nat) (s : State) : Answer := .next (lineTest selection s)

/-- LINE_STATUS (R180). -/
def execLineStatus (s : State) : Answer := .next (lineStatus s)

/-- LINE_CLEAR (R176). -/
def execLineClear (selection : Nat) (s : State) : Answer := .next (lineClear selection s)

/-- JOURNAL_READ (R184). -/
def execJournalRead (start count : Nat) (s : State) : Answer := .next (journalRead start count s)

/-- JOURNAL_ACK (R185). -/
def execJournalAck (sequence : Nat) (s : State) : Answer := .next (journalAck sequence s)

end Sys2Proof.Machine
end

