-- ==== Sys2Proof/Machine/SettingsCommands.lean ====
section
/-! DEFINITION. The messages that set, and read back, settings, the clock and the credential table: one meaning
per row. -/

namespace Sys2Proof.Machine

/-- SET_TIME (R99). -/
def execSetTime (bcast : Bool) (day second : Nat) (s : State) : Answer := .next (setTime bcast day second s)

/-- GET_TIME (R100). -/
def execGetTime (s : State) : Answer := .next (getTime s)

/-- SET_LINK (R197). -/
def execSetLink (timeout interval : Nat) (s : State) : Answer := .next (setLink timeout interval s)

/-- SET_INPUT (R2, R7). -/
def execSetInput (input level debounce validation : Nat) (s : State) : Answer :=
  finish (setInput input level debounce validation s)

/-- SET_DETECTOR (R9). -/
def execSetDetector (channel zone loop threshold hysteresis : Nat) (s : State) : Answer :=
  finish (setDetector channel zone loop threshold hysteresis s)

/-- SET_ZONE (R19). -/
def execSetZone (r : ZoneRequest) (s : State) : Answer := finish (setZone r s)

/-- SET_DOOR (R66). -/
def execSetDoor (r : DoorRequest) (s : State) : Answer := .next (setDoor r s)

/-- SET_READER (R109). -/
def execSetReader (reader door direction policy : Nat) (s : State) : Answer :=
  .next (setReader reader door direction policy s)

/-- SET_STAFF (R131). -/
def execSetStaff (channel zone kind : Nat) (s : State) : Answer := .next (setStaff channel zone kind s)

/-- SET_OUTPUT (R140). -/
def execSetOutput (output : Nat) (sources : List Nat) (mode silenceable : Nat) (s : State) : Answer :=
  .next (setOutput output sources mode silenceable s)

/-- SET_SOURCE (R157). -/
def execSetSource (first last prio enable : Nat) (s : State) : Answer := .next (setSource first last prio enable s)

/-- SET_THRESHOLD (R158). -/
def execSetThreshold (threshold : Nat) (s : State) : Answer := .next (setThreshold threshold s)

/-- SET_SCHEDULE (R101). -/
def execSetSchedule (schedule : Nat) (intervals : List IntervalRequest) (s : State) : Answer :=
  .next (setSchedule schedule intervals s)

/-- SET_HOLIDAYS (R102). -/
def execSetHolidays (days : List Nat) (s : State) : Answer := .next (setHolidays days s)

/-- GET_CONFIG (R195). -/
def execGetConfig (kind number : Nat) (s : State) : Answer := .next (getConfig kind number s)

/-- ENROL (R94). -/
def execEnrol (r : CredentialRequest) (s : State) : Answer := .next (enrol r s)

/-- REVOKE (R95). -/
def execRevoke (number : Nat) (s : State) : Answer := .next (revoke number s)

/-- LOOKUP, EXACT (R96). -/
def execLookupExact (number : Nat) (s : State) : Answer := .next (lookupExact number s)

/-- LOOKUP, NEXT (R96). -/
def execLookupNext (number : Nat) (s : State) : Answer := .next (lookupNext number s)

/-- CREDENTIAL_COUNT (R96). -/
def execCredentialCount (s : State) : Answer := .next (credentialCount s)

end Sys2Proof.Machine
end

