-- ==== Sys2Proof/Machine/Dispatch.lean ====
section
/-! DEFINITION. One arm per command. -/

namespace Sys2Proof.Machine

def exec (i : Instr) (s : State) : Host.Outcome State Fault Refusal :=
  match i with
  | .powerOn straps levels => Sys2Proof.Machine.execPowerOn straps levels s
  | .rawLevelChange input level => Sys2Proof.Machine.execRawLevelChange input level s
  | .debounceExpiry input => Sys2Proof.Machine.execDebounceExpiry input s
  | .validationExpiry input => Sys2Proof.Machine.execValidationExpiry input s
  | .detectorSample channel value => Sys2Proof.Machine.execDetectorSample channel value s
  | .countdownIntervalExpiry zone => Sys2Proof.Machine.execCountdownIntervalExpiry zone s
  | .doorHoldExpiry zone => Sys2Proof.Machine.execDoorHoldExpiry zone s
  | .occupancyHoldExpiry zone => Sys2Proof.Machine.execOccupancyHoldExpiry zone s
  | .firingTimerExpiry zone => Sys2Proof.Machine.execFiringTimerExpiry zone s
  | .estimatorStep zone => Sys2Proof.Machine.execEstimatorStep zone s
  | .unlockWindowExpiry door => Sys2Proof.Machine.execUnlockWindowExpiry door s
  | .heldTimerExpiry door => Sys2Proof.Machine.execHeldTimerExpiry door s
  | .boltTimeExpiry time => Sys2Proof.Machine.execBoltTimeExpiry time s
  | .presentation reader credential digits => Sys2Proof.Machine.execPresentation reader credential digits s
  | .lockoutExpiry reader => Sys2Proof.Machine.execLockoutExpiry reader s
  | .custodyWindowExpiry door => Sys2Proof.Machine.execCustodyWindowExpiry door s
  | .minuteBoundary => Sys2Proof.Machine.execMinuteBoundary s
  | .loneTimerExpiry zone => Sys2Proof.Machine.execLoneTimerExpiry zone s
  | .testStepEnd step => Sys2Proof.Machine.execTestStepEnd step s
  | .periodicTimerExpiry => Sys2Proof.Machine.execPeriodicTimerExpiry s
  | .currentArrival circuit => Sys2Proof.Machine.execCurrentArrival circuit s
  | .receiveByte byte => Sys2Proof.Machine.execReceiveByte byte s
  | .receiveTimeoutExpiry => Sys2Proof.Machine.execReceiveTimeoutExpiry s
  | .sendReply => Sys2Proof.Machine.execSendReply s
  | .slotAnswer => Sys2Proof.Machine.execSlotAnswer s
  | .unknownKind kind => Sys2Proof.Machine.execUnknownKind kind s
  | .echo payload => Sys2Proof.Machine.execEcho payload s
  | .identify => Sys2Proof.Machine.execIdentify s
  | .restart => Sys2Proof.Machine.execRestart s
  | .whoCalls => Sys2Proof.Machine.execWhoCalls s
  | .whoCallsAddressed => Sys2Proof.Machine.execWhoCallsAddressed s
  | .setTime broadcast day second => Sys2Proof.Machine.execSetTime broadcast day second s
  | .getTime => Sys2Proof.Machine.execGetTime s
  | .setLink timeout interval => Sys2Proof.Machine.execSetLink timeout interval s
  | .setInput input level debounce validation => Sys2Proof.Machine.execSetInput input level debounce validation s
  | .setDetector channel zone loop threshold hysteresis => Sys2Proof.Machine.execSetDetector channel zone loop threshold hysteresis s
  | .setZone request => Sys2Proof.Machine.execSetZone request s
  | .setDoor request => Sys2Proof.Machine.execSetDoor request s
  | .setReader reader door direction policy => Sys2Proof.Machine.execSetReader reader door direction policy s
  | .setStaff channel zone kind => Sys2Proof.Machine.execSetStaff channel zone kind s
  | .setOutput output sources mode silenceable => Sys2Proof.Machine.execSetOutput output sources mode silenceable s
  | .setSource first last priority enable => Sys2Proof.Machine.execSetSource first last priority enable s
  | .setThreshold threshold => Sys2Proof.Machine.execSetThreshold threshold s
  | .setSchedule schedule intervals => Sys2Proof.Machine.execSetSchedule schedule intervals s
  | .setHolidays days => Sys2Proof.Machine.execSetHolidays days s
  | .getConfig kind item => Sys2Proof.Machine.execGetConfig kind item s
  | .enrol request => Sys2Proof.Machine.execEnrol request s
  | .revoke number => Sys2Proof.Machine.execRevoke number s
  | .lookupExact number => Sys2Proof.Machine.execLookupExact number s
  | .lookupNext number => Sys2Proof.Machine.execLookupNext number s
  | .credentialCount => Sys2Proof.Machine.execCredentialCount s
  | .zoneMode zone mode => Sys2Proof.Machine.execZoneMode zone mode s
  | .zoneDisable zone => Sys2Proof.Machine.execZoneDisable zone s
  | .zoneEnable zone => Sys2Proof.Machine.execZoneEnable zone s
  | .vent zone force => Sys2Proof.Machine.execVent zone force s
  | .reserveRelease zone => Sys2Proof.Machine.execReserveRelease zone s
  | .zoneReset zone => Sys2Proof.Machine.execZoneReset zone s
  | .zoneStatus zone => Sys2Proof.Machine.execZoneStatus zone s
  | .detectorRead channel clearPeak => Sys2Proof.Machine.execDetectorRead channel clearPeak s
  | .doorCommandFree door => Sys2Proof.Machine.execDoorCommandFree door s
  | .doorCommandAuto door => Sys2Proof.Machine.execDoorCommandAuto door s
  | .doorCommandPulse door => Sys2Proof.Machine.execDoorCommandPulse door s
  | .doorCommandRetry door => Sys2Proof.Machine.execDoorCommandRetry door s
  | .doorStatus door => Sys2Proof.Machine.execDoorStatus door s
  | .occupancyRead zone => Sys2Proof.Machine.execOccupancyRead zone s
  | .occupancyConfirm zone => Sys2Proof.Machine.execOccupancyConfirm zone s
  | .occupancyRemove zone credential => Sys2Proof.Machine.execOccupancyRemove zone credential s
  | .inputClear selection => Sys2Proof.Machine.execInputClear selection s
  | .inputStatus => Sys2Proof.Machine.execInputStatus s
  | .claim => Sys2Proof.Machine.execClaim s
  | .peek => Sys2Proof.Machine.execPeek s
  | .complete source => Sys2Proof.Machine.execComplete source s
  | .alarmStatus => Sys2Proof.Machine.execAlarmStatus s
  | .silence selection => Sys2Proof.Machine.execSilence selection s
  | .lineTest selection => Sys2Proof.Machine.execLineTest selection s
  | .lineStatus => Sys2Proof.Machine.execLineStatus s
  | .lineClear selection => Sys2Proof.Machine.execLineClear selection s
  | .journalRead start count => Sys2Proof.Machine.execJournalRead start count s
  | .journalAck sequence => Sys2Proof.Machine.execJournalAck sequence s
  | .clockSecond => Sys2Proof.Machine.execClockSecond s

end Sys2Proof.Machine
end

