-- ==== Sys2Proof/Safety.lean ====
section
/-! DEFINITION. What statements say things with: frames (what an operation leaves as it was) and the invariants of the
machine. -/

namespace Sys2Proof.Machine

/-! ## Frames: `t` is `s` but for the components the name says -/

/-- At most the journal, the alarm sources, the annunciator outputs and the test-run record differ: what a record or a
source can set going. -/
structure Signals (s t : State) : Prop where
  pending : t.pending = s.pending
  free : t.free = s.free
  store : t.store = s.store
  inputs : t.inputs = s.inputs
  channels : t.channels = s.channels
  detection : t.detection = s.detection
  release : t.release = s.release
  estimate : t.estimate = s.estimate
  doors : t.doors = s.doors
  queue : t.queue = s.queue
  motions : t.motions = s.motions
  gateClosed : t.gateClosed = s.gateClosed
  clock : t.clock = s.clock
  period : t.period = s.period
  readers : t.readers = s.readers
  custody : t.custody = s.custody
  occupancy : t.occupancy = s.occupancy
  loneTimer : t.loneTimer = s.loneTimer
  loneOutrun : t.loneOutrun = s.loneOutrun
  link : t.link = s.link
  flags : t.line.flags = s.line.flags
  supply : t.line.supply = s.line.supply
  periodic : t.line.periodic = s.line.periodic
  checks : t.line.checks = s.line.checks

/-- `t` is `s` after records and after changes of the sources `srcs`: beside them only source 115, the backlog, which any
record may raise, and the outputs that list one of these. -/
structure Affects (srcs : List Source) (s t : State) : Prop extends Signals s t where
  inService : t.alarm.inService = s.alarm.inService
  newest : s.journal.newest ≤ t.journal.newest
  boundary : t.journal.boundary = s.journal.boundary
  pendingSame : ∀ src, src ∉ srcs → src ≠ Source.backlog → t.alarm.pending[src] = s.alarm.pending[src]
  conditionSame : ∀ src, src ∉ srcs → src ≠ Source.backlog → t.alarm.condition[src] = s.alarm.condition[src]
  outputSame : ∀ o : OutputNo, (∀ src ∈ s.store.outputs[o].sources, src ∉ srcs ∧ src ≠ Source.backlog) →
    t.outputs[o] = s.outputs[o]

/-- The stored settings are the same; only the zones' stored records may differ (R46). -/
structure SameSettings (a b : Store) : Prop where
  written : b.written = a.written
  inputs : b.inputs = a.inputs
  detectors : b.detectors = a.detectors
  zones : b.zones = a.zones
  doors : b.doors = a.doors
  slots : b.slots = a.slots
  credentials : b.credentials = a.credentials
  schedules : b.schedules = a.schedules
  holidays : b.holidays = a.holidays
  modes : b.modes = a.modes
  readers : b.readers = a.readers
  staff : b.staff = a.staff
  outputs : b.outputs = a.outputs
  sources : b.sources = a.sources
  threshold : b.threshold = a.threshold
  receiveTimeout : b.receiveTimeout = a.receiveTimeout
  testInterval : b.testInterval = a.testInterval

/-- The parts of the state beside the journal, the alarm sources, the outputs and the test-run record. DOORS are the doors
with the bolt queue and the motions. -/
inductive Part
  | settings | records | inputs | channels | detection | release | estimate | doors | gate | clock | period | readers
  | custody | occupancy | lone | flags | supply | periodic | checks | link
  deriving DecidableEq, Repr

/-- The frame of an event: of the parts only `parts` may differ, of the alarm sources only `srcs` and source 115, the
backlog, which any record may raise, of the outputs only those that list one of these. The queue of waiting commands, the
in-service list and the acknowledge boundary are the same, and no journal sequence is taken back. -/
structure Frame (parts : List Part) (srcs : List Source) (s t : State) : Prop where
  pending : t.pending = s.pending
  free : t.free = s.free
  settings : Part.settings ∉ parts → SameSettings s.store t.store
  records : Part.records ∉ parts → t.store.records = s.store.records
  inputs : Part.inputs ∉ parts → t.inputs = s.inputs
  channels : Part.channels ∉ parts → t.channels = s.channels
  detection : Part.detection ∉ parts → t.detection = s.detection
  release : Part.release ∉ parts → t.release = s.release
  estimate : Part.estimate ∉ parts → t.estimate = s.estimate
  doors : Part.doors ∉ parts → t.doors = s.doors
  queue : Part.doors ∉ parts → t.queue = s.queue
  motions : Part.doors ∉ parts → t.motions = s.motions
  gateClosed : Part.gate ∉ parts → t.gateClosed = s.gateClosed
  clock : Part.clock ∉ parts → t.clock = s.clock
  period : Part.period ∉ parts → t.period = s.period
  readers : Part.readers ∉ parts → t.readers = s.readers
  custody : Part.custody ∉ parts → t.custody = s.custody
  occupancy : Part.occupancy ∉ parts → t.occupancy = s.occupancy
  loneTimer : Part.lone ∉ parts → t.loneTimer = s.loneTimer
  loneOutrun : Part.lone ∉ parts → t.loneOutrun = s.loneOutrun
  flags : Part.flags ∉ parts → t.line.flags = s.line.flags
  supply : Part.supply ∉ parts → t.line.supply = s.line.supply
  periodic : Part.periodic ∉ parts → t.line.periodic = s.line.periodic
  checks : Part.checks ∉ parts → t.line.checks = s.line.checks
  link : Part.link ∉ parts → t.link = s.link
  inService : t.alarm.inService = s.alarm.inService
  newest : s.journal.newest ≤ t.journal.newest
  boundary : t.journal.boundary = s.journal.boundary
  pendingSame : ∀ src, src ∉ srcs → src ≠ Source.backlog → t.alarm.pending[src] = s.alarm.pending[src]
  conditionSame : ∀ src, src ∉ srcs → src ≠ Source.backlog → t.alarm.condition[src] = s.alarm.condition[src]
  outputSame : Part.settings ∉ parts → ∀ o : OutputNo,
    (∀ src ∈ s.store.outputs[o].sources, src ∉ srcs ∧ src ≠ Source.backlog) → t.outputs[o] = s.outputs[o]

/-- The sources of the door controller: FORCED, HELD, BOLT. -/
def doorSources : List Source := allDoors.map Source.forced ++ allDoors.map Source.held ++ allDoors.map Source.bolt

/-- What the door controller does by itself. -/
abbrev DoorFrame (s t : State) : Prop := Frame [.doors] doorSources s t

/-- What a change of release state can set going: the release sequencer, the agent estimator, the firing check and, by
the egress override, the doors. -/
def zoneParts : List Part := [.records, .release, .estimate, .doors, .flags, .checks]

/-- The sources that a change of release state can set going. -/
def zoneSources : List Source :=
  doorSources ++ allZones.map Source.discharge ++ allZones.map Source.soakLoss ++ allZones.map Source.occupant ++
  allZones.map Source.impaired ++ allCircuits.map Source.circuit

/-- What the release sequencer and the agent estimator do. -/
abbrev ZoneFrame (s t : State) : Prop := Frame zoneParts zoneSources s t

/-- What an input can set going: its own phase, a door, the occupancy lists, the release sequencer (R1). -/
def inputParts : List Part := [.inputs, .occupancy, .lone, .gate] ++ zoneParts

/-- The sources that an input can set going. -/
def inputSources : List Source := zoneSources ++ allZones.map Source.escort ++ (List.finRange 16).map Source.staff

/-- What a change of the held detection can set going, beside the detection itself (R16, R23). -/
def detectionParts : List Part := [.detection, .gate] ++ zoneParts

/-- The sources that a detector channel can set going. -/
def detectionSources : List Source :=
  zoneSources ++ allZones.map Source.fire ++ allZones.map Source.firstKnock ++ allChannels.map Source.detectorFault

/-- What re-deriving the zones' periods can set going: custody windows and lone timers (R106). -/
def periodParts : List Part := [.period, .custody, .lone]

/-- The sources of the line supervisor. -/
def lineSources : List Source :=
  allCircuits.map Source.circuit ++ allZones.map Source.impaired ++ [Source.supply]

/-- The link interface holds this reply to be sent, its slot has heard the request, and it is otherwise as it was (R163,
R192). -/
def Replied (kind : Byte) (status : Status) (body : ReplyBody) (s t : State) : Prop :=
  t.link = { Link.heard s.link with reply := some ⟨kind, status, body⟩ }

/-- The journal of `t` holds the record that an event in `s` writes first, if the journal has room (R183). -/
def Recorded (kind : RecordKind) (subject cred : Nat) (detail : Detail) (s t : State) : Prop :=
  s.journal.newest < 4294967295 →
    ⟨s.journal.newest + 1, if s.clock.set then s.clock.day else 0, if s.clock.set then s.clock.second else 0, kind,
      subject, cred, detail⟩ ∈ t.journal.ring

/-! ## Premises on a state -/

/-- The firing gate stands as the firings say (R38): so it does at the end of every event. -/
def GateFollows (s : State) : Prop := s.gateClosed = anyFiring s

/-! ## The tables of the manual that several statements share -/

/-- Where an activation leaves an input (R3). -/
def settledPhase : InputMode → Phase
  | .follow => .on
  | .latch => .latched

/-- The phase after the raw level changed: `d` and `v` say that the debounce and the validation setting are 0, `act`
that the new level is the active one (R3 to R5). -/
def phaseAfterRaw (mode : InputMode) (d v act : Bool) : Phase → Phase
  | .idle => if act then (if d then (if v then settledPhase mode else .validate) else .debounceOn) else .idle
  | .validate => if act then .validate else .idle
  | .on => if act then .on else if d then .idle else .debounceOff
  | .debounceOff => if act then .on else .debounceOff
  | p => p

/-- DISCHARGE, or ABORT_HELD while the abort station is ACTIVE (R22). -/
def dischargeOutcome (s : State) (z : Zone) : ReleaseState := if abortHeld s z then .abortHeld else .discharge

/-- What the occupancy check decides (R31). -/
def occupancyOutcome (s : State) (z : Zone) : ReleaseState :=
  if s.occupancy[z].list = [] ∧ s.occupancy[z].certain = true then dischargeOutcome s z else .occupiedHold

/-- What the end of a countdown decides (R29). -/
def countdownOutcome (s : State) (z : Zone) : ReleaseState :=
  if s.release[z].manual then dischargeOutcome s z
  else if zoneDoorOpen s z = true ∧ s.store.zones[z].doorHoldMax ≠ 0 then .doorHold
  else occupancyOutcome s z

/-- The bank that a discharge fires (R35). -/
def dischargeBank (s : State) (z : Zone) : Bank :=
  if bankFlagged s z .main = true ∧ bankAvailable s z .reserve = true then .reserve else .main

/-- A bank of the zone is being fired since `s`: its bank-used flag, its check with the mark clear, the aborted run, the
closed gate (R36, R177, R179, R38). -/
structure Fired (s t : State) (z : Zone) (b : Bank) : Prop where
  firing : t.release[z].firing = some ⟨b, s.store.zones[z].firingTime⟩
  used : bankUsed t z b = true
  check : t.line.checks[bankRelease z b] = some false
  run : t.line.run.state ≠ .running
  gate : t.gateClosed = true

/-- Where the zone stands after an event that decided `st` for it: the timers and the firing of that state (R21, R26, R30,
R31, R35). -/
structure Arrived (s t : State) (z : Zone) (st : ReleaseState) : Prop where
  state : t.release[z].state = st
  doorHold : t.release[z].doorHold = if st = .doorHold then some s.store.zones[z].doorHoldMax else none
  occupancyHold :
    t.release[z].occupancyHold = if st = .occupiedHold then some s.store.zones[z].occupancyHoldMax else none
  discharge : st = .discharge → Fired s t z (dischargeBank s z) ∧ t.alarm.pending[Source.discharge z] = true
  others : ∀ y : Zone, y ≠ z → t.release[y] = s.release[y]

/-- A motion of the door is queued or in progress. -/
def Coming (t : State) (n : DoorNo) (motion : Motion) : Prop :=
  t.queue[n].map BoltRequest.motion = some motion ∨ boltMotor t n = some motion

/-- A request was served at the SECURED door, which then holds `passes`: a strike is dropped and the unlock window runs, a
thrown bolt has its WITHDRAW queued or in motion (R70). -/
def LetGo (s t : State) (n : DoorNo) (passes : List Pass) : Prop :=
  (s.store.doors[n].lock = .strike →
    t.doors[n] =
      { s.doors[n] with
        state := .released
        mark := some .ordinary
        window := some s.store.doors[n].unlockWindow
        passes := passes }) ∧
  (s.store.doors[n].lock = .motorBolt → boltThrown s n = true →
    t.doors[n] = { s.doors[n] with state := .releasing, mark := some .ordinary, passes := passes } ∧
    Coming t n .withdraw)

/-- The closed door was relocked: a strike is secured, and so is a thrown bolt with no WITHDRAW to come; else a THROW is to
come, which completes at once where it starts on a thrown bolt (R74, R80, R85). -/
def Relocked (s t : State) (n : DoorNo) : Prop :=
  let secured := t.doors[n].state = .secured ∧ t.doors[n].mark = none
  (s.store.doors[n].lock = .strike → secured) ∧
  (s.store.doors[n].lock = .motorBolt → boltThrown s n = true → noWithdraw s n = true → secured) ∧
  (s.store.doors[n].lock = .motorBolt → boltThrown s n = true → noWithdraw s n = false → contactOpen t n = false →
    (secured ∧ boltMotor s n ≠ some .withdraw) ∨
    (t.doors[n].state = .securing ∧ t.queue[n].map BoltRequest.motion = some .throw)) ∧
  (s.store.doors[n].lock = .motorBolt → boltThrown s n = false →
    t.doors[n].state = .securing ∧ t.doors[n].mark = s.doors[n].mark ∧ Coming t n .throw)

/-- Circuit `x` is passed over at its turn: it is flagged, or its annunciator output is on (R173). -/
def SkippedAtTurn (s : State) (x : CircuitNo) : Prop :=
  s.line.flags[x].shortFlag = true ∨ s.line.flags[x].openFlag = true ∨
  ∃ o : OutputNo, x.val = 8 + o.val ∧ s.outputs[o].on = true

/-- What a circuit passed over reads (R173). -/
def skippedResult (s : State) (x : CircuitNo) : CircuitResult :=
  if s.line.flags[x].shortFlag = true ∨ s.line.flags[x].openFlag = true then .skippedFlagged else .skippedOn

/-- `t` is `s` after the turn has passed to the first waiting circuit that is not passed over, whose SHORT check starts, or,
where there is none, after the end of the run (R173, R175). -/
def TurnPassed (s t : State) : Prop :=
  let waits := fun (x : CircuitNo) => s.line.run.results[x] = .waiting
  (∀ c : CircuitNo, waits c → ¬ SkippedAtTurn s c → (∀ x : CircuitNo, x < c → waits x → SkippedAtTurn s x) →
    t = s.modRun fun run => { run with
      results := Vector.ofFn fun x =>
        if x < c ∧ run.results[x] = .waiting then skippedResult s x
        else if x = c then .testingShort else run.results[x] }) ∧
  ((∀ x : CircuitNo, waits x → SkippedAtTurn s x) →
    t = write .lineResult 0 0 .lineDone (s.modRun fun run => { run with
      state := .done
      results := Vector.ofFn fun x => if run.results[x] = .waiting then skippedResult s x else run.results[x] }))

/-- A loss of a step: C × c ÷ 65536, rounded up (R53). -/
def stepLoss (level constant : Nat) : Nat := (level * constant + 65535) / 65536

/-- The estimate after a step's base loss and, with the flag set, its door loss (R53). -/
def steppedLevel (e : Estimate) (base door : Nat) : Nat :=
  if e.doorOpened then (e.level - stepLoss e.level base) - stepLoss (e.level - stepLoss e.level base) door
  else e.level - stepLoss e.level base

/-- A presentation that passes checks 1 to 14 without a duress PIN or a passback warning (R112 to R117). -/
structure PassesChecks (s : State) (r : ReaderNo) (c : Credential) (digits : List Nat) : Prop where
  lockout : s.readers[r].lockout = none
  record : lookup s c.number = some c
  nine : recordRefusal s r c = none
  pin : pinCheck s r c.pin digits = .ok
  door : doorRefusal s r c = none
  passback : softPassback s r c = false
  room : ∀ z, entryZone s r = some z → roomRefusal s s.store.readers[r].door z c = none

/-! ## Invariants -/

/-- An interval of a schedule as R101 lets one be. -/
abbrev IntervalInRange (i : Interval) : Prop := i.days ≠ 0 ∧ i.start < i.stop ∧ i.stop ≤ 1440

/-- A credential record as R93 lets one be. -/
abbrev CredentialInRange (c : Credential) : Prop :=
  (1 ≤ c.number ∧ c.number ≤ 4294967295) ∧ (1 ≤ c.holder ∧ c.holder ≤ 65535) ∧
  (c.pin = [] ∨ c.pin.length = 4 ∨ c.pin.length = 5 ∨ c.pin.length = 6) ∧ (∀ d ∈ c.pin, d ≤ 9) ∧
  c.validFrom ≤ 65535 ∧ c.validUntil ≤ 65535 ∧ (c.validFrom ≠ 0 → c.validUntil ≠ 0 → c.validFrom ≤ c.validUntil)

/-- The clock reads a time of day, and every stored setting lies in the range its message gives it (R2, R9, R19, R48, R66,
R93, R94, R98, R101, R102, R110, R136, R140, R157, R158, R197). -/
def SettingsInRange (s : State) : Prop :=
  s.clock.second ≤ 86399 ∧ s.clock.day ≤ 65535 ∧
  s.store.credentials.Pairwise (fun a b => a.number < b.number) ∧ s.store.credentials.length ≤ 4096 ∧
  (∀ c ∈ s.store.credentials, CredentialInRange c) ∧
  s.store.holidays.Pairwise (· < ·) ∧ s.store.holidays.length ≤ 32 ∧
  (∀ d ∈ s.store.holidays, 1 ≤ d ∧ d ≤ 65535) ∧
  (∀ k : ScheduleNo, s.store.schedules[k].length ≤ 6 ∧ ∀ i ∈ s.store.schedules[k], IntervalInRange i) ∧
  (∀ i : InputNo, s.store.inputs[i].debounce ≤ 63 ∧ s.store.inputs[i].validation ≤ 63) ∧
  (∀ c : ChannelNo, s.store.detectors[c].threshold ≤ 4095 ∧
    s.store.detectors[c].hysteresis ≤ s.store.detectors[c].threshold) ∧
  (∀ z : Zone,
    let v := s.store.zones[z]
    (10 ≤ v.countdown ∧ v.countdown ≤ 60) ∧ v.manualDelay ≤ 30 ∧ v.doorHoldMax ≤ 120 ∧
    (30 ≤ v.occupancyHoldMax ∧ v.occupancyHoldMax ≤ 600) ∧ (1 ≤ v.firingTime ∧ v.firingTime ≤ 10) ∧
    v.soakConstant ≤ 65535 ∧ v.ventConstant ≤ 65535 ∧ v.doorConstant ≤ 65535 ∧
    (1000 ≤ v.holdThreshold ∧ v.holdThreshold ≤ 10000) ∧ v.reentryThreshold < v.holdThreshold ∧
    (6 ≤ v.minimumSoak ∧ v.minimumSoak ≤ 360) ∧ v.reserveFraction ≤ 10000 ∧
    (5 ≤ v.custodyWindow ∧ v.custodyWindow ≤ 60) ∧ (1 ≤ v.loneTime ∧ v.loneTime ≤ 120)) ∧
  (∀ n : DoorNo,
    let v := s.store.doors[n]
    (1 ≤ v.unlockWindow ∧ v.unlockWindow ≤ 30) ∧ (5 ≤ v.heldTime ∧ v.heldTime ≤ 600) ∧
    (2 ≤ v.boltTime ∧ v.boltTime ≤ 20) ∧ v.group ≤ 4 ∧ (v.inside = v.outside → v.inside = none) ∧
    (v.lock = .motorBolt → v.fail = .secure)) ∧
  (1 ≤ s.store.slots ∧ s.store.slots ≤ 3) ∧
  (∀ o : OutputNo, s.store.outputs[o].sources.length ≤ 16 ∧ s.store.outputs[o].sources.Nodup) ∧
  (∀ src : Source, s.store.sources[src].priority ≤ 7) ∧ s.store.threshold ≤ 7 ∧
  s.store.receiveTimeout ≤ 255 ∧ s.store.testInterval ≤ 240

/-- Every estimate is 0 to 10000 and every step count 0 to 65535 (R49). -/
def EstimateBounded (s : State) : Prop := ∀ z : Zone, s.estimate[z].level ≤ 10000 ∧ s.estimate[z].steps ≤ 65535

/-- The ring holds the newest records, each sequence once and rising by one (R182, R183). -/
def JournalContiguous (s : State) : Prop :=
  s.journal.newest ≤ 4294967295 ∧ s.journal.boundary ≤ s.journal.newest ∧
  s.journal.ring.length = min s.journal.newest 1024 ∧
  ∀ k (h : k < s.journal.ring.length),
    (s.journal.ring[k]).sequence = s.journal.newest - s.journal.ring.length + k + 1

/-- Every priority is 0 to 7, and the in-service list holds sources of strictly rising priority above 0 (R152). -/
def InServiceRising (s : State) : Prop :=
  (∀ src : Source, priority s src ≤ 7) ∧ (∀ src ∈ s.alarm.inService, 0 < priority s src) ∧
  s.alarm.inService.Pairwise fun a b => priority s a < priority s b

/-- A LEVEL source in service is not pending; any other is pending exactly while its recorded condition is true
(R150). -/
def PendingFollows (s : State) : Prop :=
  ∀ src : Source, Source.kind src = .level →
    s.alarm.pending[src] = (s.alarm.condition[src] && !s.alarm.inService.contains src)

/-- A credential number stands at most once across all occupancy lists, and no list holds more than 32 (R122). -/
def OccupancySound (s : State) : Prop :=
  (∀ z : Zone, s.occupancy[z].list.Nodup ∧ s.occupancy[z].list.length ≤ 32) ∧
  ∀ (y z : Zone) (cred : Nat), cred ∈ s.occupancy[y].list → cred ∈ s.occupancy[z].list → y = z

/-- No more motions are in progress than the drive has slots (R84). -/
def MotionsWithinSlots (s : State) : Prop := motionsInProgress s ≤ s.store.slots

/-- Counts of a channel are in range, its latch is set exactly at arming count 2, and a channel in zone 0 is at rest
(R10 to R12). -/
def ChannelsSound (s : State) : Prop :=
  ∀ c : ChannelNo,
    s.channels[c].arming ≤ 2 ∧ s.channels[c].outRun ≤ 3 ∧ s.channels[c].inRun ≤ 3 ∧
    (s.channels[c].latch = true ↔ s.channels[c].arming = 2) ∧
    (s.store.detectors[c].zone = none →
      s.channels[c].arming = 0 ∧ s.channels[c].outRun = 0 ∧ s.channels[c].inRun = 0 ∧ s.channels[c].fault = .clear)

/-- A secured door carries no release mark, and of two doors in one interlock group at most one carries an ORDINARY mark
(R69, R72). -/
def MarksSound (s : State) : Prop :=
  (∀ n : DoorNo, s.doors[n].state = .secured → s.doors[n].mark = none) ∧
  ∀ m n : DoorNo, m ≠ n → s.store.doors[m].group = s.store.doors[n].group → s.store.doors[m].group ≠ 0 →
    s.doors[m].mark = some .ordinary → s.doors[n].mark ≠ some .ordinary

/-- An annunciator output is on exactly while it is called for and not silenced (R141). -/
def OutputsFollow (s : State) : Prop := ∀ o : OutputNo, s.outputs[o].on = outputOn s o

/-- A run makes one check at a time: while it checks the supply every circuit of it waits, and then at most one circuit is
tested (R169, R173). -/
def OneCheck (s : State) : Prop :=
  (s.line.run.state = .running → s.line.run.supply = .testing →
    ∀ c : CircuitNo, s.line.run.results[c] = .waiting ∨ s.line.run.results[c] = .notInRun) ∧
  ∀ c d : CircuitNo, checking s c = true → checking s d = true → c = d

/-- Each door's egress override is in step with the release state of its inside zone, and the stored records hold only
states that are stored, none of them an egress state but DISCHARGE, which is restored as SOAK (R25, R46, R47). -/
def EgressFollows (s : State) : Prop :=
  (∀ n : DoorNo, s.doors[n].egress = (s.store.doors[n].inside).any fun z => ReleaseState.isEgress s.release[z].state) ∧
  ∀ z : Zone, ReleaseState.isStored s.store.records[z].state = true

/-- A door under egress override holds no ENTRY pass: none is taken toward a zone between the start of its release and
the discharge (R25, R71). -/
def NoEntryUnderEgress (s : State) : Prop :=
  ∀ n : DoorNo, s.doors[n].egress = true → ∀ p ∈ s.doors[n].passes, p.dir = .exit

end Sys2Proof.Machine
end

