-- ==== Sys2Proof/Certificates/Slice0/Obligations.lean ====
section
/-! DEFINITION. The statements for the provers. A statement's state comes first in its binders. What a command does to
the sources, the journal and the outputs is said by `write`, `edgeEvent` and `setCondition`, the operations of
Machine/Alarm.lean whose own effects `RecordsAndSourcesAct` states; what it leaves as it was by `Frame` of Safety.lean. -/

open Sys2Proof Sys2Proof.Machine

/-! ## The machine -/

/-- A step runs the command at the front of the queue on the state with the queue's rest. -/
def Obligations.StepRunsFrontCommand : Prop :=
  ∀ (s : State) (c : Instr), step { s with pending := c :: s.pending } = exec c s

/-- No command stops the block, and none touches the queue of waiting commands. On an empty queue the block idles (that
is the model's choice, notes/assumptions/2.md). -/
def Obligations.EveryCommandCompletes : Prop :=
  (∀ (s : State) (c : Instr), ∃ t, exec c s = .next t ∧ t.pending = s.pending) ∧
  ∀ (s : State), s.pending = [] → step s = .next s

/-- State.reset is what the first POWER_ON of a part with an erased store leaves, address straps reading 1 and every
input LOW (which straps and levels is the model's choice, notes/assumptions/1.md). Every invariant below holds at
State.reset. -/
def Obligations.ResetIsASoundFirstPowerOn : Prop :=
  (exec (.powerOn 1 0) { State.reset with store := Store.erased, journal := Journal.erased } = .next State.reset) ∧
  (EstimateBounded State.reset ∧ JournalContiguous State.reset ∧ InServiceRising State.reset ∧
  PendingFollows State.reset ∧ OccupancySound State.reset ∧ MotionsWithinSlots State.reset ∧
  ChannelsSound State.reset ∧ MarksSound State.reset ∧ OutputsFollow State.reset ∧
  OneCheck State.reset ∧ NoEntryUnderEgress State.reset ∧ EgressFollows State.reset ∧ GateFollows State.reset ∧
  SettingsInRange State.reset)

/-! ## POWER_ON and RESTART -/

/-- What a POWER_ON leaves of every block whatever the inputs show: the stored settings loaded, or every default from an
erased store, and the volatile state afresh. That the store counts as written from then on, and what IDENTIFY then says
of having found it stored, is the model's choice (notes/assumptions/11.md). -/
def Obligations.PowerOnStartsAfresh : Prop :=
  ∀ (s : State) (straps : BitVec 5) (levels : BitVec 48),
    ∃ t, exec (.powerOn straps levels) s = .next t ∧
      SameSettings { (if s.store.written then s.store else Store.erased) with written := true } t.store ∧
      t.clock = ⟨false, 0, 0⟩ ∧ (∀ z : Zone, t.period[z] = derivedPeriod t z) ∧
      t.channels = Vector.replicate 16 ⟨0, 0, false, 0, 0, .clear, 0⟩ ∧
      t.detection = Vector.replicate 4 .quiet ∧
      t.occupancy = Vector.replicate 4 ⟨[], false⟩ ∧
      t.custody = Vector.replicate 8 none ∧
      t.readers = Vector.replicate 8 ⟨0, none⟩ ∧
      t.loneTimer = Vector.replicate 4 none ∧ t.loneOutrun = Vector.replicate 4 false ∧
      t.alarm.inService = [] ∧ t.alarm.suppressed = false ∧
      t.line.flags = Vector.replicate 16 ⟨false, false⟩ ∧ t.line.supply = false ∧
      t.line.periodic = (if t.store.testInterval = 0 then none else some (60 * t.store.testInterval)) ∧
      t.link.node = straps ∧ t.link.framer = .waiting ∧ t.link.timing = false ∧ t.link.slot = none ∧
      t.link.reply = none ∧ t.link.uptime = 0 ∧ t.link.foundStored = s.store.written ∧
      ∀ n : DoorNo, t.doors[n].free = false

/-- A POWER_ON of a part that finds its store, no input at its active level: every zone is restored from its record
(DISCHARGE as SOAK), every door settles as closed with its bolt, if it has one, withdrawn, and the journal runs on with
the POWER_ON record and one ZONE_STATE record per zone. That these follow the POWER_ON record in the order of the zones
is the model's choice (notes/assumptions/13.md), and so is that bit i of the wired levels is input i
(notes/assumptions/1.md). -/
def Obligations.PowerOnRestoresZonesAndDoors : Prop :=
  ∀ (s : State) (straps : BitVec 5) (levels : BitVec 48), s.store.written = true →
    (∀ i : InputNo, (if levels.getLsbD i.val then Level.high else .low) ≠ s.store.inputs[i].active) →
    s.journal.newest + 5 ≤ 4294967295 →
    ∃ t, exec (.powerOn straps levels) s = .next t ∧
      (∀ z : Zone,
        let st := if s.store.records[z].state = .discharge then .soak else s.store.records[z].state
        t.release[z] = ⟨st, 0, false, false, none, none, none⟩ ∧
        t.store.records[z] = { s.store.records[z] with state := st } ∧
        t.estimate[z] =
          (if st = .soak ∨ st = .soakDone ∨ st = .vent then ⟨10000, 0, false, false, some 10⟩
           else ⟨0, 0, false, false, none⟩) ∧
        ⟨s.journal.newest + z.val + 2, 0, 0, .zoneState, z.val + 1, 0, .state st⟩ ∈ t.journal.ring) ∧
      ⟨s.journal.newest + 1, 0, 0, .powerOn, 0, 0, .stored⟩ ∈ t.journal.ring ∧
      t.journal.newest = s.journal.newest + 5 ∧ t.journal.boundary = s.journal.boundary ∧
      ∀ n : DoorNo,
        t.doors[n].state = (if s.store.doors[n].lock = .motorBolt then .securing else .secured) ∧
        t.doors[n].mark = none ∧ t.doors[n].passes = [] ∧ t.doors[n].egress = false

/-- RESTART: the framer waits, the in-service list is empty, attention suppression and every silence are clear, every
custody window is closed, every bad-PIN count 0 and every lockout off; a LEVEL source is pending as its condition says,
an EDGE source as it was; settings, field state, zones, doors, occupancy, the clock and the line supervisor's flags run
on. -/
def Obligations.RestartClearsHousekeeping : Prop :=
  ∀ (s : State), PendingFollows s →
    ∃ t, exec .restart s = .next t ∧
      t.link = { Link.heard s.link with framer := .waiting, timing := false, reply := some ⟨0x03, .ok, .empty⟩ } ∧
      t.alarm.inService = [] ∧ t.alarm.suppressed = false ∧
      (∀ src : Source, src ≠ Source.backlog →
        t.alarm.condition[src] = s.alarm.condition[src] ∧
        t.alarm.pending[src] =
          (if Source.kind src = .level then s.alarm.condition[src] else s.alarm.pending[src])) ∧
      (∀ o : OutputNo, t.outputs[o].silenced = false) ∧
      t.custody = Vector.replicate 8 none ∧ t.readers = Vector.replicate 8 ⟨0, none⟩ ∧
      t.store = s.store ∧ t.inputs = s.inputs ∧ t.channels = s.channels ∧ t.detection = s.detection ∧
      t.release = s.release ∧ t.estimate = s.estimate ∧ t.doors = s.doors ∧ t.queue = s.queue ∧
      t.motions = s.motions ∧ t.gateClosed = s.gateClosed ∧ t.clock = s.clock ∧ t.period = s.period ∧
      t.occupancy = s.occupancy ∧ t.loneTimer = s.loneTimer ∧ t.loneOutrun = s.loneOutrun ∧ t.line.flags = s.line.flags ∧
      t.line.supply = s.line.supply ∧ t.line.periodic = s.line.periodic ∧ t.line.checks = s.line.checks

/-! ## Chapter 1: inputs and detectors -/

/-- A raw level change moves its input's phase as R3 to R5 say, an activation or a release at once where a setting is 0,
and touches no other input. The debounce expiry ends an attempt whose raw level is inactive, sends it to VALIDATE, or
with no validation to ACTIVE, where it is active, and completes a release; the validation expiry activates. Neither
touches another input. INPUT_CLEAR releases each selected LATCHED input whose raw level is inactive, leaves every other
as it is, and answers which selected ones are still LATCHED; an empty selection is refused, and one that names an input
above 47 (the model's choice, notes/assumptions/14.md). -/
def Obligations.InputsAreConditionedAndCleared : Prop :=
  (∀ (s : State) (i : InputNo) (level : Level), s.inputs[i].raw ≠ level →
    let p := phaseAfterRaw (inputMode s i) (decide (s.store.inputs[i].debounce = 0))
      (decide (s.store.inputs[i].validation = 0)) (decide (level = s.store.inputs[i].active)) s.inputs[i].phase
    ∃ t, exec (.rawLevelChange i level) s = .next t ∧ Frame inputParts inputSources s t ∧
      t.inputs = upd s.inputs i fun v => ⟨level, p, v.first || Phase.atRest p⟩) ∧
  (∀ (s : State) (i : InputNo),
    (s.inputs[i].phase = .debounceOn →
      let p :=
        if s.inputs[i].raw ≠ s.store.inputs[i].active then .idle
        else if s.store.inputs[i].validation = 0 then settledPhase (inputMode s i) else .validate
      ∃ t, exec (.debounceExpiry i) s = .next t ∧ Frame inputParts inputSources s t ∧
        t.inputs = upd s.inputs i fun v => ⟨v.raw, p, v.first || Phase.atRest p⟩) ∧
    (s.inputs[i].phase = .debounceOff →
      ∃ t, exec (.debounceExpiry i) s = .next t ∧ Frame inputParts inputSources s t ∧
        t.inputs = upd s.inputs i fun v => ⟨v.raw, .idle, true⟩) ∧
    (s.inputs[i].phase = .validate →
      ∃ t, exec (.validationExpiry i) s = .next t ∧ Frame inputParts inputSources s t ∧
        t.inputs = upd s.inputs i fun v => ⟨v.raw, settledPhase (inputMode s i), true⟩)) ∧
  (∀ (s : State) (selection : Nat),
    (selection ≠ 0 ∧ selection < 2 ^ 48 →
      ∃ t, exec (.inputClear selection) s = .next t ∧ Frame (.link :: inputParts) inputSources s t ∧
        (∀ i : InputNo, t.inputs[i] =
          if selection.testBit i.val = true ∧ s.inputs[i].phase = .latched ∧
              s.inputs[i].raw ≠ s.store.inputs[i].active
          then { s.inputs[i] with phase := .idle } else s.inputs[i]) ∧
        Replied 0x50 .ok (.latched (allInputs.filter fun i =>
          decide (selection.testBit i.val = true ∧ t.inputs[i].phase = .latched))) s t) ∧
    (GateFollows s → selection = 0 ∨ 2 ^ 48 ≤ selection →
      exec (.inputClear selection) s = .next (reply 0x50 .param .empty s)))

/-- A staff activation: an AUDIBLE or SILENT channel gives its STAFF event and one record; a CHECK_IN channel writes its
record and restarts the running lone timer of its zone, and an expiry that meets it and is taken after it does nothing
(that one which comes with no second passed is that expiry is the model's choice, notes/assumptions/29.md). -/
def Obligations.StaffActivationRaisesOrChecksIn : Prop :=
  ∀ (s : State) (n : StaffNo), GateFollows s → s.inputs[staffInput n].phase = .validate →
    let first := fun (t : State) => t.modInput (staffInput n) fun v => { v with first := true }
    (s.store.staff[n].kind ≠ .checkIn →
      exec (.validationExpiry (staffInput n)) s =
        .next (first (write .staff n.val 0 (.staff s.store.staff[n].kind) (edgeEvent (Source.staff n)
          (s.modInput (staffInput n) fun v => { v with phase := .latched }))))) ∧
    (s.store.staff[n].kind = .checkIn →
      let t := write .staff n.val 0 (.staff .checkIn) (s.modInput (staffInput n) fun v => { v with phase := .on })
      (∀ z, s.store.staff[n].zone = some z → s.loneTimer[z].isSome = true →
        let u := first ((t.setLone z (some (60 * s.store.zones[z].loneTime))).setOutrun z true)
        exec (.validationExpiry (staffInput n)) s = .next u ∧
        exec (.loneTimerExpiry z) u = .next (u.setOutrun z false)) ∧
      ((∀ z, s.store.staff[n].zone = some z → s.loneTimer[z] = none) →
        exec (.validationExpiry (staffInput n)) s = .next (first t)))

/-- A sample works its channel's counts, fault flag, peak, arming count and latch as R10 to R12 say, gives the
DETECTOR_FAULT condition, and touches no other channel. -/
def Obligations.SampleWorksItsChannel : Prop :=
  ∀ (s : State) (c : ChannelNo) (value : BitVec 12),
    let x := value.toNat
    ∃ t, exec (.detectorSample c value) s = .next t ∧ Frame (.channels :: detectionParts) detectionSources s t ∧
      (t.channels = upd s.channels c fun ch =>
        if s.store.detectors[c].zone = none then
          { ch with last := x, peak := if 200 ≤ x ∧ x ≤ 3900 then max ch.peak x else ch.peak }
        else if x < 200 ∨ 3900 < x then
          { ch with
            last := x
            inRun := 0
            outRun := min 3 (ch.outRun + 1)
            fault :=
              if min 3 (ch.outRun + 1) = 3 ∨ ch.fault ≠ .clear then (if x < 200 then .openWire else .shortWire)
              else .clear }
        else
          let a :=
            if ch.latch then ch.arming
            else if s.store.detectors[c].threshold ≤ x then min 2 (ch.arming + 1)
            else if x < s.store.detectors[c].threshold - s.store.detectors[c].hysteresis then 0
            else ch.arming
          { last := x
            arming := a
            latch := ch.latch || decide (a = 2)
            outRun := 0
            inRun := min 3 (ch.inRun + 1)
            fault := if min 3 (ch.inRun + 1) = 3 then .clear else ch.fault
            peak := max ch.peak x }) ∧
      t.alarm.condition[Source.detectorFault c] = decide (t.channels[c].fault ≠ .clear)

/-- A sample that changes its channel's latch or fault flag re-derives the detection of the channel's zone; a rise is
held, moves the zone as the table of R23 says, and gives the FIRE and FIRST_KNOCK conditions. Any other sample leaves
every zone as it was. -/
def Obligations.SampleRaisesItsZone : Prop :=
  ∀ (s : State) (c : ChannelNo) (value : BitVec 12) (z : Zone), s.store.detectors[c].zone = some z →
    SettingsInRange s →
    ∃ t, exec (.detectorSample c value) s = .next t ∧
      let d := derivedDetection { s with channels := t.channels } z
      let changed := t.channels[c].latch ≠ s.channels[c].latch ∨ t.channels[c].fault ≠ s.channels[c].fault
      let counting := if abortHeld s z then ReleaseState.abortHeld else .countdown
      let rises := changed ∧ Detection.rank s.detection[z] < Detection.rank d
      (rises →
        t.detection[z] = d ∧
        t.alarm.condition[Source.fire z] = decide (d = .confirmed) ∧
        t.alarm.condition[Source.firstKnock z] = decide (d = .firstKnock) ∧
        t.release[z].state =
          (match s.release[z].state, d with
           | .normal, .firstKnock => .alerted
           | .normal, .confirmed => counting
           | .alerted, .confirmed => counting
           | st, _ => st) ∧
        (d = .confirmed → s.release[z].state = .normal ∨ s.release[z].state = .alerted →
          t.release[z].remaining = s.store.zones[z].countdown)) ∧
      (¬ rises → t.detection = s.detection ∧ t.release = s.release)

/-- A loop is failed exactly when no channel of it is latched and every one has its fault flag set. So a loop without
channels is failed, one with a latched channel is not, and a failed one stops being so as one of its channels has its
flag cleared or latches. The derived detection is the table of R15; a zone with no channels is QUIET, and one whose
channels are all on loop A is confirmed by a latched one with single-knock on and never with it off. Single-knock is off
on an erased store. -/
def Obligations.DetectionIsDerivedFromLatches : Prop :=
  (∀ (s : State) (z : Zone) (l : Loop),
    let inLoop := fun c : ChannelNo => s.store.detectors[c].zone = some z ∧ s.store.detectors[c].loop = l
    (loopFailed s z l = true ↔
      (∀ c, inLoop c → s.channels[c].latch = false) ∧ ∀ c, inLoop c → s.channels[c].fault ≠ .clear) ∧
    ((∀ c, ¬ inLoop c) → loopFailed s z l = true) ∧
    (∀ c, inLoop c → s.channels[c].latch = true → loopFailed s z l = false) ∧
    ∀ (c : ChannelNo) (ch : Channel), inLoop c → ch.fault = .clear ∨ ch.latch = true →
      loopFailed (s.modChannel c fun _ => ch) z l = false) ∧
  (∀ (s : State) (z : Zone),
    let latched := fun l : Loop => ∃ c : ChannelNo,
      s.store.detectors[c].zone = some z ∧ s.store.detectors[c].loop = l ∧ s.channels[c].latch = true
    let single := s.store.zones[z].singleKnock = true ∧
      ((loopFailed s z .a = true ∧ latched .b) ∨ (loopFailed s z .b = true ∧ latched .a))
    (derivedDetection s z = .confirmed ↔ (latched .a ∧ latched .b) ∨ single) ∧
    (derivedDetection s z = .firstKnock ↔ (latched .a ∨ latched .b) ∧ ¬ ((latched .a ∧ latched .b) ∨ single)) ∧
    (derivedDetection s z = .quiet ↔ ¬ latched .a ∧ ¬ latched .b) ∧
    ((∀ c : ChannelNo, s.store.detectors[c].zone ≠ some z) → derivedDetection s z = .quiet) ∧
    ((∀ c : ChannelNo, s.store.detectors[c].zone = some z → s.store.detectors[c].loop = .a) →
      (derivedDetection s z = .confirmed ↔ s.store.zones[z].singleKnock = true ∧ latched .a)) ∧
    Store.erased.zones[z].singleKnock = false)

/-- A channel's counts stay in range, its latch is set exactly at arming count 2, and a channel in zone 0 is at rest. -/
def Obligations.StepKeepsChannelsSound : Prop :=
  ∀ (s : State), ChannelsSound s → ∃ t, step s = .next t ∧ ChannelsSound t

/-! ## Chapters 2 and 3: release and estimate -/

/-- A command other than POWER_ON, in whose event at most 1024 records are written and no write meets the last sequence,
leaves for every zone whose release state it changed a ZONE_STATE record of that event, with the zone as subject and the
zone's state after the event as detail, marked for a forced VENT. -/
def Obligations.ReleaseStateChangesAreJournalled : Prop :=
  ∀ (s : State) (c : Instr), (∀ straps levels, c ≠ .powerOn straps levels) →
    ∃ t, exec c s = .next t ∧
      (t.journal.newest < 4294967295 → t.journal.newest ≤ s.journal.newest + 1024 →
        ∀ z : Zone, t.release[z].state ≠ s.release[z].state →
          ∃ r ∈ t.journal.ring, s.journal.newest < r.sequence ∧ r.kind = .zoneState ∧ r.subject = z.val + 1 ∧
            r.cred = 0 ∧
            (r.detail = .state t.release[z].state ∨ (t.release[z].state = .vent ∧ r.detail = .ventForced)))

/-- The one-second interval of a countdown: remaining falls by one, and at 0 the countdown ends as R29 decides; outside
COUNTDOWN the expiry does nothing (notes/assumptions/17.md). The door hold expiry sends the zone to the occupancy check;
the occupancy hold expiry sends it on under AUTO, and under MANUAL_ONLY leaves it held without a timer; outside their
states both do nothing. -/
def Obligations.CountdownsAndHoldsEnd : Prop :=
  (∀ (s : State) (z : Zone),
    (GateFollows s → s.release[z].state = .countdown → s.release[z].interval = true → 1 < s.release[z].remaining →
      exec (.countdownIntervalExpiry z) s =
        .next (s.modRelease z fun r => { r with remaining := r.remaining - 1 })) ∧
    (s.release[z].state = .countdown → s.release[z].interval = true → s.release[z].remaining ≤ 1 →
      ∃ t, exec (.countdownIntervalExpiry z) s = .next t ∧ Frame (.gate :: zoneParts) zoneSources s t ∧
        Arrived s t z (countdownOutcome s z)  ∧ t.release[z].remaining = 0 ∧
        t.release[z].manual = s.release[z].manual) ∧
    (GateFollows s → s.release[z].state ≠ .countdown → exec (.countdownIntervalExpiry z) s = .next s)) ∧
  (∀ (s : State) (z : Zone),
    (s.release[z].state = .doorHold → s.release[z].doorHold.isSome = true →
      ∃ t, exec (.doorHoldExpiry z) s = .next t ∧ Frame (.gate :: zoneParts) zoneSources s t ∧
        Arrived s t z (occupancyOutcome s z)) ∧
    (GateFollows s → s.release[z].state ≠ .doorHold → exec (.doorHoldExpiry z) s = .next s) ∧
    (s.release[z].state = .occupiedHold → s.release[z].occupancyHold.isSome = true →
      (s.store.zones[z].occupiedRelease = .auto →
        ∃ t, exec (.occupancyHoldExpiry z) s = .next t ∧ Frame (.gate :: zoneParts) zoneSources s t ∧
          Arrived s t z (dischargeOutcome s z)) ∧
      (GateFollows s → s.store.zones[z].occupiedRelease = .manualOnly →
        exec (.occupancyHoldExpiry z) s = .next (s.modRelease z fun r => { r with occupancyHold := none }))) ∧
    (GateFollows s → s.release[z].state ≠ .occupiedHold → exec (.occupancyHoldExpiry z) s = .next s))

/-- A manual station activation, by the state of its zone: the table of R24, whose last row writes one MANUAL_IGNORED
record, the zone its subject and the state its detail, and changes nothing else. An abort station: its activation holds
a countdown at its remaining time and the two holds at 0; its release in ABORT_HELD brings the countdown back with the
remaining time of R27; in every other state both change nothing. -/
def Obligations.StationsAct : Prop :=
  (∀ (s : State) (z : Zone), s.inputs[manualInput z].phase = .validate →
    let m := s.store.zones[z].manualDelay
    ∃ t, exec (.validationExpiry (manualInput z)) s = .next t ∧
      Frame ([.inputs, .gate] ++ zoneParts) zoneSources s t ∧
      (s.release[z].state = .normal ∨ s.release[z].state = .alerted → 0 < m →
        t.release[z].state = (if abortHeld s z then .abortHeld else .countdown) ∧ t.release[z].remaining = m ∧
        t.release[z].manual = true) ∧
      (s.release[z].state = .normal ∨ s.release[z].state = .alerted → m = 0 →
        Arrived s t z (dischargeOutcome s z) ∧ t.release[z].manual = true) ∧
      (s.release[z].state = .countdown → min s.release[z].remaining m = 0 →
        Arrived s t z (dischargeOutcome s z) ∧ t.release[z].manual = true) ∧
      (s.release[z].state = .countdown → 0 < min s.release[z].remaining m →
        t.release = upd s.release z fun r => { r with manual := true, remaining := min r.remaining m }) ∧
      (s.release[z].state = .abortHeld → t.release = upd s.release z fun r => { r with manual := true }) ∧
      (s.release[z].state = .doorHold ∨ s.release[z].state = .occupiedHold →
        Arrived s t z (dischargeOutcome s z) ∧ t.release[z].manual = true) ∧
      (s.release[z].state = .disabled ∨ ReleaseState.isFlooded s.release[z].state = true ∨
          s.release[z].state = .cleared → t.release = s.release ∧
        (GateFollows s →
          t = (write .manualIgnored (z.val + 1) 0 (.state s.release[z].state)
            (s.modInput (manualInput z) fun v => { v with phase := .on })).modInput (manualInput z)
              fun v => { v with first := true }))) ∧
  (∀ (s : State) (z : Zone),
    (s.inputs[abortInput z].phase = .validate →
      ∃ t, exec (.validationExpiry (abortInput z)) s = .next t ∧
        Frame ([.inputs, .gate] ++ zoneParts) zoneSources s t ∧
        (s.release[z].state = .countdown →
          Arrived s t z .abortHeld ∧ t.release[z].remaining = s.release[z].remaining) ∧
        (s.release[z].state = .doorHold ∨ s.release[z].state = .occupiedHold →
          Arrived s t z .abortHeld ∧ t.release[z].remaining = 0) ∧
        (s.release[z].state ≠ .countdown → s.release[z].state ≠ .doorHold → s.release[z].state ≠ .occupiedHold →
          t.release = s.release)) ∧
    (s.inputs[abortInput z].phase = .debounceOff → SettingsInRange s →
      let first :=
        match s.store.zones[z].abortMode with
        | .restart => s.store.zones[z].countdown
        | .resume => max s.release[z].remaining 10
      let remaining := if s.release[z].manual then min first s.store.zones[z].manualDelay else first
      ∃ t, exec (.debounceExpiry (abortInput z)) s = .next t ∧
        Frame ([.inputs, .gate] ++ zoneParts) zoneSources s t ∧
        (s.release[z].state = .abortHeld → t.release[z].remaining = remaining ∧
          t.release[z].state = (if remaining = 0 then .discharge else .countdown)) ∧
        (s.release[z].state ≠ .abortHeld → t.release = s.release)))

/-- A firing timer's expiry: no current sets the circuit's OPEN flag; a failed main firing in DISCHARGE fires an
available reserve; any other in DISCHARGE leads to SOAK with the estimate started; in SOAK and SOAK_DONE no state
changes. -/
def Obligations.FiringEnds : Prop :=
  ∀ (s : State) (z : Zone) (f : Firing), s.release[z].firing = some f →
    let seen := s.line.checks[bankRelease z f.bank] = some true
    let again :=
      s.release[z].state = .discharge ∧ f.bank = .main ∧ ¬ seen ∧ bankAvailable s z .reserve = true
    ∃ t, exec (.firingTimerExpiry z) s = .next t ∧ Frame (.gate :: zoneParts) zoneSources s t ∧
      (∀ y : Zone, y ≠ z → t.release[y] = s.release[y] ∧ t.estimate[y] = s.estimate[y]) ∧
      (seen → t.line.flags = s.line.flags) ∧
      (¬ seen → t.line.flags = upd s.line.flags (bankCircuit z f.bank) fun v => { v with openFlag := true }) ∧
      (again → t.release[z].state = .discharge ∧ Fired s t z .reserve) ∧
      (s.release[z].state = .discharge → ¬ again →
        t.release[z].state = .soak ∧ t.release[z].firing = none ∧ t.store.records[z].state = .soak ∧
        t.estimate[z] = ⟨10000, 0, zoneDoorOpen s z, false, some 10⟩) ∧
      (s.release[z].state ≠ .discharge →
        t.release[z] = { s.release[z] with firing := none } ∧ t.estimate = s.estimate)

/-- A step of the estimate: its losses, the count, the flag, then the hold check and the minimum soak in SOAK, the
re-entry check in VENT, and nothing further in SOAK_DONE. -/
def Obligations.EstimateSteps : Prop :=
  ∀ (s : State) (z : Zone), s.estimate[z].timer.isSome = true →
    let v := s.store.zones[z]
    let e := s.estimate[z]
    let level := steppedLevel e (if s.release[z].state = .vent then v.ventConstant else v.soakConstant) v.doorConstant
    let count := min 65535 (e.steps + 1)
    let low := level < v.holdThreshold ∧ count < v.minimumSoak
    let fires := low ∧ bankAvailable s z .reserve = true ∧ v.reserveAuto = true
    ∃ t, exec (.estimatorStep z) s = .next t ∧ Frame (.gate :: zoneParts) zoneSources s t ∧
      (s.release[z].state = .soak →
        t.estimate[z] =
          ⟨if fires then min 10000 (level + v.reserveFraction) else level, count, zoneDoorOpen s z,
            e.soakLoss || decide (low ∧ ¬ fires), some 10⟩ ∧
        (fires → Fired s t z .reserve) ∧ (¬ fires → t.release[z].firing = s.release[z].firing) ∧
        (low → ¬ fires → e.soakLoss = false → t.alarm.pending[Source.soakLoss z] = true) ∧
        t.release[z].state = (if count = v.minimumSoak then .soakDone else .soak)) ∧
      (s.release[z].state = .soakDone →
        t.estimate[z] = ⟨level, count, zoneDoorOpen s z, e.soakLoss, some 10⟩ ∧ t.release = s.release) ∧
      (s.release[z].state = .vent →
        (level ≤ v.reentryThreshold →
          t.estimate[z] = ⟨level, count, false, e.soakLoss, none⟩ ∧ t.release[z].state = .cleared) ∧
        (v.reentryThreshold < level →
          t.estimate[z] = ⟨level, count, zoneDoorOpen s z, e.soakLoss, some 10⟩ ∧ t.release = s.release)) ∧
      ∀ y : Zone, y ≠ z → t.estimate[y] = s.estimate[y] ∧ t.release[y] = s.release[y]

/-- ZONE_DISABLE is taken in NORMAL and ALERTED, ZONE_ENABLE in DISABLED with the zone's next state from its held
detection; in every other state each is refused with STATE, and for no zone of 1 to 4 with PARAM. -/
def Obligations.ZoneDisableAndEnable : Prop :=
  ∀ (s : State) (z : Zone), SettingsInRange s →
    (s.release[z].state = .normal ∨ s.release[z].state = .alerted →
      ∃ t, exec (.zoneDisable (z.val + 1)) s = .next t ∧ Frame (.link :: zoneParts) zoneSources s t ∧
        Arrived s t z .disabled ∧ t.store.records[z].state = .disabled ∧
        t.alarm.condition[Source.impaired z] = true ∧
        Replied 0x31 .ok .empty s t) ∧
    (s.release[z].state ≠ .normal → s.release[z].state ≠ .alerted →
      exec (.zoneDisable (z.val + 1)) s = .next (reply 0x31 .state .empty s)) ∧
    (s.release[z].state = .disabled →
      ∃ t, exec (.zoneEnable (z.val + 1)) s = .next t ∧ Frame (.link :: .gate :: zoneParts) zoneSources s t ∧
        Replied 0x32 .ok .empty s t ∧
        t.release[z].state =
          (match s.detection[z] with
           | .quiet => .normal
           | .firstKnock => .alerted
           | .confirmed => if abortHeld s z then .abortHeld else .countdown) ∧
        (s.detection[z] = .confirmed → t.release[z].remaining = s.store.zones[z].countdown)) ∧
    (GateFollows s → s.release[z].state ≠ .disabled →
      exec (.zoneEnable (z.val + 1)) s = .next (reply 0x32 .state .empty s)) ∧
    ∀ k : Nat, k = 0 ∨ 4 < k →
      exec (.zoneDisable k) s = .next (reply 0x31 .param .empty s) ∧
      (GateFollows s → exec (.zoneEnable k) s = .next (reply 0x32 .param .empty s))

/-- VENT is taken in SOAK_DONE, and forced in SOAK, while no bank of the zone is being fired; else it is refused with
STATE, and for no zone of 1 to 4 with PARAM. The step timer runs on. RESERVE_RELEASE is taken in SOAK and SOAK_DONE with
the reserve available and none of the zone's banks being fired: the reserve fires and its fraction joins the estimate,
up to 10000; else it is refused. ZONE_RESET is taken in ALERTED, ABORT_HELD and CLEARED: the zone goes to NORMAL with
its flags, remaining time, used banks, estimate, channel latches, held detection and fire conditions cleared; else it is
refused. -/
def Obligations.ZonesAreVentedAndReset : Prop :=
  (∀ (s : State) (z : Zone) (force : Bool),
    let takes := s.release[z].firing = none ∧
      (s.release[z].state = .soakDone ∨ (s.release[z].state = .soak ∧ force = true))
    (takes → ∃ t, exec (.vent (z.val + 1) force) s = .next t ∧ Frame (.link :: zoneParts) zoneSources s t ∧
      Arrived s t z .vent ∧ t.store.records[z].state = .vent ∧ t.estimate = s.estimate ∧ Replied 0x33 .ok .empty s t) ∧
    (¬ takes → exec (.vent (z.val + 1) force) s = .next (reply 0x33 .state .empty s)) ∧
    ∀ k : Nat, k = 0 ∨ 4 < k → exec (.vent k force) s = .next (reply 0x33 .param .empty s)) ∧
  (∀ (s : State) (z : Zone),
    let takes := (s.release[z].state = .soak ∨ s.release[z].state = .soakDone) ∧ s.release[z].firing = none ∧
      bankAvailable s z .reserve = true
    (takes → ∃ t, exec (.reserveRelease (z.val + 1)) s = .next t ∧
      Frame (.link :: .gate :: zoneParts) zoneSources s t ∧ Fired s t z .reserve ∧
      t.release[z].state = s.release[z].state ∧ (∀ y : Zone, y ≠ z → t.release[y] = s.release[y]) ∧
      t.estimate = (upd s.estimate z fun e =>
        { e with level := min 10000 (e.level + s.store.zones[z].reserveFraction) }) ∧
      Replied 0x34 .ok .empty s t) ∧
    (GateFollows s → ¬ takes → exec (.reserveRelease (z.val + 1)) s = .next (reply 0x34 .state .empty s)) ∧
    ∀ k : Nat, k = 0 ∨ 4 < k → GateFollows s →
      exec (.reserveRelease k) s = .next (reply 0x34 .param .empty s)) ∧
  (∀ (s : State) (z : Zone),
    let takes := s.release[z].state = .alerted ∨ s.release[z].state = .abortHeld ∨ s.release[z].state = .cleared
    (takes → ∃ t, exec (.zoneReset (z.val + 1)) s = .next t ∧
      Frame ([.link, .channels, .detection] ++ zoneParts) detectionSources s t ∧ Arrived s t z .normal ∧
      t.release[z].manual = false ∧ t.release[z].remaining = 0 ∧
      t.store.records[z] = ⟨.normal, false, false⟩ ∧
      t.estimate = (upd s.estimate z fun _ => ⟨0, 0, false, false, none⟩) ∧
      t.detection = (upd s.detection z fun _ => .quiet) ∧
      (∀ c : ChannelNo, t.channels[c] =
        if s.store.detectors[c].zone = some z then { s.channels[c] with latch := false, arming := 0 }
        else s.channels[c]) ∧
      t.alarm.condition[Source.fire z] = false ∧ t.alarm.condition[Source.firstKnock z] = false ∧
      Replied 0x35 .ok .empty s t) ∧
    (¬ takes → exec (.zoneReset (z.val + 1)) s = .next (reply 0x35 .state .empty s)) ∧
    ∀ k : Nat, k = 0 ∨ 4 < k → exec (.zoneReset k) s = .next (reply 0x35 .param .empty s))

/-- Every estimate stays within 0 to 10000 and every step count within 0 to 65535. -/
def Obligations.StepKeepsEstimateBounded : Prop :=
  ∀ (s : State), EstimateBounded s → ∃ t, step s = .next t ∧ EstimateBounded t

/-- The firing gate is closed exactly while some release circuit is energized. -/
def Obligations.StepKeepsGateFollows : Prop :=
  ∀ (s : State), GateFollows s → ∃ t, step s = .next t ∧ GateFollows t

/-! ## Chapter 4: doors -/

/-- The unlock window expires in RELEASED: every pass is dropped with its PASS_UNUSED record; a strike door is SECURED
in the same event, a motor-bolted one is SECURING with a THROW to come, or, where that throw finds its bolt thrown
already, SECURED. Outside RELEASED nothing happens (where the timer is stopped, the model's choice,
notes/assumptions/17.md). The held timer expires in OPEN: HELD, its condition and one record. Outside OPEN nothing
happens (notes/assumptions/17.md). The bolt time of a motion in progress runs out: BOLT_FAULT, the motion and the
request behind it gone, the passes dropped, the timers stopped, the HELD condition ended and the BOLT condition true;
the override flags and the mark keep their values. The expiry of a motion that is over does nothing (that the expiry
names its motion is the model's choice, notes/assumptions/30.md). -/
def Obligations.DoorTimersExpire : Prop :=
  (∀ (s : State) (n : DoorNo),
    (s.doors[n].window.isSome = true → s.doors[n].state = .released → s.store.doors[n].lock = .strike →
      exec (.unlockWindowExpiry n) s =
        .next ((forEach s.doors[n].passes (fun p => write .passUnused n.val p.cred (.direction p.dir))
          (s.modDoor n fun d => { d with state := .securing, window := none, passes := [] })).modDoor n
            fun d => { d with state := .secured, mark := none, window := none, heldTimer := none })) ∧
    (s.doors[n].window.isSome = true → s.doors[n].state = .released → s.store.doors[n].lock = .motorBolt →
      ∃ t, exec (.unlockWindowExpiry n) s = .next t ∧ DoorFrame s t ∧ t.doors[n].passes = [] ∧
        t.doors[n].window = none ∧
        (boltThrown s n = false →
          t.doors[n] = { s.doors[n] with state := .securing, window := none, passes := [] } ∧ Coming t n .throw) ∧
        (boltThrown s n = true → contactOpen s n = false →
          (t.doors[n].state = .secured ∧ t.doors[n].mark = none) ∨
          (t.doors[n].state = .securing ∧ Coming t n .throw))) ∧
    (s.doors[n].window = none ∨ s.doors[n].state ≠ .released → exec (.unlockWindowExpiry n) s = .next s)) ∧
  (∀ (s : State) (n : DoorNo),
    (s.doors[n].heldTimer.isSome = true → s.doors[n].state = .opened →
      exec (.heldTimerExpiry n) s =
        .next (write .held n.val 0 .blank (setCondition (Source.held n) true
          (s.modDoor n fun d => { d with state := .held, heldTimer := none })))) ∧
    (s.doors[n].heldTimer = none ∨ s.doors[n].state ≠ .opened → exec (.heldTimerExpiry n) s = .next s)) ∧
  (∀ (s : State) (n : DoorNo) (m : Motion),
    (s.motions[n].map InMotion.motion = some m →
      ∃ t, exec (.boltTimeExpiry ⟨n, m⟩) s = .next t ∧ DoorFrame s t ∧
        t.doors[n] =
          { s.doors[n] with state := .boltFault, passes := [], window := none, heldTimer := none } ∧
        t.motions[n] = none ∧ t.queue[n] = none ∧ t.alarm.condition[Source.held n] = false ∧
        t.alarm.condition[Source.bolt n] = true) ∧
    (s.motions[n].map InMotion.motion ≠ some m → exec (.boltTimeExpiry ⟨n, m⟩) s = .next s))

/-- A door opens, by its state: the table of R73, a WITHDRAW queued or in motion carrying on; the estimator of its
inside zone takes the opening. A door closes in OPEN, HELD or FORCED: RELEASED under an override, else it is relocked.
In the other states the door keeps its state. The closing of the last open door of a zone in DOOR_HOLD sends the zone to
the occupancy check. -/
def Obligations.DoorContactActs : Prop :=
  (∀ (s : State) (n : DoorNo), GateFollows s → s.inputs[contactInput n].phase = .validate →
    s.doors[n].state ≠ .starting →
    ∃ t, exec (.validationExpiry (contactInput n)) s = .next t ∧ Frame inputParts inputSources s t ∧
      (s.doors[n].state = .releasing ∨ s.doors[n].state = .released →
        t.doors[n] =
          { s.doors[n] with
            state := .opened
            passes := []
            window := none
            heldTimer := if overridden s n then s.doors[n].heldTimer else some s.store.doors[n].heldTime } ∧
        t.queue[n] = s.queue[n] ∧ t.motions[n] = s.motions[n]) ∧
      (s.doors[n].state = .secured →
        t.doors[n] = { s.doors[n] with state := .forced } ∧ t.alarm.pending[Source.forced n] = true) ∧
      (s.doors[n].state = .securing →
        t.doors[n].state = .opened ∧ (t.queue[n].map BoltRequest.motion) ≠ some .throw) ∧
      (s.doors[n].state = .opened ∨ s.doors[n].state = .held ∨ s.doors[n].state = .forced ∨
          s.doors[n].state = .boltFault → t.doors[n] = s.doors[n]) ∧
      ∀ z, s.store.doors[n].inside = some z →
        s.release[z].state = .soak ∨ s.release[z].state = .soakDone ∨ s.release[z].state = .vent →
        t.estimate[z].doorOpened = true) ∧
  (∀ (s : State) (n : DoorNo), GateFollows s → s.inputs[contactInput n].phase = .debounceOff →
    s.doors[n].state ≠ .starting →
    let open_ := s.doors[n].state = .opened ∨ s.doors[n].state = .held ∨ s.doors[n].state = .forced
    ∃ t, exec (.debounceExpiry (contactInput n)) s = .next t ∧ Frame inputParts inputSources s t ∧
      (open_ → t.doors[n].heldTimer = none ∧ t.alarm.condition[Source.held n] = false) ∧
      (open_ → overridden s n = true → t.doors[n].state = .released ∧ t.doors[n].window = s.doors[n].window) ∧
      (open_ → overridden s n = false → Relocked s t n) ∧
      (¬ open_ → t.doors[n] = s.doors[n]) ∧
      ∀ z, s.store.doors[n].inside = some z → s.release[z].state = .doorHold →
        (∀ m : DoorNo, m ≠ n → s.store.doors[m].inside = some z → contactOpen s m = false) →
        Arrived s t z (occupancyOutcome s z))

/-- An exit request: served with the interlock clear or under an override, when an occupied inside zone becomes
uncertain, the lists are untouched and a SECURED door is let go: a strike is released with its window, a bolt has its
WITHDRAW queued or in motion; refused with its record, or without effect, else. -/
def Obligations.ExitRequestReleasesTheDoor : Prop :=
  ∀ (s : State) (n : DoorNo), GateFollows s → s.inputs[rexInput n].phase = .validate →
    let served := (s.doors[n].state = .secured ∨ s.doors[n].state = .releasing ∨ s.doors[n].state = .released ∨
      s.doors[n].state = .securing)
    let quiet := fun (f : State → State) =>
      (f (s.modInput (rexInput n) fun v => { v with phase := .on })).modInput (rexInput n)
        fun v => { v with first := true }
    (served → interlockClear s n = true ∨ overridden s n = true →
      ∃ t, exec (.validationExpiry (rexInput n)) s = .next t ∧ Frame inputParts inputSources s t ∧
        t.release = s.release ∧
        (∀ z : Zone, t.occupancy[z] =
          if s.store.doors[n].inside = some z ∧ s.occupancy[z].list ≠ [] then { s.occupancy[z] with certain := false }
          else s.occupancy[z]) ∧
        (s.doors[n].state = .secured → s.doors[n].mark = none → overridden s n = false →
          LetGo s t n s.doors[n].passes)) ∧
    (served → interlockClear s n = false → overridden s n = false →
      exec (.validationExpiry (rexInput n)) s =
        .next (quiet (write .rexRefused n.val 0 (.refusal .interlock)))) ∧
    (s.doors[n].state = .boltFault ∨ s.doors[n].state = .starting →
      exec (.validationExpiry (rexInput n)) s =
        .next (quiet (write .rexRefused n.val 0 (.refusal .doorFault)))) ∧
    (s.doors[n].state = .opened ∨ s.doors[n].state = .held ∨ s.doors[n].state = .forced →
      exec (.validationExpiry (rexInput n)) s = .next (quiet fun t => t))

/-- DOOR_COMMAND FREE: the free flag, and where no override was set an override start; refused while starting, and for a
door above 7. DOOR_COMMAND AUTO: the free flag cleared, and with no egress override an override end, which relocks a
RELEASED or RELEASING door and starts the held timer of an OPEN one; refused while starting, and for a door above 7. -/
def Obligations.DoorCommandsFreeAndAuto : Prop :=
  (∀ (s : State) (door : Nat),
    (∀ h : door < 8,
      let n : DoorNo := ⟨door, h⟩
      let d := s.doors[n]
      (d.state ≠ .starting →
        ∃ t, exec (.doorCommandFree door) s = .next t ∧ Frame [.doors, .link] doorSources s t ∧
          Replied 0x40 .ok .empty s t ∧
          t.doors[n].free = true ∧ t.doors[n].egress = d.egress ∧ t.doors[n].passes = d.passes ∧
          (overridden s n = true → t.doors[n] = { d with free := true }) ∧
          (overridden s n = false →
            (d.state ≠ .boltFault ∨ s.queue[n] = none → t.doors[n].mark = some .override) ∧
            (d.state = .secured → s.store.doors[n].lock = .strike → t.doors[n].state = .released) ∧
            (d.state = .secured → s.store.doors[n].lock = .motorBolt → boltThrown s n = true →
              t.doors[n].state = .releasing) ∧
            (d.state = .released → t.doors[n].state = .released ∧ t.doors[n].window = none) ∧
            (d.state = .opened → t.doors[n].state = .opened ∧ t.doors[n].heldTimer = none) ∧
            (d.state = .held → t.doors[n].state = .opened ∧ t.alarm.condition[Source.held n] = false) ∧
            (d.state = .forced → t.doors[n].state = .opened) ∧
            (d.state = .boltFault → s.queue[n] = none → t.doors[n].state = .boltFault))) ∧
      (d.state = .starting → exec (.doorCommandFree door) s = .next (reply 0x40 .state .empty s))) ∧
    (8 ≤ door → exec (.doorCommandFree door) s = .next (reply 0x40 .param .empty s))) ∧
  (∀ (s : State) (door : Nat),
    (∀ h : door < 8,
      let n : DoorNo := ⟨door, h⟩
      let d := s.doors[n]
      let ends := d.free = true ∧ d.egress = false
      let resting := d.state = .released ∨ d.state = .releasing
      (d.state ≠ .starting →
        ∃ t, exec (.doorCommandAuto door) s = .next t ∧ Frame [.doors, .link] doorSources s t ∧
          Replied 0x40 .ok .empty s t ∧
          (¬ ends → t.doors[n] = { d with free := false }) ∧
          (ends → resting → t.doors[n].free = false ∧ t.doors[n].passes = []) ∧
          (ends → resting → Relocked s t n) ∧
          (ends → d.state = .opened →
            t.doors[n] = { d with free := false, heldTimer := some s.store.doors[n].heldTime })) ∧
      (d.state = .starting → exec (.doorCommandAuto door) s = .next (reply 0x40 .state .empty s))) ∧
    (8 ≤ door → exec (.doorCommandAuto door) s = .next (reply 0x40 .param .empty s)))

/-- DOOR_COMMAND PULSE: served in a closed, working door with the interlock clear, where a SECURED door is let go;
refused with one REFUSE record while the interlock is not clear, else without a record. The interlock of a door is clear
in group 0, and else exactly when every other door of its group is SECURED under no override. DOOR_COMMAND RETRY: in
BOLT_FAULT a motion toward the intended position is queued or started, the door waiting in BOLT_FAULT until the bolt
sense confirms it; refused elsewhere, and toward THROWN while the door stands open. -/
def Obligations.DoorCommandsPulseAndRetry : Prop :=
  (∀ (s : State) (door : Nat),
    (∀ h : door < 8,
      let n : DoorNo := ⟨door, h⟩
      let d := s.doors[n]
      let closed := d.state = .secured ∨ d.state = .releasing ∨ d.state = .released ∨ d.state = .securing
      (closed → interlockClear s n = true →
        ∃ t, exec (.doorCommandPulse door) s = .next t ∧ Frame [.doors, .link] doorSources s t ∧
          Replied 0x40 .ok .empty s t ∧
          t.doors[n].passes = d.passes ∧
          (d.state = .secured → d.mark = none → overridden s n = false → LetGo s t n d.passes) ∧
          (d.state = .secured → s.store.doors[n].lock = .motorBolt → boltThrown s n = true →
            t.doors[n].state = .releasing)) ∧
      (closed → interlockClear s n = false →
        exec (.doorCommandPulse door) s =
          .next (reply 0x40 .state .empty (write .refuse n.val 0 (.refusal .interlock) s))) ∧
      (¬ closed → exec (.doorCommandPulse door) s = .next (reply 0x40 .state .empty s))) ∧
    (8 ≤ door → exec (.doorCommandPulse door) s = .next (reply 0x40 .param .empty s))) ∧
  (∀ (s : State) (door : Nat),
    (∀ h : door < 8,
      let n : DoorNo := ⟨door, h⟩
      let motion := if overridden s n then Motion.withdraw else .throw
      let takes := s.doors[n].state = .boltFault ∧ (overridden s n = true ∨ contactOpen s n = false)
      (takes → ∃ t, exec (.doorCommandRetry door) s = .next t ∧ Frame [.doors, .link] doorSources s t ∧
          Replied 0x40 .ok .empty s t ∧
        (boltThrown s n = overridden s n →
          t.doors[n].state = .boltFault ∧
          ((t.queue[n].map BoltRequest.motion) = some motion ∨
            (t.motions[n].map InMotion.motion) = some motion))) ∧
      (¬ takes → exec (.doorCommandRetry door) s = .next (reply 0x40 .state .empty s))) ∧
    (8 ≤ door → exec (.doorCommandRetry door) s = .next (reply 0x40 .param .empty s))) ∧
  (∀ (s : State) (n : DoorNo),
    interlockClear s n = true ↔ s.store.doors[n].group = 0 ∨
      ∀ m : DoorNo, m ≠ n → s.store.doors[m].group = s.store.doors[n].group →
        s.doors[m].state = .secured ∧ s.doors[m].egress = false ∧ s.doors[m].free = false)

/-- Serving the queue leaves no startable request while a slot is free, starts no request that is not EGRESS while the
firing gate is closed, and takes no door's motion in progress from it. With a slot free, of the startable requests that
of the highest class starts, and among equal classes that of the lowest door: its motion is in progress with its full
bolt time where the bolt sense does not yet confirm it, and with one slot left nothing else starts. -/
def Obligations.ServeKeepsToGateAndSlots : Prop :=
  (∀ (s : State),
    (motionsInProgress (serve s) < s.store.slots → ∀ n : DoorNo, startable (serve s) n = false) ∧
    (∀ n : DoorNo, s.motions[n].isSome = true → (serve s).motions[n] = s.motions[n]) ∧
    (s.gateClosed = true → ∀ (n : DoorNo) (r : BoltRequest), s.queue[n] = some r → r.cls ≠ .egress →
      (serve s).queue[n] = some r ∧ (serve s).motions[n] = s.motions[n])) ∧
  (∀ (s : State) (n : DoorNo) (r : BoltRequest), s.queue[n] = some r → startable s n = true →
    (∀ (m : DoorNo) (q : BoltRequest), s.queue[m] = some q → startable s m = true →
      BoltClass.rank q.cls < BoltClass.rank r.cls ∨ (q.cls = r.cls ∧ n ≤ m)) →
    boltThrown s n ≠ decide (r.motion = .throw) → motionsInProgress s < s.store.slots →
    (serve s).motions[n] = some ⟨r.motion, s.store.doors[n].boltTime⟩ ∧
    (motionsInProgress s + 1 = s.store.slots →
      serve s = (s.setQueue n none).setMotion n (some ⟨r.motion, s.store.doors[n].boltTime⟩))) ∧
  ∀ (s : State) (n : DoorNo), startable s n = true ↔
    s.motions[n] = none ∧ ∃ r, s.queue[n] = some r ∧ (s.gateClosed = true → r.cls = .egress)

/-- No more bolt motions are in progress than the drive has slots. -/
def Obligations.StepKeepsMotionsWithinSlots : Prop :=
  ∀ (s : State), MotionsWithinSlots s → ∃ t, step s = .next t ∧ MotionsWithinSlots t

/-- A secured door carries no mark, and of two doors of an interlock group at most one carries an ORDINARY mark: two
released doors of a group are so only by an override. -/
def Obligations.StepKeepsMarksSound : Prop :=
  ∀ (s : State), MarksSound s → ∃ t, step s = .next t ∧ MarksSound t

/-- No ENTRY pass stays with a door under egress override. Every door's egress override is in step with the release
state of its inside zone, through every change of that state and of the door's inside zone. -/
def Obligations.StepKeepsEgressOverrides : Prop :=
  (∀ (s : State), NoEntryUnderEgress s → ∃ t, step s = .next t ∧ NoEntryUnderEgress t) ∧
  ∀ (s : State), EgressFollows s → ∃ t, step s = .next t ∧ EgressFollows t

/-- An egress request of a zone reaches every door inside it, and no other: the ENTRY passes go, the EXIT passes stay,
the override flag is set, and where this is an override start the mark is OVERRIDE. An egress end clears the flag there;
where that ends the override, a RELEASED or RELEASING door drops its passes and relocks, and an OPEN one starts its held
timer. Of one door's request, each ENTRY pass dropped is journalled with one PASS_DROPPED record. -/
def Obligations.EgressReachesTheZonesDoors : Prop :=
  ∀ (s : State) (z : Zone) (n : DoorNo),
    let d := s.doors[n]
    (s.store.doors[n].inside = some z →
      (let t := egressRequest z s
       t.doors[n].egress = true ∧ t.doors[n].free = d.free ∧
       t.doors[n].passes = d.passes.filter (fun p => decide (p.dir = .exit)) ∧
       (overridden s n = false → t.doors[n].mark = some .override)) ∧
      (let t := egressEnd z s
       let ends := d.egress = true ∧ d.free = false
       t.doors[n].egress = false ∧ t.doors[n].free = d.free ∧ (¬ ends → t.doors[n].passes = d.passes) ∧
       (ends → d.state = .released ∨ d.state = .releasing → t.doors[n].passes = [] ∧
         (s.store.doors[n].lock = .strike → t.doors[n].state = .secured ∧ t.doors[n].mark = none) ∧
         (s.store.doors[n].lock = .motorBolt →
           t.doors[n].state = .secured ∨ t.doors[n].state = .securing)) ∧
       (ends → d.state = .opened →
         t.doors[n].state = .opened ∧ t.doors[n].heldTimer = some s.store.doors[n].heldTime))) ∧
    (s.store.doors[n].inside ≠ some z →
      (egressRequest z s).doors[n].egress = d.egress ∧ (egressRequest z s).doors[n].passes = d.passes ∧
      (egressEnd z s).doors[n].egress = d.egress ∧ (egressEnd z s).doors[n].passes = d.passes) ∧
    (overridden s n = true →
      egressDoor n s =
        (forEach (d.passes.filter fun p => decide (p.dir = .entry))
          (fun p => write .passDropped n.val p.cred (.direction .entry))
          (s.modDoor n fun v => { v with passes := v.passes.filter fun p => decide (p.dir = .exit) })).modDoor n
            fun v => { v with egress := true })

/-- The lock output of a strike door stands at its fail-mode level while the door is starting (SECURE holds it
energized, SAFE leaves it dropped), and then is dropped while the door carries a release mark and energized otherwise
(that a starting door's mark does not drop it is the model's choice, notes/assumptions/20.md); a motor-bolted door has
none. So FREE and PULSE at a SECURED strike door drop it, an opening by force leaves it energized, and the end of the
unlock window energizes it again. -/
def Obligations.LockOutputsFollowDoors : Prop :=
  (∀ (s : State) (n : DoorNo),
    (s.store.doors[n].lock = .motorBolt → lockOutput s n = none) ∧
    (s.store.doors[n].lock = .strike → s.doors[n].state = .starting →
      (s.store.doors[n].fail = .secure → lockOutput s n = some .energized) ∧
      (s.store.doors[n].fail = .safe → lockOutput s n = some .dropped)) ∧
    (s.store.doors[n].lock = .strike → s.doors[n].state ≠ .starting →
      (s.doors[n].mark ≠ none → lockOutput s n = some .dropped) ∧
      (s.doors[n].mark = none → lockOutput s n = some .energized))) ∧
  (∀ (s : State) (n : DoorNo), s.store.doors[n].lock = .strike → MarksSound s →
    (s.doors[n].state = .secured →
      lockOutput s n = some .energized ∧
      (overridden s n = false →
        ∃ t, exec (.doorCommandFree n.val) s = .next t ∧ lockOutput t n = some .dropped) ∧
      (interlockClear s n = true →
        ∃ t, exec (.doorCommandPulse n.val) s = .next t ∧ lockOutput t n = some .dropped) ∧
      (GateFollows s → s.inputs[contactInput n].phase = .validate →
        ∃ t, exec (.validationExpiry (contactInput n)) s = .next t ∧ t.doors[n].state = .forced ∧
          lockOutput t n = some .energized)) ∧
    (s.doors[n].state = .released → s.doors[n].window.isSome = true →
      ∃ t, exec (.unlockWindowExpiry n) s = .next t ∧ lockOutput t n = some .energized))

/-! ## Chapter 5: the clock and the credential store -/

/-- A second passes: a set clock rises, changes day after 86399 and becomes unset past day 65535; every running timer
has one second less, a custody window or a lone timer unless the second is a minute boundary at which its zone's period
changes (seconds left as a count is the model's choice, notes/assumptions/3.md; that a second ends an outrun expiry of a
lone timer, notes/assumptions/29.md). A set clock reaches its minute boundary, where every zone's period is derived
afresh; an unset clock has none (how far the clock jumps is the model's choice, notes/assumptions/4.md). SET_TIME gives
the clock its new values, derives every period and ends the CLOCK condition; addressed it is answered, a broadcast is
not, and is line activity (notes/assumptions/5.md). A second-of-day above 86399 is refused with PARAM, or discarded as a
broadcast. -/
def Obligations.ClockRunsAndIsSet : Prop :=
  (∀ (s : State), s.clock.second ≤ 86399 →
    ∃ t, exec .clockSecond s = .next t ∧
      Frame ([.release, .estimate, .doors, .readers, .periodic, .link, .clock] ++ periodParts) [Source.clock] s t ∧
      t.clock =
        (if s.clock.set = false then s.clock
         else if s.clock.second < 86399 then ⟨true, s.clock.day, s.clock.second + 1⟩
         else if s.clock.day < 65535 then ⟨true, s.clock.day + 1, 0⟩ else ⟨false, 0, 0⟩) ∧
      (s.clock.set = true → t.alarm.condition[Source.clock] = !t.clock.set) ∧
      (∀ z : Zone,
        t.release[z] =
          { s.release[z] with
            doorHold := s.release[z].doorHold.map (· - 1)
            occupancyHold := s.release[z].occupancyHold.map (· - 1)
            firing := s.release[z].firing.map fun f => { f with left := f.left - 1 } } ∧
        t.estimate[z] = { s.estimate[z] with timer := s.estimate[z].timer.map (· - 1) }) ∧
      (∀ n : DoorNo, t.doors[n] =
        { s.doors[n] with
          window := s.doors[n].window.map (· - 1), heldTimer := s.doors[n].heldTimer.map (· - 1) }) ∧
      t.queue = s.queue ∧
      (∀ n : DoorNo, t.motions[n] = s.motions[n].map fun m => { m with left := m.left - 1 }) ∧
      (∀ r : ReaderNo, t.readers[r] = { s.readers[r] with lockout := s.readers[r].lockout.map (· - 1) }) ∧
      t.line.periodic = s.line.periodic.map (· - 1) ∧
      t.link = { s.link with uptime := min 4294967295 (s.link.uptime + 1) } ∧
      (s.clock.set = false ∨ (s.clock.second + 1) % 60 ≠ 0 →
        t.period = s.period ∧ t.loneOutrun = Vector.replicate 4 false) ∧
      (∀ z : Zone, t.period[z] = s.period[z] → t.loneTimer[z] = s.loneTimer[z].map (· - 1)) ∧
      ∀ n : DoorNo, (s.custody[n] = none → t.custody[n] = none) ∧
        ∀ w, s.custody[n] = some w → t.period[w.zone] = s.period[w.zone] →
          t.custody[n] = some { w with left := w.left - 1 }) ∧
  (∀ (s : State), s.clock.second ≤ 86399 →
    (s.clock.set = true → ∃ t, exec .minuteBoundary s = .next t ∧
      Frame ([.release, .estimate, .doors, .readers, .periodic, .link, .clock] ++ periodParts) [Source.clock] s t ∧
      t.clock.second % 60 = 0 ∧ t.queue = s.queue ∧
      ∀ z : Zone, t.period[z] = derivedPeriod t z) ∧
    (s.clock.set = false → exec .minuteBoundary s = .next s)) ∧
  (∀ (s : State) (broadcast : Bool) (day second : Nat),
    (day ≤ 65535 → second ≤ 86399 →
      ∃ t, exec (.setTime broadcast day second) s = .next t ∧
        Frame ([.link, .clock] ++ periodParts) [Source.clock] s t ∧ t.clock = ⟨true, day, second⟩ ∧
        (∀ z : Zone, t.period[z] = derivedPeriod t z) ∧ t.alarm.condition[Source.clock] = false ∧
        (if broadcast then t.link = Link.heard s.link else Replied 0x05 .ok .empty s t)) ∧
    (86399 < second → exec (.setTime broadcast day second) s =
      .next (if broadcast then s.modLink Link.heard else reply 0x05 .param .empty s)))

/-- A schedule is active exactly when it is schedule 0, or the clock is set and one of its intervals has the effective
day (HOLIDAY on a listed day, else the weekday) and covers the minute; a zone's period follows its mode and in AUTO its
opening schedule. SET_SCHEDULE and SET_HOLIDAYS replace a schedule's intervals and the holiday list, which is sorted
with each day once; both derive every period afresh, and refuse with PARAM what breaks their rules. ZONE_MODE stores the
mode, derives the zone's period and echoes both; a new LOCKDOWN closes the custody windows toward the zone. A zone
outside 1 to 4 or a mode not among the four is refused with PARAM. -/
def Obligations.SchedulesHolidaysAndModesAct : Prop :=
  (∀ (s : State) (k : ScheduleNo) (z : Zone),
    let today := if s.clock.day ∈ s.store.holidays then 7 else (s.clock.day + 5) % 7
    let minute := s.clock.second / 60
    (scheduleActive s k = true ↔ k = 0 ∨ (s.clock.set = true ∧
      ∃ i ∈ s.store.schedules[k], i.days.getLsbD today = true ∧ i.start ≤ minute ∧ minute < i.stop)) ∧
    (derivedPeriod s z = .day ↔ s.store.modes[z] = .forceDay ∨
      (s.store.modes[z] = .auto ∧ scheduleActive s s.store.zones[z].openingSchedule = true))) ∧
  (∀ (s : State) (schedule : Nat) (intervals : List IntervalRequest) (days : List Nat),
    let good := intervals.length ≤ 6 ∧ ∀ i ∈ intervals, i.days ≠ 0 ∧ i.start < i.stop ∧ i.stop ≤ 1440
    (∀ h : schedule < 16, schedule ≠ 0 → good →
      let stored := intervals.map fun i => Interval.mk i.days i.start i.stop
      ∃ t, exec (.setSchedule schedule intervals) s = .next t ∧
        Frame ([.settings, .link] ++ periodParts) [] s t ∧
        t.store = { s.store with schedules := upd s.store.schedules ⟨schedule, h⟩ fun _ => stored } ∧
        (∀ z : Zone, t.period[z] = derivedPeriod t z) ∧
        Replied 0x19 .ok (.schedule ⟨schedule, h⟩ stored) s t) ∧
    (schedule = 0 ∨ 16 ≤ schedule ∨ ¬ good →
      exec (.setSchedule schedule intervals) s = .next (reply 0x19 .param .empty s)) ∧
    (days.length ≤ 32 → (∀ d ∈ days, 1 ≤ d ∧ d ≤ 65535) →
      ∃ (t : State) (list : List Nat), exec (.setHolidays days) s = .next t ∧
        Frame ([.settings, .link] ++ periodParts) [] s t ∧
        list.Pairwise (· < ·) ∧ (∀ d, d ∈ list ↔ d ∈ days) ∧
        t.store = { s.store with holidays := list } ∧ (∀ z : Zone, t.period[z] = derivedPeriod t z) ∧
        Replied 0x1A .ok (.holidays list) s t) ∧
    (32 < days.length ∨ 0 ∈ days → exec (.setHolidays days) s = .next (reply 0x1A .param .empty s))) ∧
  (∀ (s : State) (zone mode : Nat),
    (∀ (z : Zone) (m : ZoneMode), zone = z.val + 1 → ZoneMode.ofCode mode = some m →
      ∃ t, exec (.zoneMode zone mode) s = .next t ∧
        Frame ([.settings, .link] ++ periodParts) [] s t ∧
        t.store = { s.store with modes := upd s.store.modes z fun _ => m } ∧
        t.period = (upd s.period z fun _ => derivedPeriod t z) ∧
        (m = .lockdown → s.store.modes[z] ≠ .lockdown →
          ∀ n : DoorNo, (t.custody[n].map CustodyWindow.zone) ≠ some z) ∧
        Replied 0x30 .ok (.zoneMode m t.period[z]) s t) ∧
    (zone = 0 ∨ 4 < zone ∨ ZoneMode.ofCode mode = none →
      exec (.zoneMode zone mode) s = .next (reply 0x30 .param .empty s)))

/-- ENROL stores the record it carries: over the record of its number, or at its place while fewer than 4096 are held,
with one CREDENTIAL record; a full table refuses a new number with FULL, and a record that R93 forbids is refused with
PARAM. REVOKE removes the record of its number, the others keeping their order, with one CREDENTIAL record; occupancy
lists, passes and custody windows keep the credential; its next presentation at a reader that is not locked out is
refused as unknown. A number of 0 is refused with PARAM, one not held with NOT_FOUND. LOOKUP returns the record of a
number, or the one with the smallest greater number, its PIN digits as zeros, else NOT_FOUND; EXACT refuses 0 with
PARAM. CREDENTIAL_COUNT returns the number of records. Neither of these changes anything. -/
def Obligations.CredentialTableIsKeptAndRead : Prop :=
  (∀ (s : State) (r : CredentialRequest),
    s.store.credentials.Pairwise (fun a b => a.number < b.number) →
    let forbidden := r.number = 0 ∨ r.holder = 0 ∨ r.role = 0 ∨ 4 < r.role ∨ 15 < r.schedule ∨
      (r.pinLength ≠ 0 ∧ r.pinLength ≠ 4 ∧ r.pinLength ≠ 5 ∧ r.pinLength ≠ 6) ∨
      (∃ d ∈ r.digits.take r.pinLength, 9 < d) ∨
      (r.validFrom ≠ 0 ∧ r.validUntil ≠ 0 ∧ r.validUntil < r.validFrom)
    (∀ (role : Role) (schedule : ScheduleNo), Role.ofCode r.role = some role → r.schedule = schedule.val →
      ¬ forbidden →
      let c : Credential :=
        { number := r.number
          holder := r.holder
          role := role
          doors := r.doors
          schedule := schedule
          pin := r.digits.take r.pinLength
          validFrom := r.validFrom
          validUntil := r.validUntil
          escortRequired := r.escortRequired
          suspended := r.suspended }
      let known := (lookup s c.number).isSome = true
      (known ∨ s.store.credentials.length < 4096 →
        ∃ (t : State) (table : List Credential), exec (.enrol r) s = .next t ∧
          t.store = { s.store with credentials := table } ∧
          table.Pairwise (fun a b => a.number < b.number) ∧ c ∈ table ∧
          (∀ d ∈ s.store.credentials, d.number ≠ c.number → d ∈ table) ∧
          (∀ d ∈ table, d = c ∨ (d ∈ s.store.credentials ∧ d.number ≠ c.number)) ∧
          t.occupancy = s.occupancy ∧ Replied 0x20 .ok .empty s t ∧
          t = reply 0x20 .ok .empty (forEach allZones
            (fun z u => setCondition (Source.escort z) (escortCondition u z) u)
            (write .credential 0 c.number (if known then .replaced else .added)
              { s with store := { s.store with credentials := table } }))) ∧
      (¬ known → 4096 ≤ s.store.credentials.length →
        exec (.enrol r) s = .next (reply 0x20 .full .empty s))) ∧
    (forbidden → exec (.enrol r) s = .next (reply 0x20 .param .empty s))) ∧
  (∀ (s : State) (number : Nat) (digits : List Nat),
    (number ≠ 0 → (lookup s number).isSome = true →
      ∃ t, exec (.revoke number) s = .next t ∧
        t.store = { s.store with credentials := s.store.credentials.filter fun c => decide (c.number ≠ number) } ∧
        t = reply 0x21 .ok .empty (forEach allZones
          (fun z u => setCondition (Source.escort z) (escortCondition u z) u)
          (write .credential 0 number .revoked { s with store := t.store })) ∧
        t.occupancy = s.occupancy ∧ t.doors = s.doors ∧ t.custody = s.custody ∧
        ∀ (r : ReaderNo), GateFollows s → s.readers[r].lockout = none →
          exec (.presentation r number digits) t =
            .next (write .refuse r.val number (.refusal .unknown) t)) ∧
    (number = 0 → exec (.revoke number) s = .next (reply 0x21 .param .empty s)) ∧
    (number ≠ 0 → lookup s number = none → exec (.revoke number) s = .next (reply 0x21 .notFound .empty s))) ∧
  (∀ (s : State) (number : Nat),
    s.store.credentials.Pairwise (fun a b => a.number < b.number) →
    let answer := fun (c : Credential) =>
      reply 0x22 .ok (.credential { c with pin := List.replicate c.pin.length 0 }) s
    (number = 0 → exec (.lookupExact number) s = .next (reply 0x22 .param .empty s)) ∧
    (number ≠ 0 → ∀ c ∈ s.store.credentials, c.number = number →
      exec (.lookupExact number) s = .next (answer c)) ∧
    (number ≠ 0 → (∀ c ∈ s.store.credentials, c.number ≠ number) →
      exec (.lookupExact number) s = .next (reply 0x22 .notFound .empty s)) ∧
    (∀ c ∈ s.store.credentials, number < c.number →
      (∀ d ∈ s.store.credentials, number < d.number → c.number ≤ d.number) →
      exec (.lookupNext number) s = .next (answer c)) ∧
    ((∀ c ∈ s.store.credentials, c.number ≤ number) →
      exec (.lookupNext number) s = .next (reply 0x22 .notFound .empty s)) ∧
    exec .credentialCount s = .next (reply 0x23 .ok (.count s.store.credentials.length) s))

/-! ## Chapter 6: entry and occupancy -/

/-- The verdict on a record's dates is CLOCK for a dated record while the clock is unset, else NOT_YET_VALID before its
first day, else EXPIRED past its last, else VALID. The first nine checks of a presentation: the first that fails writes
one REFUSE record with its code and changes nothing else. No presentation at an ENTRY reader changes any door while the
target zone is between COUNTDOWN and VENT. -/
def Obligations.PresentationChecksOneToNine : Prop :=
  (∀ (s : State) (c : Credential),
    let undatable := s.clock.set = false ∧ (c.validFrom ≠ 0 ∨ c.validUntil ≠ 0)
    let early := c.validFrom ≠ 0 ∧ s.clock.day < c.validFrom
    let late := c.validUntil ≠ 0 ∧ c.validUntil < s.clock.day
    (verdict s c = .clock ↔ undatable) ∧ (verdict s c = .notYetValid ↔ ¬ undatable ∧ early) ∧
    (verdict s c = .expired ↔ ¬ undatable ∧ ¬ early ∧ late) ∧
    (verdict s c = .valid ↔ ¬ undatable ∧ ¬ early ∧ ¬ late)) ∧
  (∀ (s : State) (r : ReaderNo) (cred : Nat) (digits : List Nat), GateFollows s →
    let refused := fun (code : RefusalCode) =>
      exec (.presentation r cred digits) s = .next (write .refuse r.val cred (.refusal code) s)
    (s.readers[r].lockout.isSome = true → refused .readerLocked) ∧
    (s.readers[r].lockout = none →
      (lookup s cred = none → refused .unknown) ∧
      ∀ c ∈ s.store.credentials, lookup s cred = some c →
        (c.suspended = true → refused .suspended) ∧
        (c.suspended = false →
          (verdict s c = .clock → refused .clock) ∧
          (verdict s c = .notYetValid → refused .notYetValid) ∧
          (verdict s c = .expired → refused .expired) ∧
          (verdict s c = .valid → s.store.readers[r].direction = .entry →
            let n := s.store.readers[r].door
            (c.doors.getLsbD n.val = false → refused .noDoor) ∧
            (c.doors.getLsbD n.val = true → scheduleActive s c.schedule = false → refused .schedule) ∧
            (c.doors.getLsbD n.val = true → scheduleActive s c.schedule = true →
              ∀ z, s.store.doors[n].inside = some z →
                (s.store.modes[z] = .lockdown → refused .lockdown) ∧
                (s.store.modes[z] ≠ .lockdown → ReleaseState.inSpan s.release[z].state = true →
                  refused .suppression)))))) ∧
  (∀ (s : State) (r : ReaderNo) (cred : Nat) (digits : List Nat) (z : Zone), GateFollows s →
    s.store.readers[r].direction = .entry → s.store.doors[s.store.readers[r].door].inside = some z →
    ReleaseState.inSpan s.release[z].state = true →
    ∃ t, exec (.presentation r cred digits) s = .next t ∧ t.doors = s.doors ∧ t.queue = s.queue ∧
      t.motions = s.motions ∧ t.custody = s.custody ∧
      Frame [.readers] (allReaders.map Source.duress) s t)

/-- A presentation that passes every check at a SECURED door, where custody does not apply, writes its GRANT record,
lets the door go with its one pass (a strike is released with its unlock window, a bolt has its WITHDRAW queued or in
motion) and returns the reader's bad-PIN count to 0. -/
def Obligations.GrantLetsTheDoorGo : Prop :=
  ∀ (s : State) (r : ReaderNo) (c : Credential) (digits : List Nat), GateFollows s → PassesChecks s r c digits →
    let n := s.store.readers[r].door
    (∀ z, entryZone s r = some z → custodyApplies s n z = false) →
    s.doors[n].state = .secured → s.doors[n].mark = none →
    overridden s n = false → interlockClear s n = true → s.doors[n].passes = [] →
    (∀ (m : DoorNo), ∀ p ∈ s.doors[m].passes, p.cred ≠ c.number) →
    ∃ u, exec (.presentation r c.number digits) s =
        .next ((write .grant r.val c.number .single u).modReader r fun v => { v with bad := 0 }) ∧
      Frame [.doors] doorSources s u ∧ LetGo s u n [⟨c.number, s.store.readers[r].direction⟩]

/-- Check 10: a wrong PIN is refused and counted, the third starting a lockout of 60 s with its own record; the duress
form gives the reader's DURESS event whatever follows; no digits, or no PIN held, is refused and not counted. -/
def Obligations.PinFailuresCountAndDuressSignals : Prop :=
  ∀ (s : State) (r : ReaderNo) (c : Credential) (digits : List Nat), GateFollows s →
    s.readers[r].lockout = none → lookup s c.number = some c → recordRefusal s r c = none →
    pinRequired s r = true →
    let refused := write .refuse r.val c.number
    let present := exec (.presentation r c.number digits) s
    (digits = [] → present = .next (refused (.refusal .pinRequired) s)) ∧
    (digits ≠ [] → c.pin = [] → present = .next (refused (.refusal .noPin) s)) ∧
    (digits ≠ [] → c.pin ≠ [] → digits ≠ c.pin → digits ≠ duressForm c.pin →
      (s.readers[r].bad < 2 →
        present = .next ((refused (.refusal .badPin) s).modReader r fun v => { v with bad := v.bad + 1 })) ∧
      (2 ≤ s.readers[r].bad →
        present = .next (write .refuse r.val 0 (.refusal .lockout)
          ((refused (.refusal .badPin) s).modReader r fun _ => ⟨3, some 60⟩)))) ∧
    (digits ≠ [] → c.pin ≠ [] → digits ≠ c.pin → digits = duressForm c.pin →
      ∃ t, present = .next t ∧
        Frame ([.readers, .custody, .occupancy, .lone, .gate] ++ zoneParts) (Source.duress r :: inputSources) s t ∧
        t.alarm.pending[Source.duress r] = true)

/-- Where custody applies, a first presenter opens the window; a second of the same holder is refused with the window
running on; a pair without a CUSTODIAN is refused and closes the window; a pair with one, at a SECURED door whose
interlock is clear, closes the window, lets the door go with both passes, the first presenter's before the second's,
writes two GRANT records in that order and returns the reader's bad-PIN count to 0. -/
def Obligations.CustodyTakesTwoPeople : Prop :=
  ∀ (s : State) (r : ReaderNo) (c : Credential) (digits : List Nat) (z : Zone), GateFollows s →
    PassesChecks s r c digits → entryZone s r = some z → custodyApplies s s.store.readers[r].door z = true →
    let n := s.store.readers[r].door
    (s.custody[n] = none →
      exec (.presentation r c.number digits) s =
        .next (write .custodyFirst r.val c.number .blank
          (s.setCustody n (some ⟨c.number, c.holder, c.role, z, s.store.zones[z].custodyWindow⟩)))) ∧
    ∀ w, s.custody[n] = some w →
      (c.holder = w.holder →
        exec (.presentation r c.number digits) s =
          .next (write .refuse r.val c.number (.refusal .custodySameHolder) s)) ∧
      (c.holder ≠ w.holder → w.role ≠ .custodian → c.role ≠ .custodian →
        exec (.presentation r c.number digits) s =
          .next (write .passUnused n.val w.cred .custody
            ((write .refuse r.val c.number (.refusal .custodyRole) s).setCustody n none))) ∧
      (c.holder ≠ w.holder → w.role = .custodian ∨ c.role = .custodian → w.cred ≠ c.number →
        s.doors[n].state = .secured → s.doors[n].mark = none → overridden s n = false → interlockClear s n = true →
        s.doors[n].passes = [] →
        (∀ (m : DoorNo), ∀ p ∈ s.doors[m].passes, p.cred ≠ w.cred ∧ p.cred ≠ c.number) →
        ∃ u, exec (.presentation r c.number digits) s =
            .next ((write .grant r.val c.number .pair (write .grant r.val w.cred .pair u)).modReader r
              fun v => { v with bad := 0 }) ∧
          Frame [.doors, .custody] doorSources s u ∧ u.custody = (upd s.custody n fun _ => none) ∧
          LetGo s u n [⟨w.cred, .entry⟩, ⟨c.number, .entry⟩])

/-- The lockout expiry ends the lockout with the count at 0; the custody window expiry closes an open window with its
PASS_UNUSED record. Neither does anything where nothing runs (that last is the model's choice, notes/assumptions/17.md).
The lone timer expires: the LONE event, one record that names the listed credential, and the timer again for the full
lone time. An expiry that a check-in or a stop has outrun does nothing further (which one that is is the model's choice,
notes/assumptions/29.md), and so does a stopped timer's (the model's choice, notes/assumptions/17.md). -/
def Obligations.PeopleTimersExpire : Prop :=
  (∀ (s : State) (r : ReaderNo) (n : DoorNo),
    (s.readers[r].lockout.isSome = true →
      exec (.lockoutExpiry r) s = .next (s.modReader r fun _ => ⟨0, none⟩)) ∧
    (s.readers[r].lockout = none → exec (.lockoutExpiry r) s = .next s) ∧
    (∀ w, s.custody[n] = some w →
      exec (.custodyWindowExpiry n) s = .next (write .passUnused n.val w.cred .custody (s.setCustody n none))) ∧
    (s.custody[n] = none → exec (.custodyWindowExpiry n) s = .next s)) ∧
  (∀ (s : State) (z : Zone),
    (s.loneOutrun[z] = true → exec (.loneTimerExpiry z) s = .next (s.setOutrun z false)) ∧
    (s.loneOutrun[z] = false → s.loneTimer[z].isSome = true →
      exec (.loneTimerExpiry z) s =
        .next ((write .lone (z.val + 1) (s.occupancy[z].list.headD 0) .blank (edgeEvent (Source.lone z) s)).setLone z
          (some (60 * s.store.zones[z].loneTime)))) ∧
    (s.loneOutrun[z] = false → s.loneTimer[z] = none → exec (.loneTimerExpiry z) s = .next s))

/-- A released door with one pass opens: an ENTRY pass takes its credential from every other list and lists it inside,
an EXIT pass takes it from every list, makes a room it empties certain, and lists it outside; a full list makes its zone
uncertain instead. -/
def Obligations.OpeningAppliesThePass : Prop :=
  ∀ (s : State) (n : DoorNo) (cred : Nat), s.inputs[contactInput n].phase = .validate →
    s.doors[n].state = .released → OccupancySound s →
    s.store.doors[n].inside ≠ s.store.doors[n].outside ∨ s.store.doors[n].inside = none →
    (s.doors[n].passes = [⟨cred, .entry⟩] →
      ∃ t, exec (.validationExpiry (contactInput n)) s = .next t ∧ Frame inputParts inputSources s t ∧
        ∀ z : Zone, t.occupancy[z] =
        if s.store.doors[n].inside ≠ some z then
          { s.occupancy[z] with list := s.occupancy[z].list.erase cred }
        else if cred ∈ s.occupancy[z].list then s.occupancy[z]
        else if s.occupancy[z].list.length = 32 then { s.occupancy[z] with certain := false }
        else { s.occupancy[z] with list := s.occupancy[z].list ++ [cred] }) ∧
    (s.doors[n].passes = [⟨cred, .exit⟩] →
      ∃ t, exec (.validationExpiry (contactInput n)) s = .next t ∧ Frame inputParts inputSources s t ∧
        ∀ z : Zone, t.occupancy[z] =
        let rest := s.occupancy[z].list.erase cred
        if s.store.doors[n].outside = some z then
          if rest.length = 32 then ⟨rest, false⟩ else { s.occupancy[z] with list := rest ++ [cred] }
        else if s.store.doors[n].inside = some z ∧ s.occupancy[z].list = [cred] then ⟨[], true⟩
        else { s.occupancy[z] with list := rest })

/-- OCCUPANCY_CONFIRM makes a zone certain, OCCUPANCY_REMOVE takes a listed credential off its zone's list, and each
sends an OCCUPIED_HOLD that is then empty and certain to DISCHARGE; OCCUPANCY_READ returns the flag and the list. What
they do not accept is refused. -/
def Obligations.OccupancyMessagesAct : Prop :=
  ∀ (s : State) (z : Zone) (cred : Nat),
    let ends := fun (o : Occupancy) => s.release[z].state = .occupiedHold ∧ o.list = [] ∧ o.certain = true
    (∃ t, exec (.occupancyConfirm (z.val + 1)) s = .next t ∧
      Frame ([.link, .occupancy, .lone, .gate] ++ zoneParts) inputSources s t ∧
      t.occupancy = (upd s.occupancy z fun o => { o with certain := true }) ∧
      Replied 0x49 .ok .empty s t ∧
      (s.occupancy[z].certain = false → ends { s.occupancy[z] with certain := true } →
        Arrived s t z (dischargeOutcome s z))) ∧
    (cred ≠ 0 → cred ∈ s.occupancy[z].list →
      ∃ t, exec (.occupancyRemove (z.val + 1) cred) s = .next t ∧
        Frame ([.link, .occupancy, .lone, .gate] ++ zoneParts) inputSources s t ∧
        t.occupancy = (upd s.occupancy z fun o => { o with list := o.list.erase cred }) ∧
        Replied 0x4A .ok .empty s t ∧
        (ends { s.occupancy[z] with list := s.occupancy[z].list.erase cred } →
          Arrived s t z (dischargeOutcome s z))) ∧
    (GateFollows s → cred ≠ 0 → cred ∉ s.occupancy[z].list →
      exec (.occupancyRemove (z.val + 1) cred) s = .next (reply 0x4A .notFound .empty s)) ∧
    (GateFollows s → exec (.occupancyRemove (z.val + 1) 0) s = .next (reply 0x4A .param .empty s)) ∧
    exec (.occupancyRead (z.val + 1)) s =
      .next (reply 0x48 .ok (.occupancy s.occupancy[z].certain s.occupancy[z].list) s) ∧
    (GateFollows s → ∀ k : Nat, k = 0 ∨ 4 < k →
      exec (.occupancyConfirm k) s = .next (reply 0x49 .param .empty s) ∧
      exec (.occupancyRemove k cred) s = .next (reply 0x4A .param .empty s) ∧
      exec (.occupancyRead k) s = .next (reply 0x48 .param .empty s))

/-- A credential number stands at most once across all occupancy lists, and no list holds more than 32. -/
def Obligations.StepKeepsOccupancySound : Prop :=
  ∀ (s : State), OccupancySound s → ∃ t, step s = .next t ∧ OccupancySound t

/-! ## Chapters 7 and 8: annunciators and alarms -/

/-- SILENCE sets the silence flag of each selected silenceable output that does not list source 115 (one that does may
have its silence cleared by the backlog that the message's own records raise), leaves every output that is not
silenceable as it is, and answers OK only where every selected one was silenceable. -/
def Obligations.SilenceQuietsSilenceableOutputs : Prop :=
  ∀ (s : State) (selection : Nat),
    (selection ≠ 0 ∧ selection < 2 ^ 8 →
      ∃ t, exec (.silence selection) s = .next t ∧ Signals s (t.modLink fun _ => s.link) ∧
        (∀ src : Source, src ≠ Source.backlog →
          t.alarm.pending[src] = s.alarm.pending[src] ∧ t.alarm.condition[src] = s.alarm.condition[src]) ∧
        (∀ o : OutputNo, Source.backlog ∉ s.store.outputs[o].sources →
          t.outputs[o].silenced =
            (s.outputs[o].silenced || (selection.testBit o.val && s.store.outputs[o].silenceable))) ∧
        (∀ o : OutputNo, selection.testBit o.val = true → s.store.outputs[o].silenceable = true →
          Source.backlog ∉ s.store.outputs[o].sources → t.outputs[o].on = false) ∧
        t.alarm.inService = s.alarm.inService ∧
        Replied 0x5C
          (if ∀ o : OutputNo, selection.testBit o.val = true → s.store.outputs[o].silenceable = true then .ok else .state)
          .empty s t) ∧
    (selection = 0 ∨ 2 ^ 8 ≤ selection → exec (.silence selection) s = .next (reply 0x5C .param .empty s))

/-- A record written to a journal with room is retained with the next sequence number, stamped with the clock or with 0
and 0 while it is unset; a full journal is left as it is. Beside it nothing changes but what source 115 sets going. An
event of an EDGE source makes it pending, or merges; a change of a LEVEL source's condition is recorded and, unless the
source is in service, its pending flag follows. A source newly pending, by an event or by its condition rising, clears
the silence of the outputs that list it, and one that is then eligible lifts attention suppression. Beside the outputs
that list the source nothing changes but what a record sets going. -/
def Obligations.RecordsAndSourcesAct : Prop :=
  (∀ (s : State) (kind : RecordKind) (subject cred : Nat) (detail : Detail),
    let t := write kind subject cred detail s
    (s.journal.newest < 4294967295 →
      ⟨s.journal.newest + 1, if s.clock.set then s.clock.day else 0, if s.clock.set then s.clock.second else 0, kind,
        subject, cred, detail⟩ ∈ t.journal.ring ∧ s.journal.newest < t.journal.newest) ∧
    (s.journal.newest = 4294967295 → t.journal = s.journal) ∧ Affects [] s t) ∧
  (∀ (s : State) (src : Source) (b : Bool),
    (Source.kind src = .edge →
      (edgeEvent src s).alarm.pending[src] = true ∧
      (s.alarm.pending[src] = true → edgeEvent src s = s) ∧
      (s.alarm.pending[src] = false → ∀ o : OutputNo, src ∈ s.store.outputs[o].sources →
        (edgeEvent src s).outputs[o].silenced = false) ∧
      (s.alarm.pending[src] = false → eligible (edgeEvent src s) src = true →
        (edgeEvent src s).alarm.suppressed = false) ∧
      Affects [src] s (edgeEvent src s)) ∧
    (Source.kind src = .level → src ≠ Source.backlog →
      (setCondition src b s).alarm.condition[src] = b ∧
      (src ∈ s.alarm.inService → (setCondition src b s).alarm.pending[src] = s.alarm.pending[src]) ∧
      (src ∉ s.alarm.inService → s.alarm.pending[src] = s.alarm.condition[src] →
        (setCondition src b s).alarm.pending[src] = b) ∧
      (s.alarm.condition[src] = false → src ∉ s.alarm.inService → s.alarm.pending[src] = false →
        (∀ o : OutputNo, src ∈ s.store.outputs[o].sources →
          (setCondition src true s).outputs[o].silenced = false) ∧
        (eligible (setCondition src true s) src = true → (setCondition src true s).alarm.suppressed = false)) ∧
      (s.alarm.condition[src] = b → setCondition src b s = s) ∧
      Affects [src] s (setCondition src b s)))

/-- CLAIM takes the eligible source of highest priority, of equal ones the lowest number, to the end of the in-service
list and clears its pending flag; PEEK returns the same and takes nothing; both clear attention suppression. With no
eligible source both answer source 0. COMPLETE removes the named entry of the in-service list, or with 0 the newest; a
LEVEL source whose condition is true becomes pending, an EDGE source keeps its flag; the reply carries the source and
the new notification level. What does not stand there is refused with STATE, a number above 115 with PARAM. -/
def Obligations.AlarmsAreClaimedAndCompleted : Prop :=
  (∀ (s : State),
    let first := fun (src : Source) => eligible s src = true ∧
      ∀ x : Source, eligible s x = true → priority s x < priority s src ∨ (priority s x = priority s src ∧ src ≤ x)
    let report := fun (src : Source) => AlarmReport.mk src (priority s src) (Source.kind src) s.alarm.condition[src]
    let quiet := s.modAlarm fun a => { a with suppressed := false }
    (∀ src, first src →
      (∃ t, exec .claim s = .next t ∧ t.alarm.inService = s.alarm.inService ++ [src] ∧
        t.alarm.pending[src] = false ∧ t.alarm.suppressed = false ∧ Signals s (t.modLink fun _ => s.link) ∧
        (∀ x : Source, x ≠ src → x ≠ Source.backlog → t.alarm.pending[x] = s.alarm.pending[x]) ∧
        Replied 0x58 .ok (.alarm (some (report src))) s t) ∧
      exec .peek s = .next (reply 0x59 .ok (.alarm (some (report src))) quiet)) ∧
    ((∀ src, eligible s src = false) →
      exec .claim s = .next (reply 0x58 .ok (.alarm none) quiet) ∧
      exec .peek s = .next (reply 0x59 .ok (.alarm none) quiet))) ∧
  (∀ (s : State) (source : Nat), s.alarm.inService.Nodup →
    (∀ src : Source, src ∈ s.alarm.inService →
      (source = src.val + 1 ∨ (source = 0 ∧ s.alarm.inService.getLast? = some src)) → src ≠ Source.backlog →
      ∃ t, exec (.complete source) s = .next t ∧ t.alarm.inService = s.alarm.inService.erase src ∧
        t.alarm.condition[src] = s.alarm.condition[src] ∧
        t.alarm.pending[src] =
          (s.alarm.pending[src] || (decide (Source.kind src = .level) && s.alarm.condition[src])) ∧
        Signals s (t.modLink fun _ => s.link) ∧
        (∀ x : Source, x ≠ src → x ≠ Source.backlog → t.alarm.pending[x] = s.alarm.pending[x]) ∧
        Replied 0x5A .ok (.completed src (notificationLevel t)) s t) ∧
    (source ≤ 115 → (source = 0 → s.alarm.inService = []) →
      (∀ src ∈ s.alarm.inService, source ≠ src.val + 1) →
      exec (.complete source) s = .next (reply 0x5A .state .empty s)) ∧
    (115 < source → exec (.complete source) s = .next (reply 0x5A .param .empty s)))

/-- WHO_CALLS: a broadcast starts the count to the part's slot; at the slot a part that drives the attention line, has
heard nothing and has an address answers and sets its suppression, and any other sends nothing; addressed, it is
answered with what a PEEK would return. A message within the wait, shown of five requests and a broadcast, is activity,
so the slot stays silent (that a message command stands for a frame on the line, a slot that nothing waits for, the
record of bytes sent and address 0 are the model's choices, notes/assumptions/5.md, 17.md, 18.md and 24.md). -/
def Obligations.WhoCallsFindsTheCaller : Prop :=
  ∀ (s : State),
    exec .whoCalls s = .next (s.modLink fun l => { l with slot := some false }) ∧
    (s.link.slot = none → exec .slotAnswer s = .next s) ∧
    (s.link.slot = some true ∨
        (s.link.slot = some false ∧ (attentionDriven s = false ∨ s.link.node = 0)) →
      exec .slotAnswer s = .next (s.modLink fun l => { l with slot := none })) ∧
    (s.link.slot = some false → attentionDriven s = true → s.link.node ≠ 0 →
      ∃ (t : State) (src : Source), exec .slotAnswer s = .next t ∧ claimable s = some src ∧
        t = (s.modLink fun l => { l with
          slot := none
          sent := withCrc [BitVec.ofNat 8 s.link.node.toNat, 4, 4, 0, BitVec.ofNat 8 (src.val + 1),
            BitVec.ofNat 8 (priority s src)] }).modAlarm fun a => { a with suppressed := true }) ∧
    exec .whoCallsAddressed s =
      .next (reply 0x04 .ok
        (.calling (attentionDriven s) s.alarm.suppressed ((claimable s).map (alarmReport s))) s) ∧
    (s.link.slot = some false → ∀ c ∈ [Instr.alarmStatus, .peek, .claim, .identify, .restart, .setTime true 0 0],
      ∃ t, exec c s = .next t ∧ t.link.slot = some true ∧
        exec .slotAnswer t = .next (t.modLink fun l => { l with slot := none }))

/-- SET_SOURCE applies a priority, at most 7, and an enable to a range of sources, with one CONFIG record of the first
source; it is refused with STATE where the priority of a source in service would change, and with PARAM outside its
ranges (that the message carries YES as 1 and NO as 2 is the model's reading of R199, notes/assumptions/19.md).
SET_THRESHOLD stores the threshold, at most 7, with one CONFIG record of it, and leaves the sources' pending flags and
the in-service list; the notification level is then the higher of the threshold and the newest entry's priority. (A
record is stated where the journal has room, as everywhere.) -/
def Obligations.SourceSettingsAndThreshold : Prop :=
  (∀ (s : State) (first last : Source) (prio : Nat) (enable : Bool),
    let message := Instr.setSource (first.val + 1) (last.val + 1) prio (if enable then 1 else 2)
    let inRange := fun (src : Source) => first ≤ src ∧ src ≤ last
    (first ≤ last → (∀ src ∈ s.alarm.inService, inRange src → priority s src = min 7 prio) →
      ∃ t, exec message s = .next t ∧ Frame [.settings, .link] [] s t ∧
        t.store = { s.store with
          sources := Vector.ofFn fun src => if inRange src then ⟨min 7 prio, enable⟩ else s.store.sources[src] } ∧
        Recorded .config (first.val + 1) 0 (.kind 0x17) s t ∧
        Replied 0x17 (if 7 < prio then .adjusted else .ok) (.source first last ⟨min 7 prio, enable⟩) s t) ∧
    (first ≤ last → (∃ src ∈ s.alarm.inService, inRange src ∧ priority s src ≠ min 7 prio) →
      exec message s = .next (reply 0x17 .state .empty s)) ∧
    (last < first → exec message s = .next (reply 0x17 .param .empty s)) ∧
    ∀ (x y e : Nat), x = 0 ∨ 115 < x ∨ y = 0 ∨ 115 < y ∨ e = 0 ∨ 2 < e →
      exec (.setSource x y prio e) s = .next (reply 0x17 .param .empty s)) ∧
  (∀ (s : State) (threshold : Nat),
    ∃ t, exec (.setThreshold threshold) s = .next t ∧ Frame [.settings, .link] [] s t ∧
      t.store = { s.store with threshold := min 7 threshold } ∧
      notificationLevel t =
        (match s.alarm.inService.getLast? with
         | none => min 7 threshold
         | some src => max (min 7 threshold) (priority s src)) ∧
      ((∃ src, eligible t src = true ∧ eligible s src = false) → t.alarm.suppressed = false) ∧
      Recorded .config 0 0 (.value (min 7 threshold)) s t ∧
      Replied 0x18 (if 7 < threshold then .adjusted else .ok) (.threshold (min 7 threshold)) s t)

/-- The in-service list holds sources of strictly rising priority above 0 and of at most 7, so at most seven. -/
def Obligations.StepKeepsInServiceRising : Prop :=
  ∀ (s : State), InServiceRising s → ∃ t, step s = .next t ∧ InServiceRising t

/-- A LEVEL source is pending exactly while its recorded condition is true and it is not in service (stated over the
states whose in-service list is one that claims can make: it holds no source twice). -/
def Obligations.StepKeepsPendingFollows : Prop :=
  ∀ (s : State), InServiceRising s → PendingFollows s → ∃ t, step s = .next t ∧ PendingFollows t

/-- An annunciator output is on exactly while it is called for and not silenced. A test run makes one check at a time,
the supply's before any circuit's. -/
def Obligations.StepKeepsOutputsAndOneCheck : Prop :=
  (∀ (s : State), OutputsFollow s → ∃ t, step s = .next t ∧ OutputsFollow t) ∧
  ∀ (s : State), OneCheck s → ∃ t, step s = .next t ∧ OneCheck t

/-! ## Chapters 9 and 10: line supervision and the journal -/

/-- LINE_TEST starts a HOST run over the selected circuits, but is refused while a run is RUNNING or a release circuit
is energized; the periodic expiry restarts its timer and in the same cases starts nothing, else a PERIODIC run over the
circuits that are not flagged (a stopped timer's expiry does nothing, and a selection above circuit 15 is refused:
notes/assumptions/17.md and 14.md). LINE_CLEAR clears the flags of the selected circuits and the selected SUPPLY flag,
ends the conditions of what it clears, and answers the flags that stand; an empty selection is refused, and one above
bit 16 (the model's choice, notes/assumptions/14.md). An arrival of firing current sets the mark of a running check,
else nothing. -/
def Obligations.LineMessagesAct : Prop :=
  (∀ (s : State) (selection : Nat),
    let fresh := fun (kind : RunKind) (set : CircuitNo → Bool) =>
      (⟨.running, kind, .testing, Vector.ofFn fun c => if set c then .waiting else .notInRun⟩ : RunRecord)
    let busy := s.line.run.state = .running ∨ ∃ z : Zone, s.release[z].firing.isSome = true
    let timer := if s.store.testInterval = 0 then none else some (60 * s.store.testInterval)
    (selection ≠ 0 ∧ selection < 2 ^ 16 →
      (¬ busy → exec (.lineTest selection) s =
        .next (reply 0x60 .ok .empty (s.modRun fun _ => fresh .host fun c => selection.testBit c.val))) ∧
      (busy → exec (.lineTest selection) s = .next (reply 0x60 .state .empty s))) ∧
    (selection = 0 ∨ 2 ^ 16 ≤ selection → exec (.lineTest selection) s = .next (reply 0x60 .param .empty s)) ∧
    (s.line.periodic.isSome = true → exec .periodicTimerExpiry s = .next (s.modLine fun l =>
      { l with
        periodic := timer
        run := if busy then l.run
               else fresh .periodic fun c => !(l.flags[c].shortFlag || l.flags[c].openFlag) })) ∧
    (s.line.periodic = none → exec .periodicTimerExpiry s = .next s)) ∧
  (∀ (s : State) (selection : Nat) (f : Fin 8),
    (selection ≠ 0 ∧ selection < 2 ^ 17 →
      ∃ t, exec (.lineClear selection) s = .next t ∧ Frame [.flags, .supply, .link] lineSources s t ∧
        (∀ c : CircuitNo, t.line.flags[c] =
          if selection.testBit c.val then ⟨false, false⟩ else s.line.flags[c]) ∧
        t.line.supply = (s.line.supply && !selection.testBit 16) ∧
        (∀ c : CircuitNo, selection.testBit c.val = true → t.alarm.condition[Source.circuit c] = false) ∧
        (selection.testBit 16 = true → t.alarm.condition[Source.supply] = false) ∧
        Replied 0x62 .ok (.lineFlags t.line.flags t.line.supply) s t) ∧
    (selection = 0 ∨ 2 ^ 17 ≤ selection → exec (.lineClear selection) s = .next (reply 0x62 .param .empty s)) ∧
    exec (.currentArrival f) s = .next (if s.line.checks[f].isSome = true then
      s.modLine fun l => { l with checks := upd l.checks f fun _ => some true } else s))

/-- A test step's end. A faulty supply sets SUPPLY, writes its record, skips the waiting circuits and ends the run with
LINE_RESULT DONE; a sound one passes the turn on. A short sets the circuit's SHORT flag and result, writes its record
and passes the turn on; no short goes on to the OPEN check; an open sets OPEN, writes its record and passes the turn on,
and none passes the circuit with the flags as they were and the turn on. The turn goes to the first waiting circuit, in
number order, that is neither flagged nor an annunciator whose output is on, those before it reading SKIPPED_FLAGGED or
SKIPPED_ON, and where there is none the run ends with LINE_RESULT DONE. The end of a step whose check is not the one in
progress does nothing (that the step's end names its check is the model's choice, notes/assumptions/30.md). What a found
fault does before its record touches the flags and the line supervisor's sources alone, and in the run record, as long
as one check is in progress, the result of that check alone. -/
def Obligations.TestStepsTakeResults : Prop :=
  ∀ (s : State) (faulty : Bool) (c : CircuitNo),
    (checkInProgress s = some .supply → faulty = true →
      ∃ t v, exec (.testStepEnd ⟨.supply, faulty⟩) s = .next t ∧ Frame [.flags, .supply] lineSources s t ∧
        t = write .lineResult 0 0 .lineDone ((write .lineResult 0 0 .lineSupply v).modRun fun run =>
          { run with
            state := .done
            results := run.results.map fun r => if r = .waiting then .skippedSupply else r }) ∧
        Frame [.supply] lineSources s v ∧ v.line.supply = true ∧ v.line.run.supply = .failed ∧
        (OneCheck s → v.line.run = { s.line.run with supply := .failed } ∧ v.journal = s.journal) ∧
        t.line.supply = true ∧ t.line.run.state = .done ∧
        t.line.run.supply = .failed ∧ t.line.flags = s.line.flags ∧
        t.alarm.condition[Source.supply] = true ∧
        ((∀ x : CircuitNo, s.line.run.results[x] = .waiting ∨ s.line.run.results[x] = .notInRun) →
          ∀ x : CircuitNo, s.line.run.results[x] = .waiting → t.line.run.results[x] = .skippedSupply)) ∧
    (checkInProgress s = some .supply → faulty = false →
      ∃ t, exec (.testStepEnd ⟨.supply, faulty⟩) s = .next t ∧ Frame [.flags, .supply] lineSources s t ∧
        TurnPassed (s.modRun fun run => { run with supply := .passed }) t ∧
        t.line.supply = s.line.supply ∧
        t.line.run.supply = .passed ∧ t.line.flags = s.line.flags) ∧
    (checkInProgress s = some (.short c) → faulty = true →
      ∃ t v, exec (.testStepEnd ⟨.short c, faulty⟩) s = .next t ∧ Frame [.flags, .supply] lineSources s t ∧
        TurnPassed (write .lineResult c.val 0 .lineShort v) t ∧
        Frame [.flags] lineSources s v ∧
        v.line.run.results[c] = .shortFound ∧ t.line.run.results[c] = .shortFound ∧
        (OneCheck s → v.journal = s.journal ∧
          v.line.run = { s.line.run with results := upd s.line.run.results c fun _ => .shortFound }) ∧
        t.alarm.condition[Source.circuit c] = true ∧
        t.line.flags = upd s.line.flags c fun f => { f with shortFlag := true }) ∧
    (checkInProgress s = some (.short c) → faulty = false →
      exec (.testStepEnd ⟨.short c, faulty⟩) s =
        .next (s.modRun fun run => { run with results := upd run.results c fun _ => .testingOpen })) ∧
    (checkInProgress s = some (.opened c) → faulty = true →
      ∃ t v, exec (.testStepEnd ⟨.opened c, faulty⟩) s = .next t ∧ Frame [.flags, .supply] lineSources s t ∧
        TurnPassed (write .lineResult c.val 0 .lineOpen v) t ∧
        Frame [.flags] lineSources s v ∧
        v.line.run.results[c] = .openFound ∧ t.line.run.results[c] = .openFound ∧
        (OneCheck s → v.journal = s.journal ∧
          v.line.run = { s.line.run with results := upd s.line.run.results c fun _ => .openFound }) ∧
        t.alarm.condition[Source.circuit c] = true ∧
        t.line.flags = upd s.line.flags c fun f => { f with openFlag := true }) ∧
    (checkInProgress s = some (.opened c) → faulty = false →
      ∃ t, exec (.testStepEnd ⟨.opened c, faulty⟩) s = .next t ∧ Frame [.flags, .supply] lineSources s t ∧
        TurnPassed (s.modRun fun run => { run with results := upd run.results c fun _ => .passed }) t ∧
        t.line.run.results[c] = .passed ∧
        t.line.flags = s.line.flags) ∧
    ∀ check : CheckInProgress, checkInProgress s ≠ some check →
      exec (.testStepEnd ⟨check, faulty⟩) s = .next s

/-- JOURNAL_READ answers, oldest first, the retained records from the starting point up to the count, with GAP where
records from there onward were overwritten; it changes nothing. A count of 0 or above 15 is refused. JOURNAL_ACK moves
the boundary forward and gives the backlog condition, or at or below the boundary changes nothing; the reply carries the
newest sequence, the oldest retained, the boundary and the backlog. A sequence above the newest is refused. -/
def Obligations.JournalIsReadAndAcknowledged : Prop :=
  (∀ (s : State) (start count : Nat), JournalContiguous s →
    let oldest := max 1 (s.journal.newest - 1023)
    let point := max start oldest
    (1 ≤ count ∧ count ≤ 15 →
      ∃ records : List Record,
        exec (.journalRead start count) s =
          .next (reply 0x68 .ok (.journal (decide (start < oldest ∧ 1 < oldest)) records) s) ∧
        records.map Record.sequence = List.range' point (min count (s.journal.newest + 1 - point)) ∧
        ∀ r ∈ records, r ∈ s.journal.ring) ∧
    (count = 0 ∨ 15 < count → exec (.journalRead start count) s = .next (reply 0x68 .param .empty s))) ∧
  (∀ (s : State) (sequence : Nat),
    let oldest := fun (t : State) => if t.journal.newest = 0 then 0 else max 1 (t.journal.newest - 1023)
    let answer := fun (t : State) =>
      reply 0x69 .ok
        (.journalPosition t.journal.newest (oldest t) t.journal.boundary (t.journal.newest - t.journal.boundary)) t
    (s.journal.newest < sequence → exec (.journalAck sequence) s = .next (reply 0x69 .param .empty s)) ∧
    (sequence ≤ s.journal.newest → sequence ≤ s.journal.boundary →
      exec (.journalAck sequence) s = .next (answer s)) ∧
    (sequence ≤ s.journal.newest → s.journal.boundary < sequence →
      let moved := { s with journal := { s.journal with boundary := sequence } }
      exec (.journalAck sequence) s =
        .next (answer (setCondition Source.backlog (decide (896 ≤ s.journal.newest - sequence)) moved))))

/-- The ring holds the newest 1024 records, each sequence once and rising by one. -/
def Obligations.StepKeepsJournalContiguous : Prop :=
  ∀ (s : State), JournalContiguous s → ∃ t, step s = .next t ∧ JournalContiguous t

/-! ## Chapter 11: settings, queries, the link -/

/-- SET_INPUT stores the active level and the two times, at most 63, and restarts the input's conditioning in progress
(what counts as a first conditioned value is the model's choice, notes/assumptions/15.md). SET_DETECTOR stores a
channel's settings, the threshold at most 4095 and the hysteresis at most the threshold; a channel put in zone 0 comes
to rest, any other change restarts the arming count of an unlatched one. Moving a channel from or to a zone that is
neither NORMAL, ALERTED nor DISABLED is refused with STATE. SET_ZONE stores a zone's settings, each number at the nearer
end of its range, outside the release span; inside it the message is refused with STATE, and a named value that does not
exist with PARAM. SET_DOOR stores a SECURED door's settings and the drive's motion slots, each number at the nearer end
of its range and SECURE for a bolt; a door that joins a zone in an egress state goes under its override. A door that is
not SECURED or under an override, or fewer slots than motions in progress, is refused with STATE. -/
def Obligations.FieldSettingsAreStored : Prop :=
  (∀ (s : State) (input level debounce validation : Nat),
    (∀ (i : InputNo) (l : Level), input = i.val → Level.ofCode level = some l →
      let v : InputSettings := ⟨l, min 63 debounce, min 63 validation⟩
      let back :=
        match s.inputs[i].phase with
        | .debounceOn => Phase.idle
        | .validate => .idle
        | .debounceOff => .on
        | p => p
      let p := phaseAfterRaw (inputMode s i) (decide (debounce = 0)) (decide (validation = 0))
        (decide (s.inputs[i].raw = l)) back
      ∃ t, exec (.setInput input level debounce validation) s = .next t ∧
        Frame ([.settings, .link] ++ inputParts) inputSources s t ∧
        SameSettings { s.store with inputs := upd s.store.inputs i fun _ => v } t.store ∧
        t.inputs = (upd s.inputs i fun w => ⟨w.raw, p, w.first || Phase.atRest p⟩) ∧
        Replied 0x10 (if 63 < debounce ∨ 63 < validation then .adjusted else .ok) (.input i v) s t) ∧
    (GateFollows s → 48 ≤ input ∨ Level.ofCode level = none →
      exec (.setInput input level debounce validation) s = .next (reply 0x10 .param .empty s))) ∧
  (∀ (s : State) (channel zone loop threshold hysteresis : Nat),
    let message := Instr.setDetector channel zone loop threshold hysteresis
    (∀ (c : ChannelNo) (z : Option Zone) (l : Loop), channel = c.val → zoneSetting zone = some z →
      Loop.ofCode loop = some l →
      let v : DetectorSettings := ⟨z, l, min 4095 threshold, min (min 4095 threshold) hysteresis⟩
      let old := s.store.detectors[c]
      let busy := fun (x : Option Zone) => ∃ y : Zone, x = some y ∧ s.release[y].state ≠ .normal ∧
        s.release[y].state ≠ .alerted ∧ s.release[y].state ≠ .disabled
      let kept := old.zone ≠ z ∧ (busy old.zone ∨ busy z)
      (¬ kept → ∃ t, exec message s = .next t ∧
        Frame ([.settings, .link, .channels] ++ detectionParts) detectionSources s t ∧
        SameSettings { s.store with detectors := upd s.store.detectors c fun _ => v } t.store ∧
        t.channels = (upd s.channels c fun ch =>
          if z = none ∧ old.zone ≠ none then
            { ch with arming := 0, latch := false, outRun := 0, inRun := 0, fault := .clear }
          else if old = v ∨ ch.latch = true then ch else { ch with arming := 0 }) ∧
        t.alarm.condition[Source.detectorFault c] = decide (t.channels[c].fault ≠ .clear) ∧
        Replied 0x11 (if 4095 < threshold ∨ min 4095 threshold < hysteresis then .adjusted else .ok)
          (.detector c v) s t) ∧
      (GateFollows s → kept → exec message s = .next (reply 0x11 .state .empty s))) ∧
    (GateFollows s → 16 ≤ channel ∨ zoneSetting zone = none ∨ Loop.ofCode loop = none →
      exec message s = .next (reply 0x11 .param .empty s))) ∧
  (∀ (s : State) (r : ZoneRequest),
    (∀ (z : Zone) (abort : AbortMode) (occupied : OccupiedRelease) (present auto single : Bool) (passback : Passback),
      r.zone = z.val + 1 → AbortMode.ofCode r.abortMode = some abort →
      OccupiedRelease.ofCode r.occupiedRelease = some occupied → YesNo.ofCode r.reservePresent = some present →
      YesNo.ofCode r.reserveAuto = some auto → YesNo.ofCode r.singleKnock = some single →
      Passback.ofCode r.passback = some passback →
      let hold := max 1000 (min 10000 r.holdThreshold)
      let v : ZoneSettings :=
        { countdown := max 10 (min 60 r.countdown)
          manualDelay := min 30 r.manualDelay
          abortMode := abort
          doorHoldMax := min 120 r.doorHoldMax
          occupiedRelease := occupied
          occupancyHoldMax := max 30 (min 600 r.occupancyHoldMax)
          firingTime := max 1 (min 10 r.firingTime)
          reservePresent := present
          reserveAuto := auto
          singleKnock := single
          soakConstant := min 65535 r.soakConstant
          ventConstant := min 65535 r.ventConstant
          doorConstant := min 65535 r.doorConstant
          holdThreshold := hold
          reentryThreshold := min (hold - 1) r.reentryThreshold
          minimumSoak := max 6 (min 360 r.minimumSoak)
          reserveFraction := min 10000 r.reserveFraction
          custodyWindow := max 5 (min 60 r.custodyWindow)
          passback := passback
          loneTime := max 1 (min 120 r.loneTime)
          openingSchedule := ⟨min 15 r.openingSchedule, by omega⟩ }
      (ReleaseState.inSpan s.release[z].state = false → ∃ t, exec (.setZone r) s = .next t ∧
        Frame ([.settings, .link] ++ periodParts ++ detectionParts) detectionSources s t ∧
        SameSettings { s.store with zones := upd s.store.zones z fun _ => v } t.store ∧
        Replied 0x12 (if ZoneRequest.numbers r = ZoneSettings.numbers v then .ok else .adjusted) (.zone z v) s t) ∧
      (GateFollows s → ReleaseState.inSpan s.release[z].state = true →
        exec (.setZone r) s = .next (reply 0x12 .state .empty s))) ∧
    (GateFollows s → r.zone = 0 ∨ 4 < r.zone ∨ AbortMode.ofCode r.abortMode = none ∨
        OccupiedRelease.ofCode r.occupiedRelease = none ∨ YesNo.ofCode r.reservePresent = none ∨
        YesNo.ofCode r.reserveAuto = none ∨ YesNo.ofCode r.singleKnock = none ∨ Passback.ofCode r.passback = none →
      exec (.setZone r) s = .next (reply 0x12 .param .empty s))) ∧
  (∀ (s : State) (r : DoorRequest),
    (∀ (n : DoorNo) (inside outside : Option Zone) (lock : LockKind) (fail : FailMode) (custody : CustodyRule),
      r.door = n.val → zoneSetting r.inside = some inside → zoneSetting r.outside = some outside →
      LockKind.ofCode r.lock = some lock → FailMode.ofCode r.fail = some fail →
      CustodyRule.ofCode r.custody = some custody → r.group ≤ 4 → (inside = outside → inside = none) →
      let slots := max 1 (min 3 r.slots)
      let v : DoorSettings :=
        { inside := inside
          outside := outside
          lock := lock
          fail := if lock = .motorBolt then .secure else fail
          unlockWindow := max 1 (min 30 r.unlockWindow)
          heldTime := max 5 (min 600 r.heldTime)
          boltTime := max 2 (min 20 r.boltTime)
          group := r.group
          custody := custody }
      let old := s.store.doors[n]
      let takes := s.doors[n].state = .secured ∧ overridden s n = false ∧ motionsInProgress s ≤ slots
      let same := r.unlockWindow = v.unlockWindow ∧ r.heldTime = v.heldTime ∧ r.boltTime = v.boltTime ∧
        r.slots = slots ∧ fail = v.fail
      let joins := ∃ z : Zone, inside = some z ∧ old.inside ≠ some z ∧ ReleaseState.isEgress s.release[z].state = true
      (takes → ∃ t, exec (.setDoor r) s = .next t ∧
        Frame [.settings, .link, .doors, .custody] doorSources s t ∧
        t.store = { s.store with doors := upd s.store.doors n fun _ => v, slots := slots } ∧
        t.custody = (upd s.custody n fun w => if old.custody = custody ∧ old.inside = inside then w else none) ∧
        (joins → t.doors[n].egress = true) ∧ (¬ joins → t.doors[n].egress = false) ∧
        (¬ joins → old.lock = .strike → lock = .motorBolt → boltThrown s n = false →
          t.doors[n].state = .securing) ∧
        Replied 0x13 (if same then .ok else .adjusted) (.door n v slots) s t) ∧
      (¬ takes → exec (.setDoor r) s = .next (reply 0x13 .state .empty s))) ∧
    (8 ≤ r.door ∨ zoneSetting r.inside = none ∨ zoneSetting r.outside = none ∨ LockKind.ofCode r.lock = none ∨
        FailMode.ofCode r.fail = none ∨ CustodyRule.ofCode r.custody = none ∨ 4 < r.group ∨
        (r.inside = r.outside ∧ r.inside ≠ 0) →
      exec (.setDoor r) s = .next (reply 0x13 .param .empty s)))

/-- SET_LINK stores the receive timeout and the test interval, at most 240 minutes; a changed interval restarts the
periodic timer, or with 0 stops it. SET_READER stores a reader's door, direction and PIN policy. SET_STAFF stores a
staff channel's zone and kind; a change between LATCH and FOLLOW mode moves the input's phase. SET_OUTPUT stores an
output's source list, mode and silenceable setting, clears its silence and re-evaluates it; any other output keeps its
state, one that lists source 115 apart. -/
def Obligations.UnitSettingsAreStored : Prop :=
  (∀ (s : State) (timeout interval : Nat),
    let minutes := min 240 interval
    ∃ t, exec (.setLink timeout interval) s = .next t ∧ Frame [.settings, .periodic, .link] [] s t ∧
      t.store = { s.store with receiveTimeout := timeout, testInterval := minutes } ∧
      t.line.periodic =
        (if s.store.testInterval = minutes then s.line.periodic
         else if minutes = 0 then none else some (60 * minutes)) ∧
      Replied 0x07 (if 240 < interval then .adjusted else .ok) (.link timeout minutes) s t) ∧
  (∀ (s : State) (reader door direction policy : Nat),
    (∀ (r : ReaderNo) (n : DoorNo) (d : Direction) (p : PinPolicy), reader = r.val → door = n.val →
      Direction.ofCode direction = some d → PinPolicy.ofCode policy = some p →
      ∃ t, exec (.setReader reader door direction policy) s = .next t ∧ Frame [.settings, .link] [] s t ∧
        t.store = { s.store with readers := upd s.store.readers r fun _ => ⟨n, d, p⟩ } ∧
        Replied 0x14 .ok (.reader r ⟨n, d, p⟩) s t) ∧
    (8 ≤ reader ∨ 8 ≤ door ∨ Direction.ofCode direction = none ∨ PinPolicy.ofCode policy = none →
      exec (.setReader reader door direction policy) s = .next (reply 0x14 .param .empty s))) ∧
  (∀ (s : State) (channel zone kind : Nat),
    (∀ (n : StaffNo) (z : Option Zone) (k : StaffKind), channel = n.val → zoneSetting zone = some z →
      StaffKind.ofCode kind = some k →
      let i := staffInput n
      let set := s.store.inputs[i]
      let moved : InputState → InputState := fun v =>
        match inputMode s i, StaffKind.mode k, v.phase with
        | .latch, .follow, .latched =>
          let p := phaseAfterRaw .follow (decide (set.debounce = 0)) (decide (set.validation = 0))
            (decide (v.raw = set.active)) .on
          { v with phase := p }
        | .follow, .latch, .on => { v with phase := .latched }
        | .follow, .latch, .debounceOff => { v with phase := .latched }
        | _, _, _ => v
      ∃ t, exec (.setStaff channel zone kind) s = .next t ∧ Frame [.settings, .link, .inputs] [] s t ∧
        t.store = { s.store with staff := upd s.store.staff n fun _ => ⟨z, k⟩ } ∧
        t.inputs = upd s.inputs i moved ∧ Replied 0x15 .ok (.staff n ⟨z, k⟩) s t) ∧
    (16 ≤ channel ∨ zoneSetting zone = none ∨ StaffKind.ofCode kind = none →
      exec (.setStaff channel zone kind) s = .next (reply 0x15 .param .empty s))) ∧
  (∀ (s : State) (output : Nat) (sources : List Nat) (mode silenceable : Nat),
    let listed := sources.length ≤ 16 ∧ sources.Nodup ∧ ∀ x ∈ sources, 1 ≤ x ∧ x ≤ 115
    (∀ (o : OutputNo) (m : OutputMode) (b : Bool), output = o.val → listed → OutputMode.ofCode mode = some m →
      YesNo.ofCode silenceable = some b →
      ∃ (t : State) (list : List Source), exec (.setOutput output sources mode silenceable) s = .next t ∧
        list.map (fun src => src.val + 1) = sources ∧ Frame [.settings, .link] [] s t ∧
        t.store = { s.store with outputs := upd s.store.outputs o fun _ => ⟨list, m, b⟩ } ∧
        t.outputs[o] = ⟨false, calledFor t o⟩ ∧
        (∀ x : OutputNo, x ≠ o → Source.backlog ∉ s.store.outputs[x].sources → t.outputs[x] = s.outputs[x]) ∧
        Replied 0x16 .ok (.output o ⟨list, m, b⟩) s t) ∧
    (8 ≤ output ∨ ¬ listed ∨ OutputMode.ofCode mode = none ∨ YesNo.ofCode silenceable = none →
      exec (.setOutput output sources mode silenceable) s = .next (reply 0x16 .param .empty s)))

/-- The status messages, IDENTIFY, ECHO and an unknown kind are answered and change nothing else; LINE_STATUS draws a
free value (notes/assumptions/10.md). DETECTOR_READ answers the channel as it stood, then clears the peak if asked; a
channel above 15 is refused. GET_CONFIG answers the stored settings of an item of each settings kind, and changes
nothing. As bytes, a JOURNAL_READ reply is 241 long, its first the count with GAP in the top bit and then sixteen for
each record in turn, an OCCUPANCY_READ reply 130 with four for each credential from the third on, a credential record 18
and a journal record 16 (that the places past the count of JOURNAL_READ read 0, and that the certainty flag of
OCCUPANCY_READ is the byte 1 while set and 0 while clear, are the model's choices, notes/assumptions/31.md and 19.md).
-/
def Obligations.QueriesOnlyReply : Prop :=
  (∀ (s : State),
    exec .identify s = .next (reply 0x02 .ok (.identity s.link.foundStored s.link.node s.link.uptime) s) ∧
    exec .getTime s = .next (reply 0x06 .ok (.time (timeReport s)) s) ∧
    exec .inputStatus s = .next (reply 0x51 .ok (.inputs (Vector.ofFn (inputReport s))) s) ∧
    exec .alarmStatus s = .next (reply 0x5B .ok (.alarmStatus (alarmStatusReport s)) s) ∧
    exec .lineStatus s = .next { reply 0x61 .ok (.lineReport (lineReport s)) s with free := s.free + 1 } ∧
    (∀ z : Zone, exec (.zoneStatus (z.val + 1)) s = .next (reply 0x36 .ok (.zoneReport (zoneReport s z)) s)) ∧
    (∀ k : Nat, k = 0 ∨ 4 < k → exec (.zoneStatus k) s = .next (reply 0x36 .param .empty s)) ∧
    (∀ n : DoorNo, exec (.doorStatus n.val) s = .next (reply 0x41 .ok (.doorReport (doorReport s n)) s)) ∧
    (∀ k : Nat, 8 ≤ k → exec (.doorStatus k) s = .next (reply 0x41 .param .empty s)) ∧
    (∀ kind : Byte, exec (.unknownKind kind) s = .next (reply kind.toNat .unknownKind .empty s)) ∧
    ∀ payload : List Byte,
      exec (.echo payload) s =
        .next (if payload = [] then reply 0x01 .param .empty s
               else if 249 < payload.length then reply 0x01 .length .empty s
               else reply 0x01 .ok (.bytes payload) s)) ∧
  (∀ (s : State) (channel : Nat) (clearPeak : Bool),
    (∀ h : channel < 16,
      let c : ChannelNo := ⟨channel, h⟩
      let body := ReplyBody.channelReport
        ⟨s.channels[c].last, s.channels[c].latch, s.channels[c].fault, s.channels[c].arming, s.channels[c].peak⟩
      exec (.detectorRead channel clearPeak) s =
        .next (reply 0x37 .ok body
          (if clearPeak then s.modChannel c fun ch => { ch with peak := 0 } else s))) ∧
    (16 ≤ channel → exec (.detectorRead channel clearPeak) s = .next (reply 0x37 .param .empty s))) ∧
  (∀ (s : State),
    let answers := fun (kind item : Nat) (body : ReplyBody) =>
      exec (.getConfig kind item) s = .next (reply 0x1B .ok body s)
    answers 0x07 0 (.link s.store.receiveTimeout s.store.testInterval) ∧
    (∀ i : InputNo, answers 0x10 i.val (.input i s.store.inputs[i])) ∧
    (∀ c : ChannelNo, answers 0x11 c.val (.detector c s.store.detectors[c])) ∧
    (∀ z : Zone, answers 0x12 (z.val + 1) (.zone z s.store.zones[z])) ∧
    (∀ n : DoorNo, answers 0x13 n.val (.door n s.store.doors[n] s.store.slots)) ∧
    (∀ r : ReaderNo, answers 0x14 r.val (.reader r s.store.readers[r])) ∧
    (∀ n : StaffNo, answers 0x15 n.val (.staff n s.store.staff[n])) ∧
    (∀ o : OutputNo, answers 0x16 o.val (.output o s.store.outputs[o])) ∧
    (∀ src : Source, answers 0x17 (src.val + 1) (.source src src s.store.sources[src])) ∧
    answers 0x18 0 (.threshold s.store.threshold) ∧
    (∀ k : ScheduleNo, k ≠ 0 → answers 0x19 k.val (.schedule k s.store.schedules[k])) ∧
    answers 0x1A 0 (.holidays s.store.holidays) ∧
    ∀ (kind item : Nat), kind ≠ 0x07 → kind < 0x10 ∨ 0x1A < kind →
      exec (.getConfig kind item) s = .next (reply 0x1B .param .empty s)) ∧
  (∀ (gap certain : Bool) (records : List Record) (list : List Nat) (c : Credential) (r : Record),
    let journal := bodyBytes (.journal gap records)
    let occupancy := bodyBytes (.occupancy certain list)
    journal.length = 241 ∧ journal[0]? = some (BitVec.ofNat 8 (records.length + if gap then 128 else 0)) ∧
    (∀ k, k < 15 → (journal.drop (1 + 16 * k)).take 16 =
      match records[k]? with | some r => Record.bytes r | none => List.replicate 16 0) ∧
    occupancy.length = 130 ∧ occupancy.take 2 = [if certain then 1 else 0, BitVec.ofNat 8 list.length] ∧
    (∀ k, k < 32 → (occupancy.drop (2 + 4 * k)).take 4 = field 4 (list.getD k 0)) ∧
    (bodyBytes (.credential c)).length = 18 ∧ (Record.bytes r).length = 16)

/-- The framer: an address byte, a length from 1 to 251, the bytes of the body; a frame that fails its CRC, that comes
while a reply is still to be sent, or that is for another station changes nothing beyond it. The last byte of a good
frame addressed to the part runs the command its KIND names, the framer waiting again: shown of every message without
payload, ECHO, the messages of a zone or door number, and an unknown kind (the payload layouts are deduced,
notes/assumptions/6.md). The receive timeout returns a timed framer to WAITING; the reply that waits is sent as its
frame. Neither does anything else (the model's choices, notes/assumptions/17.md, 18.md and 24.md). -/
def Obligations.LinkFramesRunCommands : Prop :=
  (∀ (s : State) (b : Byte), GateFollows s →
    let framed := fun (f : Framer) (timed : Bool) => s.modLink fun l =>
      { l with framer := f, timing := timed && decide (l.limit ≠ 0), slot := l.slot.map fun _ => true }
    (s.link.framer = .waiting →
      exec (.receiveByte b) s = .next (s.modLink fun l =>
        { l with
          framer := .header b
          limit := s.store.receiveTimeout
          timing := decide (s.store.receiveTimeout ≠ 0)
          slot := l.slot.map fun _ => true })) ∧
    (∀ addr : Byte, s.link.framer = .header addr →
      exec (.receiveByte b) s = .next
        (if b.toNat = 0 ∨ 251 < b.toNat then framed .waiting false else framed (.body addr b []) true)) ∧
    ∀ (addr len : Byte) (received : List Byte), s.link.framer = .body addr len received →
      (received.length + 1 ≠ len.toNat + 2 →
        exec (.receiveByte b) s = .next (framed (.body addr len (received ++ [b])) true)) ∧
      (received.length + 1 = len.toNat + 2 →
        withCrc (addr :: len :: received.take len.toNat) ≠ addr :: len :: received ++ [b] ∨
          s.link.reply.isSome = true ∨ (addr ≠ 0 ∧ addr.toNat ≠ s.link.node.toNat) →
        exec (.receiveByte b) s = .next (framed .waiting false))) ∧
  (∀ (s : State) (len b kind : Byte) (payload : List Byte),
    let addr := BitVec.setWidth 8 s.link.node
    let frame := addr :: len :: kind :: payload
    let waiting := s.modLink fun l =>
      { l with framer := .waiting, timing := false, slot := l.slot.map fun _ => true }
    let runs := fun (c : Instr) => exec (.receiveByte b) s = exec c waiting
    GateFollows s → s.link.node ≠ 0 → s.link.reply = none → len.toNat = payload.length + 1 →
    s.link.framer = .body addr len (((kind :: payload) ++ (withCrc frame).drop (payload.length + 3)).dropLast) →
    (withCrc frame).getLast? = some b →
    (kind = 0x01 → runs (.echo payload)) ∧ (kindCodes.contains kind.toNat = false → runs (.unknownKind kind)) ∧
    (payload = [] →
      (kind = 0x02 → runs .identify) ∧ (kind = 0x03 → runs .restart) ∧ (kind = 0x04 → runs .whoCallsAddressed) ∧
      (kind = 0x06 → runs .getTime) ∧ (kind = 0x23 → runs .credentialCount) ∧ (kind = 0x51 → runs .inputStatus) ∧
      (kind = 0x58 → runs .claim) ∧ (kind = 0x59 → runs .peek) ∧ (kind = 0x5B → runs .alarmStatus) ∧
      (kind = 0x61 → runs .lineStatus)) ∧
    ∀ item : Byte, payload = [item] →
      let n := item.toNat
      (kind = 0x31 → runs (.zoneDisable n)) ∧ (kind = 0x32 → runs (.zoneEnable n)) ∧
      (kind = 0x34 → runs (.reserveRelease n)) ∧ (kind = 0x35 → runs (.zoneReset n)) ∧
      (kind = 0x36 → runs (.zoneStatus n)) ∧ (kind = 0x41 → runs (.doorStatus n)) ∧
      (kind = 0x48 → runs (.occupancyRead n)) ∧ (kind = 0x49 → runs (.occupancyConfirm n)) ∧
      (kind = 0x5A → runs (.complete n)) ∧ (kind = 0x5C → runs (.silence n))) ∧
  (∀ (s : State),
    (s.link.timing = true → exec .receiveTimeoutExpiry s =
      .next (s.modLink fun l => { l with framer := .waiting, timing := false })) ∧
    (s.link.timing = false → exec .receiveTimeoutExpiry s = .next s) ∧
    (s.link.reply = none → exec .sendReply s = .next s) ∧
    ∀ r : Reply, s.link.reply = some r →
      exec .sendReply s = .next (s.modLink fun l =>
        { l with sent := replyFrame l.node r, reply := none, slot := l.slot.map fun _ => true }))

/-- The clock reads a time of day, and every stored setting lies in its message's range, as long as the commands that
wait fit the fields that carry them. -/
def Obligations.StepKeepsSettingsInRange : Prop :=
  ∀ (s : State), SettingsInRange s → (∀ c ∈ s.pending, c.wellFormed = true) →
    ∃ t, step s = .next t ∧ SettingsInRange t ∧ ∀ c ∈ t.pending, c.wellFormed = true
end

