-- ==== Sys2Proof/Laws/State.lean ====
section
/-! SUPPORT. One lemma per field per update of the state, each true by definition, so that no proof unfolds a record
update; and the entries of an updated table. -/

namespace Sys2Proof

/-- The changed entry of an updated table. -/
@[simp] theorem upd_same {α : Type} {n : Nat} (v : Vector α n) (i : Fin n) (f : α → α) : (upd v i f)[i] = f v[i] := by
  simp [upd]

/-- Every entry of an updated table. -/
theorem upd_get {α : Type} {n : Nat} (v : Vector α n) (i j : Fin n) (f : α → α) :
    (upd v i f)[j] = if i = j then f v[i] else v[j] := by
  simp only [upd, Fin.getElem_fin, Vector.getElem_set, Fin.ext_iff]

/-- An entry that was not changed. -/
theorem upd_other {α : Type} {n : Nat} (v : Vector α n) (i j : Fin n) (f : α → α) (h : i ≠ j) :
    (upd v i f)[j] = v[j] := by
  rw [upd_get, if_neg h]

/-- Two changes of one entry are one. -/
theorem upd_upd {α : Type} {n : Nat} (v : Vector α n) (i : Fin n) (f g : α → α) :
    upd (upd v i f) i g = upd v i fun a => g (f a) := by
  apply Vector.ext
  intro j hj
  have := upd_get (upd v i f) i ⟨j, hj⟩ g
  have := upd_get v i ⟨j, hj⟩ f
  have := upd_get v i ⟨j, hj⟩ fun a => g (f a)
  simp_all only [Fin.getElem_fin]
  split <;> simp_all

end Sys2Proof

namespace Sys2Proof.Machine

/-! ### State.modInput -/

@[simp] theorem State.modInput_pending (s : State) (i : InputNo) (f : InputState → InputState) :
    (s.modInput i f).pending = s.pending := rfl
@[simp] theorem State.modInput_free (s : State) (i : InputNo) (f : InputState → InputState) :
    (s.modInput i f).free = s.free := rfl
@[simp] theorem State.modInput_store (s : State) (i : InputNo) (f : InputState → InputState) :
    (s.modInput i f).store = s.store := rfl
@[simp] theorem State.modInput_journal (s : State) (i : InputNo) (f : InputState → InputState) :
    (s.modInput i f).journal = s.journal := rfl
@[simp] theorem State.modInput_inputs (s : State) (i : InputNo) (f : InputState → InputState) :
    (s.modInput i f).inputs = upd s.inputs i f := rfl
@[simp] theorem State.modInput_channels (s : State) (i : InputNo) (f : InputState → InputState) :
    (s.modInput i f).channels = s.channels := rfl
@[simp] theorem State.modInput_detection (s : State) (i : InputNo) (f : InputState → InputState) :
    (s.modInput i f).detection = s.detection := rfl
@[simp] theorem State.modInput_release (s : State) (i : InputNo) (f : InputState → InputState) :
    (s.modInput i f).release = s.release := rfl
@[simp] theorem State.modInput_estimate (s : State) (i : InputNo) (f : InputState → InputState) :
    (s.modInput i f).estimate = s.estimate := rfl
@[simp] theorem State.modInput_doors (s : State) (i : InputNo) (f : InputState → InputState) :
    (s.modInput i f).doors = s.doors := rfl
@[simp] theorem State.modInput_queue (s : State) (i : InputNo) (f : InputState → InputState) :
    (s.modInput i f).queue = s.queue := rfl
@[simp] theorem State.modInput_motions (s : State) (i : InputNo) (f : InputState → InputState) :
    (s.modInput i f).motions = s.motions := rfl
@[simp] theorem State.modInput_gateClosed (s : State) (i : InputNo) (f : InputState → InputState) :
    (s.modInput i f).gateClosed = s.gateClosed := rfl
@[simp] theorem State.modInput_clock (s : State) (i : InputNo) (f : InputState → InputState) :
    (s.modInput i f).clock = s.clock := rfl
@[simp] theorem State.modInput_period (s : State) (i : InputNo) (f : InputState → InputState) :
    (s.modInput i f).period = s.period := rfl
@[simp] theorem State.modInput_readers (s : State) (i : InputNo) (f : InputState → InputState) :
    (s.modInput i f).readers = s.readers := rfl
@[simp] theorem State.modInput_custody (s : State) (i : InputNo) (f : InputState → InputState) :
    (s.modInput i f).custody = s.custody := rfl
@[simp] theorem State.modInput_occupancy (s : State) (i : InputNo) (f : InputState → InputState) :
    (s.modInput i f).occupancy = s.occupancy := rfl
@[simp] theorem State.modInput_loneTimer (s : State) (i : InputNo) (f : InputState → InputState) :
    (s.modInput i f).loneTimer = s.loneTimer := rfl
@[simp] theorem State.modInput_loneOutrun (s : State) (i : InputNo) (f : InputState → InputState) :
    (s.modInput i f).loneOutrun = s.loneOutrun := rfl
@[simp] theorem State.modInput_alarm (s : State) (i : InputNo) (f : InputState → InputState) :
    (s.modInput i f).alarm = s.alarm := rfl
@[simp] theorem State.modInput_outputs (s : State) (i : InputNo) (f : InputState → InputState) :
    (s.modInput i f).outputs = s.outputs := rfl
@[simp] theorem State.modInput_line (s : State) (i : InputNo) (f : InputState → InputState) :
    (s.modInput i f).line = s.line := rfl
@[simp] theorem State.modInput_link (s : State) (i : InputNo) (f : InputState → InputState) :
    (s.modInput i f).link = s.link := rfl

/-! ### State.modChannel -/

@[simp] theorem State.modChannel_pending (s : State) (c : ChannelNo) (f : Channel → Channel) :
    (s.modChannel c f).pending = s.pending := rfl
@[simp] theorem State.modChannel_free (s : State) (c : ChannelNo) (f : Channel → Channel) :
    (s.modChannel c f).free = s.free := rfl
@[simp] theorem State.modChannel_store (s : State) (c : ChannelNo) (f : Channel → Channel) :
    (s.modChannel c f).store = s.store := rfl
@[simp] theorem State.modChannel_journal (s : State) (c : ChannelNo) (f : Channel → Channel) :
    (s.modChannel c f).journal = s.journal := rfl
@[simp] theorem State.modChannel_inputs (s : State) (c : ChannelNo) (f : Channel → Channel) :
    (s.modChannel c f).inputs = s.inputs := rfl
@[simp] theorem State.modChannel_channels (s : State) (c : ChannelNo) (f : Channel → Channel) :
    (s.modChannel c f).channels = upd s.channels c f := rfl
@[simp] theorem State.modChannel_detection (s : State) (c : ChannelNo) (f : Channel → Channel) :
    (s.modChannel c f).detection = s.detection := rfl
@[simp] theorem State.modChannel_release (s : State) (c : ChannelNo) (f : Channel → Channel) :
    (s.modChannel c f).release = s.release := rfl
@[simp] theorem State.modChannel_estimate (s : State) (c : ChannelNo) (f : Channel → Channel) :
    (s.modChannel c f).estimate = s.estimate := rfl
@[simp] theorem State.modChannel_doors (s : State) (c : ChannelNo) (f : Channel → Channel) :
    (s.modChannel c f).doors = s.doors := rfl
@[simp] theorem State.modChannel_queue (s : State) (c : ChannelNo) (f : Channel → Channel) :
    (s.modChannel c f).queue = s.queue := rfl
@[simp] theorem State.modChannel_motions (s : State) (c : ChannelNo) (f : Channel → Channel) :
    (s.modChannel c f).motions = s.motions := rfl
@[simp] theorem State.modChannel_gateClosed (s : State) (c : ChannelNo) (f : Channel → Channel) :
    (s.modChannel c f).gateClosed = s.gateClosed := rfl
@[simp] theorem State.modChannel_clock (s : State) (c : ChannelNo) (f : Channel → Channel) :
    (s.modChannel c f).clock = s.clock := rfl
@[simp] theorem State.modChannel_period (s : State) (c : ChannelNo) (f : Channel → Channel) :
    (s.modChannel c f).period = s.period := rfl
@[simp] theorem State.modChannel_readers (s : State) (c : ChannelNo) (f : Channel → Channel) :
    (s.modChannel c f).readers = s.readers := rfl
@[simp] theorem State.modChannel_custody (s : State) (c : ChannelNo) (f : Channel → Channel) :
    (s.modChannel c f).custody = s.custody := rfl
@[simp] theorem State.modChannel_occupancy (s : State) (c : ChannelNo) (f : Channel → Channel) :
    (s.modChannel c f).occupancy = s.occupancy := rfl
@[simp] theorem State.modChannel_loneTimer (s : State) (c : ChannelNo) (f : Channel → Channel) :
    (s.modChannel c f).loneTimer = s.loneTimer := rfl
@[simp] theorem State.modChannel_loneOutrun (s : State) (c : ChannelNo) (f : Channel → Channel) :
    (s.modChannel c f).loneOutrun = s.loneOutrun := rfl
@[simp] theorem State.modChannel_alarm (s : State) (c : ChannelNo) (f : Channel → Channel) :
    (s.modChannel c f).alarm = s.alarm := rfl
@[simp] theorem State.modChannel_outputs (s : State) (c : ChannelNo) (f : Channel → Channel) :
    (s.modChannel c f).outputs = s.outputs := rfl
@[simp] theorem State.modChannel_line (s : State) (c : ChannelNo) (f : Channel → Channel) :
    (s.modChannel c f).line = s.line := rfl
@[simp] theorem State.modChannel_link (s : State) (c : ChannelNo) (f : Channel → Channel) :
    (s.modChannel c f).link = s.link := rfl

/-! ### State.setDetection -/

@[simp] theorem State.setDetection_pending (s : State) (z : Zone) (d : Detection) :
    (s.setDetection z d).pending = s.pending := rfl
@[simp] theorem State.setDetection_free (s : State) (z : Zone) (d : Detection) :
    (s.setDetection z d).free = s.free := rfl
@[simp] theorem State.setDetection_store (s : State) (z : Zone) (d : Detection) :
    (s.setDetection z d).store = s.store := rfl
@[simp] theorem State.setDetection_journal (s : State) (z : Zone) (d : Detection) :
    (s.setDetection z d).journal = s.journal := rfl
@[simp] theorem State.setDetection_inputs (s : State) (z : Zone) (d : Detection) :
    (s.setDetection z d).inputs = s.inputs := rfl
@[simp] theorem State.setDetection_channels (s : State) (z : Zone) (d : Detection) :
    (s.setDetection z d).channels = s.channels := rfl
@[simp] theorem State.setDetection_detection (s : State) (z : Zone) (d : Detection) :
    (s.setDetection z d).detection = upd s.detection z fun _ => d := rfl
@[simp] theorem State.setDetection_release (s : State) (z : Zone) (d : Detection) :
    (s.setDetection z d).release = s.release := rfl
@[simp] theorem State.setDetection_estimate (s : State) (z : Zone) (d : Detection) :
    (s.setDetection z d).estimate = s.estimate := rfl
@[simp] theorem State.setDetection_doors (s : State) (z : Zone) (d : Detection) :
    (s.setDetection z d).doors = s.doors := rfl
@[simp] theorem State.setDetection_queue (s : State) (z : Zone) (d : Detection) :
    (s.setDetection z d).queue = s.queue := rfl
@[simp] theorem State.setDetection_motions (s : State) (z : Zone) (d : Detection) :
    (s.setDetection z d).motions = s.motions := rfl
@[simp] theorem State.setDetection_gateClosed (s : State) (z : Zone) (d : Detection) :
    (s.setDetection z d).gateClosed = s.gateClosed := rfl
@[simp] theorem State.setDetection_clock (s : State) (z : Zone) (d : Detection) :
    (s.setDetection z d).clock = s.clock := rfl
@[simp] theorem State.setDetection_period (s : State) (z : Zone) (d : Detection) :
    (s.setDetection z d).period = s.period := rfl
@[simp] theorem State.setDetection_readers (s : State) (z : Zone) (d : Detection) :
    (s.setDetection z d).readers = s.readers := rfl
@[simp] theorem State.setDetection_custody (s : State) (z : Zone) (d : Detection) :
    (s.setDetection z d).custody = s.custody := rfl
@[simp] theorem State.setDetection_occupancy (s : State) (z : Zone) (d : Detection) :
    (s.setDetection z d).occupancy = s.occupancy := rfl
@[simp] theorem State.setDetection_loneTimer (s : State) (z : Zone) (d : Detection) :
    (s.setDetection z d).loneTimer = s.loneTimer := rfl
@[simp] theorem State.setDetection_loneOutrun (s : State) (z : Zone) (d : Detection) :
    (s.setDetection z d).loneOutrun = s.loneOutrun := rfl
@[simp] theorem State.setDetection_alarm (s : State) (z : Zone) (d : Detection) :
    (s.setDetection z d).alarm = s.alarm := rfl
@[simp] theorem State.setDetection_outputs (s : State) (z : Zone) (d : Detection) :
    (s.setDetection z d).outputs = s.outputs := rfl
@[simp] theorem State.setDetection_line (s : State) (z : Zone) (d : Detection) :
    (s.setDetection z d).line = s.line := rfl
@[simp] theorem State.setDetection_link (s : State) (z : Zone) (d : Detection) :
    (s.setDetection z d).link = s.link := rfl

/-! ### State.modRelease -/

@[simp] theorem State.modRelease_pending (s : State) (z : Zone) (f : Release → Release) :
    (s.modRelease z f).pending = s.pending := rfl
@[simp] theorem State.modRelease_free (s : State) (z : Zone) (f : Release → Release) :
    (s.modRelease z f).free = s.free := rfl
@[simp] theorem State.modRelease_store (s : State) (z : Zone) (f : Release → Release) :
    (s.modRelease z f).store = s.store := rfl
@[simp] theorem State.modRelease_journal (s : State) (z : Zone) (f : Release → Release) :
    (s.modRelease z f).journal = s.journal := rfl
@[simp] theorem State.modRelease_inputs (s : State) (z : Zone) (f : Release → Release) :
    (s.modRelease z f).inputs = s.inputs := rfl
@[simp] theorem State.modRelease_channels (s : State) (z : Zone) (f : Release → Release) :
    (s.modRelease z f).channels = s.channels := rfl
@[simp] theorem State.modRelease_detection (s : State) (z : Zone) (f : Release → Release) :
    (s.modRelease z f).detection = s.detection := rfl
@[simp] theorem State.modRelease_release (s : State) (z : Zone) (f : Release → Release) :
    (s.modRelease z f).release = upd s.release z f := rfl
@[simp] theorem State.modRelease_estimate (s : State) (z : Zone) (f : Release → Release) :
    (s.modRelease z f).estimate = s.estimate := rfl
@[simp] theorem State.modRelease_doors (s : State) (z : Zone) (f : Release → Release) :
    (s.modRelease z f).doors = s.doors := rfl
@[simp] theorem State.modRelease_queue (s : State) (z : Zone) (f : Release → Release) :
    (s.modRelease z f).queue = s.queue := rfl
@[simp] theorem State.modRelease_motions (s : State) (z : Zone) (f : Release → Release) :
    (s.modRelease z f).motions = s.motions := rfl
@[simp] theorem State.modRelease_gateClosed (s : State) (z : Zone) (f : Release → Release) :
    (s.modRelease z f).gateClosed = s.gateClosed := rfl
@[simp] theorem State.modRelease_clock (s : State) (z : Zone) (f : Release → Release) :
    (s.modRelease z f).clock = s.clock := rfl
@[simp] theorem State.modRelease_period (s : State) (z : Zone) (f : Release → Release) :
    (s.modRelease z f).period = s.period := rfl
@[simp] theorem State.modRelease_readers (s : State) (z : Zone) (f : Release → Release) :
    (s.modRelease z f).readers = s.readers := rfl
@[simp] theorem State.modRelease_custody (s : State) (z : Zone) (f : Release → Release) :
    (s.modRelease z f).custody = s.custody := rfl
@[simp] theorem State.modRelease_occupancy (s : State) (z : Zone) (f : Release → Release) :
    (s.modRelease z f).occupancy = s.occupancy := rfl
@[simp] theorem State.modRelease_loneTimer (s : State) (z : Zone) (f : Release → Release) :
    (s.modRelease z f).loneTimer = s.loneTimer := rfl
@[simp] theorem State.modRelease_loneOutrun (s : State) (z : Zone) (f : Release → Release) :
    (s.modRelease z f).loneOutrun = s.loneOutrun := rfl
@[simp] theorem State.modRelease_alarm (s : State) (z : Zone) (f : Release → Release) :
    (s.modRelease z f).alarm = s.alarm := rfl
@[simp] theorem State.modRelease_outputs (s : State) (z : Zone) (f : Release → Release) :
    (s.modRelease z f).outputs = s.outputs := rfl
@[simp] theorem State.modRelease_line (s : State) (z : Zone) (f : Release → Release) :
    (s.modRelease z f).line = s.line := rfl
@[simp] theorem State.modRelease_link (s : State) (z : Zone) (f : Release → Release) :
    (s.modRelease z f).link = s.link := rfl

/-! ### State.modEstimate -/

@[simp] theorem State.modEstimate_pending (s : State) (z : Zone) (f : Estimate → Estimate) :
    (s.modEstimate z f).pending = s.pending := rfl
@[simp] theorem State.modEstimate_free (s : State) (z : Zone) (f : Estimate → Estimate) :
    (s.modEstimate z f).free = s.free := rfl
@[simp] theorem State.modEstimate_store (s : State) (z : Zone) (f : Estimate → Estimate) :
    (s.modEstimate z f).store = s.store := rfl
@[simp] theorem State.modEstimate_journal (s : State) (z : Zone) (f : Estimate → Estimate) :
    (s.modEstimate z f).journal = s.journal := rfl
@[simp] theorem State.modEstimate_inputs (s : State) (z : Zone) (f : Estimate → Estimate) :
    (s.modEstimate z f).inputs = s.inputs := rfl
@[simp] theorem State.modEstimate_channels (s : State) (z : Zone) (f : Estimate → Estimate) :
    (s.modEstimate z f).channels = s.channels := rfl
@[simp] theorem State.modEstimate_detection (s : State) (z : Zone) (f : Estimate → Estimate) :
    (s.modEstimate z f).detection = s.detection := rfl
@[simp] theorem State.modEstimate_release (s : State) (z : Zone) (f : Estimate → Estimate) :
    (s.modEstimate z f).release = s.release := rfl
@[simp] theorem State.modEstimate_estimate (s : State) (z : Zone) (f : Estimate → Estimate) :
    (s.modEstimate z f).estimate = upd s.estimate z f := rfl
@[simp] theorem State.modEstimate_doors (s : State) (z : Zone) (f : Estimate → Estimate) :
    (s.modEstimate z f).doors = s.doors := rfl
@[simp] theorem State.modEstimate_queue (s : State) (z : Zone) (f : Estimate → Estimate) :
    (s.modEstimate z f).queue = s.queue := rfl
@[simp] theorem State.modEstimate_motions (s : State) (z : Zone) (f : Estimate → Estimate) :
    (s.modEstimate z f).motions = s.motions := rfl
@[simp] theorem State.modEstimate_gateClosed (s : State) (z : Zone) (f : Estimate → Estimate) :
    (s.modEstimate z f).gateClosed = s.gateClosed := rfl
@[simp] theorem State.modEstimate_clock (s : State) (z : Zone) (f : Estimate → Estimate) :
    (s.modEstimate z f).clock = s.clock := rfl
@[simp] theorem State.modEstimate_period (s : State) (z : Zone) (f : Estimate → Estimate) :
    (s.modEstimate z f).period = s.period := rfl
@[simp] theorem State.modEstimate_readers (s : State) (z : Zone) (f : Estimate → Estimate) :
    (s.modEstimate z f).readers = s.readers := rfl
@[simp] theorem State.modEstimate_custody (s : State) (z : Zone) (f : Estimate → Estimate) :
    (s.modEstimate z f).custody = s.custody := rfl
@[simp] theorem State.modEstimate_occupancy (s : State) (z : Zone) (f : Estimate → Estimate) :
    (s.modEstimate z f).occupancy = s.occupancy := rfl
@[simp] theorem State.modEstimate_loneTimer (s : State) (z : Zone) (f : Estimate → Estimate) :
    (s.modEstimate z f).loneTimer = s.loneTimer := rfl
@[simp] theorem State.modEstimate_loneOutrun (s : State) (z : Zone) (f : Estimate → Estimate) :
    (s.modEstimate z f).loneOutrun = s.loneOutrun := rfl
@[simp] theorem State.modEstimate_alarm (s : State) (z : Zone) (f : Estimate → Estimate) :
    (s.modEstimate z f).alarm = s.alarm := rfl
@[simp] theorem State.modEstimate_outputs (s : State) (z : Zone) (f : Estimate → Estimate) :
    (s.modEstimate z f).outputs = s.outputs := rfl
@[simp] theorem State.modEstimate_line (s : State) (z : Zone) (f : Estimate → Estimate) :
    (s.modEstimate z f).line = s.line := rfl
@[simp] theorem State.modEstimate_link (s : State) (z : Zone) (f : Estimate → Estimate) :
    (s.modEstimate z f).link = s.link := rfl

/-! ### State.modDoor -/

@[simp] theorem State.modDoor_pending (s : State) (n : DoorNo) (f : Door → Door) :
    (s.modDoor n f).pending = s.pending := rfl
@[simp] theorem State.modDoor_free (s : State) (n : DoorNo) (f : Door → Door) : (s.modDoor n f).free = s.free := rfl
@[simp] theorem State.modDoor_store (s : State) (n : DoorNo) (f : Door → Door) :
    (s.modDoor n f).store = s.store := rfl
@[simp] theorem State.modDoor_journal (s : State) (n : DoorNo) (f : Door → Door) :
    (s.modDoor n f).journal = s.journal := rfl
@[simp] theorem State.modDoor_inputs (s : State) (n : DoorNo) (f : Door → Door) :
    (s.modDoor n f).inputs = s.inputs := rfl
@[simp] theorem State.modDoor_channels (s : State) (n : DoorNo) (f : Door → Door) :
    (s.modDoor n f).channels = s.channels := rfl
@[simp] theorem State.modDoor_detection (s : State) (n : DoorNo) (f : Door → Door) :
    (s.modDoor n f).detection = s.detection := rfl
@[simp] theorem State.modDoor_release (s : State) (n : DoorNo) (f : Door → Door) :
    (s.modDoor n f).release = s.release := rfl
@[simp] theorem State.modDoor_estimate (s : State) (n : DoorNo) (f : Door → Door) :
    (s.modDoor n f).estimate = s.estimate := rfl
@[simp] theorem State.modDoor_doors (s : State) (n : DoorNo) (f : Door → Door) :
    (s.modDoor n f).doors = upd s.doors n f := rfl
@[simp] theorem State.modDoor_queue (s : State) (n : DoorNo) (f : Door → Door) :
    (s.modDoor n f).queue = s.queue := rfl
@[simp] theorem State.modDoor_motions (s : State) (n : DoorNo) (f : Door → Door) :
    (s.modDoor n f).motions = s.motions := rfl
@[simp] theorem State.modDoor_gateClosed (s : State) (n : DoorNo) (f : Door → Door) :
    (s.modDoor n f).gateClosed = s.gateClosed := rfl
@[simp] theorem State.modDoor_clock (s : State) (n : DoorNo) (f : Door → Door) :
    (s.modDoor n f).clock = s.clock := rfl
@[simp] theorem State.modDoor_period (s : State) (n : DoorNo) (f : Door → Door) :
    (s.modDoor n f).period = s.period := rfl
@[simp] theorem State.modDoor_readers (s : State) (n : DoorNo) (f : Door → Door) :
    (s.modDoor n f).readers = s.readers := rfl
@[simp] theorem State.modDoor_custody (s : State) (n : DoorNo) (f : Door → Door) :
    (s.modDoor n f).custody = s.custody := rfl
@[simp] theorem State.modDoor_occupancy (s : State) (n : DoorNo) (f : Door → Door) :
    (s.modDoor n f).occupancy = s.occupancy := rfl
@[simp] theorem State.modDoor_loneTimer (s : State) (n : DoorNo) (f : Door → Door) :
    (s.modDoor n f).loneTimer = s.loneTimer := rfl
@[simp] theorem State.modDoor_loneOutrun (s : State) (n : DoorNo) (f : Door → Door) :
    (s.modDoor n f).loneOutrun = s.loneOutrun := rfl
@[simp] theorem State.modDoor_alarm (s : State) (n : DoorNo) (f : Door → Door) :
    (s.modDoor n f).alarm = s.alarm := rfl
@[simp] theorem State.modDoor_outputs (s : State) (n : DoorNo) (f : Door → Door) :
    (s.modDoor n f).outputs = s.outputs := rfl
@[simp] theorem State.modDoor_line (s : State) (n : DoorNo) (f : Door → Door) : (s.modDoor n f).line = s.line := rfl
@[simp] theorem State.modDoor_link (s : State) (n : DoorNo) (f : Door → Door) : (s.modDoor n f).link = s.link := rfl

/-! ### State.setQueue -/

@[simp] theorem State.setQueue_pending (s : State) (n : DoorNo) (r : Option BoltRequest) :
    (s.setQueue n r).pending = s.pending := rfl
@[simp] theorem State.setQueue_free (s : State) (n : DoorNo) (r : Option BoltRequest) :
    (s.setQueue n r).free = s.free := rfl
@[simp] theorem State.setQueue_store (s : State) (n : DoorNo) (r : Option BoltRequest) :
    (s.setQueue n r).store = s.store := rfl
@[simp] theorem State.setQueue_journal (s : State) (n : DoorNo) (r : Option BoltRequest) :
    (s.setQueue n r).journal = s.journal := rfl
@[simp] theorem State.setQueue_inputs (s : State) (n : DoorNo) (r : Option BoltRequest) :
    (s.setQueue n r).inputs = s.inputs := rfl
@[simp] theorem State.setQueue_channels (s : State) (n : DoorNo) (r : Option BoltRequest) :
    (s.setQueue n r).channels = s.channels := rfl
@[simp] theorem State.setQueue_detection (s : State) (n : DoorNo) (r : Option BoltRequest) :
    (s.setQueue n r).detection = s.detection := rfl
@[simp] theorem State.setQueue_release (s : State) (n : DoorNo) (r : Option BoltRequest) :
    (s.setQueue n r).release = s.release := rfl
@[simp] theorem State.setQueue_estimate (s : State) (n : DoorNo) (r : Option BoltRequest) :
    (s.setQueue n r).estimate = s.estimate := rfl
@[simp] theorem State.setQueue_doors (s : State) (n : DoorNo) (r : Option BoltRequest) :
    (s.setQueue n r).doors = s.doors := rfl
@[simp] theorem State.setQueue_queue (s : State) (n : DoorNo) (r : Option BoltRequest) :
    (s.setQueue n r).queue = upd s.queue n fun _ => r := rfl
@[simp] theorem State.setQueue_motions (s : State) (n : DoorNo) (r : Option BoltRequest) :
    (s.setQueue n r).motions = s.motions := rfl
@[simp] theorem State.setQueue_gateClosed (s : State) (n : DoorNo) (r : Option BoltRequest) :
    (s.setQueue n r).gateClosed = s.gateClosed := rfl
@[simp] theorem State.setQueue_clock (s : State) (n : DoorNo) (r : Option BoltRequest) :
    (s.setQueue n r).clock = s.clock := rfl
@[simp] theorem State.setQueue_period (s : State) (n : DoorNo) (r : Option BoltRequest) :
    (s.setQueue n r).period = s.period := rfl
@[simp] theorem State.setQueue_readers (s : State) (n : DoorNo) (r : Option BoltRequest) :
    (s.setQueue n r).readers = s.readers := rfl
@[simp] theorem State.setQueue_custody (s : State) (n : DoorNo) (r : Option BoltRequest) :
    (s.setQueue n r).custody = s.custody := rfl
@[simp] theorem State.setQueue_occupancy (s : State) (n : DoorNo) (r : Option BoltRequest) :
    (s.setQueue n r).occupancy = s.occupancy := rfl
@[simp] theorem State.setQueue_loneTimer (s : State) (n : DoorNo) (r : Option BoltRequest) :
    (s.setQueue n r).loneTimer = s.loneTimer := rfl
@[simp] theorem State.setQueue_loneOutrun (s : State) (n : DoorNo) (r : Option BoltRequest) :
    (s.setQueue n r).loneOutrun = s.loneOutrun := rfl
@[simp] theorem State.setQueue_alarm (s : State) (n : DoorNo) (r : Option BoltRequest) :
    (s.setQueue n r).alarm = s.alarm := rfl
@[simp] theorem State.setQueue_outputs (s : State) (n : DoorNo) (r : Option BoltRequest) :
    (s.setQueue n r).outputs = s.outputs := rfl
@[simp] theorem State.setQueue_line (s : State) (n : DoorNo) (r : Option BoltRequest) :
    (s.setQueue n r).line = s.line := rfl
@[simp] theorem State.setQueue_link (s : State) (n : DoorNo) (r : Option BoltRequest) :
    (s.setQueue n r).link = s.link := rfl

/-! ### State.setMotion -/

@[simp] theorem State.setMotion_pending (s : State) (n : DoorNo) (m : Option InMotion) :
    (s.setMotion n m).pending = s.pending := rfl
@[simp] theorem State.setMotion_free (s : State) (n : DoorNo) (m : Option InMotion) :
    (s.setMotion n m).free = s.free := rfl
@[simp] theorem State.setMotion_store (s : State) (n : DoorNo) (m : Option InMotion) :
    (s.setMotion n m).store = s.store := rfl
@[simp] theorem State.setMotion_journal (s : State) (n : DoorNo) (m : Option InMotion) :
    (s.setMotion n m).journal = s.journal := rfl
@[simp] theorem State.setMotion_inputs (s : State) (n : DoorNo) (m : Option InMotion) :
    (s.setMotion n m).inputs = s.inputs := rfl
@[simp] theorem State.setMotion_channels (s : State) (n : DoorNo) (m : Option InMotion) :
    (s.setMotion n m).channels = s.channels := rfl
@[simp] theorem State.setMotion_detection (s : State) (n : DoorNo) (m : Option InMotion) :
    (s.setMotion n m).detection = s.detection := rfl
@[simp] theorem State.setMotion_release (s : State) (n : DoorNo) (m : Option InMotion) :
    (s.setMotion n m).release = s.release := rfl
@[simp] theorem State.setMotion_estimate (s : State) (n : DoorNo) (m : Option InMotion) :
    (s.setMotion n m).estimate = s.estimate := rfl
@[simp] theorem State.setMotion_doors (s : State) (n : DoorNo) (m : Option InMotion) :
    (s.setMotion n m).doors = s.doors := rfl
@[simp] theorem State.setMotion_queue (s : State) (n : DoorNo) (m : Option InMotion) :
    (s.setMotion n m).queue = s.queue := rfl
@[simp] theorem State.setMotion_motions (s : State) (n : DoorNo) (m : Option InMotion) :
    (s.setMotion n m).motions = upd s.motions n fun _ => m := rfl
@[simp] theorem State.setMotion_gateClosed (s : State) (n : DoorNo) (m : Option InMotion) :
    (s.setMotion n m).gateClosed = s.gateClosed := rfl
@[simp] theorem State.setMotion_clock (s : State) (n : DoorNo) (m : Option InMotion) :
    (s.setMotion n m).clock = s.clock := rfl
@[simp] theorem State.setMotion_period (s : State) (n : DoorNo) (m : Option InMotion) :
    (s.setMotion n m).period = s.period := rfl
@[simp] theorem State.setMotion_readers (s : State) (n : DoorNo) (m : Option InMotion) :
    (s.setMotion n m).readers = s.readers := rfl
@[simp] theorem State.setMotion_custody (s : State) (n : DoorNo) (m : Option InMotion) :
    (s.setMotion n m).custody = s.custody := rfl
@[simp] theorem State.setMotion_occupancy (s : State) (n : DoorNo) (m : Option InMotion) :
    (s.setMotion n m).occupancy = s.occupancy := rfl
@[simp] theorem State.setMotion_loneTimer (s : State) (n : DoorNo) (m : Option InMotion) :
    (s.setMotion n m).loneTimer = s.loneTimer := rfl
@[simp] theorem State.setMotion_loneOutrun (s : State) (n : DoorNo) (m : Option InMotion) :
    (s.setMotion n m).loneOutrun = s.loneOutrun := rfl
@[simp] theorem State.setMotion_alarm (s : State) (n : DoorNo) (m : Option InMotion) :
    (s.setMotion n m).alarm = s.alarm := rfl
@[simp] theorem State.setMotion_outputs (s : State) (n : DoorNo) (m : Option InMotion) :
    (s.setMotion n m).outputs = s.outputs := rfl
@[simp] theorem State.setMotion_line (s : State) (n : DoorNo) (m : Option InMotion) :
    (s.setMotion n m).line = s.line := rfl
@[simp] theorem State.setMotion_link (s : State) (n : DoorNo) (m : Option InMotion) :
    (s.setMotion n m).link = s.link := rfl

/-! ### State.setPeriod -/

@[simp] theorem State.setPeriod_pending (s : State) (z : Zone) (p : Period) :
    (s.setPeriod z p).pending = s.pending := rfl
@[simp] theorem State.setPeriod_free (s : State) (z : Zone) (p : Period) : (s.setPeriod z p).free = s.free := rfl
@[simp] theorem State.setPeriod_store (s : State) (z : Zone) (p : Period) : (s.setPeriod z p).store = s.store := rfl
@[simp] theorem State.setPeriod_journal (s : State) (z : Zone) (p : Period) :
    (s.setPeriod z p).journal = s.journal := rfl
@[simp] theorem State.setPeriod_inputs (s : State) (z : Zone) (p : Period) :
    (s.setPeriod z p).inputs = s.inputs := rfl
@[simp] theorem State.setPeriod_channels (s : State) (z : Zone) (p : Period) :
    (s.setPeriod z p).channels = s.channels := rfl
@[simp] theorem State.setPeriod_detection (s : State) (z : Zone) (p : Period) :
    (s.setPeriod z p).detection = s.detection := rfl
@[simp] theorem State.setPeriod_release (s : State) (z : Zone) (p : Period) :
    (s.setPeriod z p).release = s.release := rfl
@[simp] theorem State.setPeriod_estimate (s : State) (z : Zone) (p : Period) :
    (s.setPeriod z p).estimate = s.estimate := rfl
@[simp] theorem State.setPeriod_doors (s : State) (z : Zone) (p : Period) : (s.setPeriod z p).doors = s.doors := rfl
@[simp] theorem State.setPeriod_queue (s : State) (z : Zone) (p : Period) : (s.setPeriod z p).queue = s.queue := rfl
@[simp] theorem State.setPeriod_motions (s : State) (z : Zone) (p : Period) :
    (s.setPeriod z p).motions = s.motions := rfl
@[simp] theorem State.setPeriod_gateClosed (s : State) (z : Zone) (p : Period) :
    (s.setPeriod z p).gateClosed = s.gateClosed := rfl
@[simp] theorem State.setPeriod_clock (s : State) (z : Zone) (p : Period) : (s.setPeriod z p).clock = s.clock := rfl
@[simp] theorem State.setPeriod_period (s : State) (z : Zone) (p : Period) :
    (s.setPeriod z p).period = upd s.period z fun _ => p := rfl
@[simp] theorem State.setPeriod_readers (s : State) (z : Zone) (p : Period) :
    (s.setPeriod z p).readers = s.readers := rfl
@[simp] theorem State.setPeriod_custody (s : State) (z : Zone) (p : Period) :
    (s.setPeriod z p).custody = s.custody := rfl
@[simp] theorem State.setPeriod_occupancy (s : State) (z : Zone) (p : Period) :
    (s.setPeriod z p).occupancy = s.occupancy := rfl
@[simp] theorem State.setPeriod_loneTimer (s : State) (z : Zone) (p : Period) :
    (s.setPeriod z p).loneTimer = s.loneTimer := rfl
@[simp] theorem State.setPeriod_loneOutrun (s : State) (z : Zone) (p : Period) :
    (s.setPeriod z p).loneOutrun = s.loneOutrun := rfl
@[simp] theorem State.setPeriod_alarm (s : State) (z : Zone) (p : Period) : (s.setPeriod z p).alarm = s.alarm := rfl
@[simp] theorem State.setPeriod_outputs (s : State) (z : Zone) (p : Period) :
    (s.setPeriod z p).outputs = s.outputs := rfl
@[simp] theorem State.setPeriod_line (s : State) (z : Zone) (p : Period) : (s.setPeriod z p).line = s.line := rfl
@[simp] theorem State.setPeriod_link (s : State) (z : Zone) (p : Period) : (s.setPeriod z p).link = s.link := rfl

/-! ### State.modReader -/

@[simp] theorem State.modReader_pending (s : State) (r : ReaderNo) (f : Reader → Reader) :
    (s.modReader r f).pending = s.pending := rfl
@[simp] theorem State.modReader_free (s : State) (r : ReaderNo) (f : Reader → Reader) :
    (s.modReader r f).free = s.free := rfl
@[simp] theorem State.modReader_store (s : State) (r : ReaderNo) (f : Reader → Reader) :
    (s.modReader r f).store = s.store := rfl
@[simp] theorem State.modReader_journal (s : State) (r : ReaderNo) (f : Reader → Reader) :
    (s.modReader r f).journal = s.journal := rfl
@[simp] theorem State.modReader_inputs (s : State) (r : ReaderNo) (f : Reader → Reader) :
    (s.modReader r f).inputs = s.inputs := rfl
@[simp] theorem State.modReader_channels (s : State) (r : ReaderNo) (f : Reader → Reader) :
    (s.modReader r f).channels = s.channels := rfl
@[simp] theorem State.modReader_detection (s : State) (r : ReaderNo) (f : Reader → Reader) :
    (s.modReader r f).detection = s.detection := rfl
@[simp] theorem State.modReader_release (s : State) (r : ReaderNo) (f : Reader → Reader) :
    (s.modReader r f).release = s.release := rfl
@[simp] theorem State.modReader_estimate (s : State) (r : ReaderNo) (f : Reader → Reader) :
    (s.modReader r f).estimate = s.estimate := rfl
@[simp] theorem State.modReader_doors (s : State) (r : ReaderNo) (f : Reader → Reader) :
    (s.modReader r f).doors = s.doors := rfl
@[simp] theorem State.modReader_queue (s : State) (r : ReaderNo) (f : Reader → Reader) :
    (s.modReader r f).queue = s.queue := rfl
@[simp] theorem State.modReader_motions (s : State) (r : ReaderNo) (f : Reader → Reader) :
    (s.modReader r f).motions = s.motions := rfl
@[simp] theorem State.modReader_gateClosed (s : State) (r : ReaderNo) (f : Reader → Reader) :
    (s.modReader r f).gateClosed = s.gateClosed := rfl
@[simp] theorem State.modReader_clock (s : State) (r : ReaderNo) (f : Reader → Reader) :
    (s.modReader r f).clock = s.clock := rfl
@[simp] theorem State.modReader_period (s : State) (r : ReaderNo) (f : Reader → Reader) :
    (s.modReader r f).period = s.period := rfl
@[simp] theorem State.modReader_readers (s : State) (r : ReaderNo) (f : Reader → Reader) :
    (s.modReader r f).readers = upd s.readers r f := rfl
@[simp] theorem State.modReader_custody (s : State) (r : ReaderNo) (f : Reader → Reader) :
    (s.modReader r f).custody = s.custody := rfl
@[simp] theorem State.modReader_occupancy (s : State) (r : ReaderNo) (f : Reader → Reader) :
    (s.modReader r f).occupancy = s.occupancy := rfl
@[simp] theorem State.modReader_loneTimer (s : State) (r : ReaderNo) (f : Reader → Reader) :
    (s.modReader r f).loneTimer = s.loneTimer := rfl
@[simp] theorem State.modReader_loneOutrun (s : State) (r : ReaderNo) (f : Reader → Reader) :
    (s.modReader r f).loneOutrun = s.loneOutrun := rfl
@[simp] theorem State.modReader_alarm (s : State) (r : ReaderNo) (f : Reader → Reader) :
    (s.modReader r f).alarm = s.alarm := rfl
@[simp] theorem State.modReader_outputs (s : State) (r : ReaderNo) (f : Reader → Reader) :
    (s.modReader r f).outputs = s.outputs := rfl
@[simp] theorem State.modReader_line (s : State) (r : ReaderNo) (f : Reader → Reader) :
    (s.modReader r f).line = s.line := rfl
@[simp] theorem State.modReader_link (s : State) (r : ReaderNo) (f : Reader → Reader) :
    (s.modReader r f).link = s.link := rfl

/-! ### State.setCustody -/

@[simp] theorem State.setCustody_pending (s : State) (n : DoorNo) (w : Option CustodyWindow) :
    (s.setCustody n w).pending = s.pending := rfl
@[simp] theorem State.setCustody_free (s : State) (n : DoorNo) (w : Option CustodyWindow) :
    (s.setCustody n w).free = s.free := rfl
@[simp] theorem State.setCustody_store (s : State) (n : DoorNo) (w : Option CustodyWindow) :
    (s.setCustody n w).store = s.store := rfl
@[simp] theorem State.setCustody_journal (s : State) (n : DoorNo) (w : Option CustodyWindow) :
    (s.setCustody n w).journal = s.journal := rfl
@[simp] theorem State.setCustody_inputs (s : State) (n : DoorNo) (w : Option CustodyWindow) :
    (s.setCustody n w).inputs = s.inputs := rfl
@[simp] theorem State.setCustody_channels (s : State) (n : DoorNo) (w : Option CustodyWindow) :
    (s.setCustody n w).channels = s.channels := rfl
@[simp] theorem State.setCustody_detection (s : State) (n : DoorNo) (w : Option CustodyWindow) :
    (s.setCustody n w).detection = s.detection := rfl
@[simp] theorem State.setCustody_release (s : State) (n : DoorNo) (w : Option CustodyWindow) :
    (s.setCustody n w).release = s.release := rfl
@[simp] theorem State.setCustody_estimate (s : State) (n : DoorNo) (w : Option CustodyWindow) :
    (s.setCustody n w).estimate = s.estimate := rfl
@[simp] theorem State.setCustody_doors (s : State) (n : DoorNo) (w : Option CustodyWindow) :
    (s.setCustody n w).doors = s.doors := rfl
@[simp] theorem State.setCustody_queue (s : State) (n : DoorNo) (w : Option CustodyWindow) :
    (s.setCustody n w).queue = s.queue := rfl
@[simp] theorem State.setCustody_motions (s : State) (n : DoorNo) (w : Option CustodyWindow) :
    (s.setCustody n w).motions = s.motions := rfl
@[simp] theorem State.setCustody_gateClosed (s : State) (n : DoorNo) (w : Option CustodyWindow) :
    (s.setCustody n w).gateClosed = s.gateClosed := rfl
@[simp] theorem State.setCustody_clock (s : State) (n : DoorNo) (w : Option CustodyWindow) :
    (s.setCustody n w).clock = s.clock := rfl
@[simp] theorem State.setCustody_period (s : State) (n : DoorNo) (w : Option CustodyWindow) :
    (s.setCustody n w).period = s.period := rfl
@[simp] theorem State.setCustody_readers (s : State) (n : DoorNo) (w : Option CustodyWindow) :
    (s.setCustody n w).readers = s.readers := rfl
@[simp] theorem State.setCustody_custody (s : State) (n : DoorNo) (w : Option CustodyWindow) :
    (s.setCustody n w).custody = upd s.custody n fun _ => w := rfl
@[simp] theorem State.setCustody_occupancy (s : State) (n : DoorNo) (w : Option CustodyWindow) :
    (s.setCustody n w).occupancy = s.occupancy := rfl
@[simp] theorem State.setCustody_loneTimer (s : State) (n : DoorNo) (w : Option CustodyWindow) :
    (s.setCustody n w).loneTimer = s.loneTimer := rfl
@[simp] theorem State.setCustody_loneOutrun (s : State) (n : DoorNo) (w : Option CustodyWindow) :
    (s.setCustody n w).loneOutrun = s.loneOutrun := rfl
@[simp] theorem State.setCustody_alarm (s : State) (n : DoorNo) (w : Option CustodyWindow) :
    (s.setCustody n w).alarm = s.alarm := rfl
@[simp] theorem State.setCustody_outputs (s : State) (n : DoorNo) (w : Option CustodyWindow) :
    (s.setCustody n w).outputs = s.outputs := rfl
@[simp] theorem State.setCustody_line (s : State) (n : DoorNo) (w : Option CustodyWindow) :
    (s.setCustody n w).line = s.line := rfl
@[simp] theorem State.setCustody_link (s : State) (n : DoorNo) (w : Option CustodyWindow) :
    (s.setCustody n w).link = s.link := rfl

/-! ### State.modOccupancy -/

@[simp] theorem State.modOccupancy_pending (s : State) (z : Zone) (f : Occupancy → Occupancy) :
    (s.modOccupancy z f).pending = s.pending := rfl
@[simp] theorem State.modOccupancy_free (s : State) (z : Zone) (f : Occupancy → Occupancy) :
    (s.modOccupancy z f).free = s.free := rfl
@[simp] theorem State.modOccupancy_store (s : State) (z : Zone) (f : Occupancy → Occupancy) :
    (s.modOccupancy z f).store = s.store := rfl
@[simp] theorem State.modOccupancy_journal (s : State) (z : Zone) (f : Occupancy → Occupancy) :
    (s.modOccupancy z f).journal = s.journal := rfl
@[simp] theorem State.modOccupancy_inputs (s : State) (z : Zone) (f : Occupancy → Occupancy) :
    (s.modOccupancy z f).inputs = s.inputs := rfl
@[simp] theorem State.modOccupancy_channels (s : State) (z : Zone) (f : Occupancy → Occupancy) :
    (s.modOccupancy z f).channels = s.channels := rfl
@[simp] theorem State.modOccupancy_detection (s : State) (z : Zone) (f : Occupancy → Occupancy) :
    (s.modOccupancy z f).detection = s.detection := rfl
@[simp] theorem State.modOccupancy_release (s : State) (z : Zone) (f : Occupancy → Occupancy) :
    (s.modOccupancy z f).release = s.release := rfl
@[simp] theorem State.modOccupancy_estimate (s : State) (z : Zone) (f : Occupancy → Occupancy) :
    (s.modOccupancy z f).estimate = s.estimate := rfl
@[simp] theorem State.modOccupancy_doors (s : State) (z : Zone) (f : Occupancy → Occupancy) :
    (s.modOccupancy z f).doors = s.doors := rfl
@[simp] theorem State.modOccupancy_queue (s : State) (z : Zone) (f : Occupancy → Occupancy) :
    (s.modOccupancy z f).queue = s.queue := rfl
@[simp] theorem State.modOccupancy_motions (s : State) (z : Zone) (f : Occupancy → Occupancy) :
    (s.modOccupancy z f).motions = s.motions := rfl
@[simp] theorem State.modOccupancy_gateClosed (s : State) (z : Zone) (f : Occupancy → Occupancy) :
    (s.modOccupancy z f).gateClosed = s.gateClosed := rfl
@[simp] theorem State.modOccupancy_clock (s : State) (z : Zone) (f : Occupancy → Occupancy) :
    (s.modOccupancy z f).clock = s.clock := rfl
@[simp] theorem State.modOccupancy_period (s : State) (z : Zone) (f : Occupancy → Occupancy) :
    (s.modOccupancy z f).period = s.period := rfl
@[simp] theorem State.modOccupancy_readers (s : State) (z : Zone) (f : Occupancy → Occupancy) :
    (s.modOccupancy z f).readers = s.readers := rfl
@[simp] theorem State.modOccupancy_custody (s : State) (z : Zone) (f : Occupancy → Occupancy) :
    (s.modOccupancy z f).custody = s.custody := rfl
@[simp] theorem State.modOccupancy_occupancy (s : State) (z : Zone) (f : Occupancy → Occupancy) :
    (s.modOccupancy z f).occupancy = upd s.occupancy z f := rfl
@[simp] theorem State.modOccupancy_loneTimer (s : State) (z : Zone) (f : Occupancy → Occupancy) :
    (s.modOccupancy z f).loneTimer = s.loneTimer := rfl
@[simp] theorem State.modOccupancy_loneOutrun (s : State) (z : Zone) (f : Occupancy → Occupancy) :
    (s.modOccupancy z f).loneOutrun = s.loneOutrun := rfl
@[simp] theorem State.modOccupancy_alarm (s : State) (z : Zone) (f : Occupancy → Occupancy) :
    (s.modOccupancy z f).alarm = s.alarm := rfl
@[simp] theorem State.modOccupancy_outputs (s : State) (z : Zone) (f : Occupancy → Occupancy) :
    (s.modOccupancy z f).outputs = s.outputs := rfl
@[simp] theorem State.modOccupancy_line (s : State) (z : Zone) (f : Occupancy → Occupancy) :
    (s.modOccupancy z f).line = s.line := rfl
@[simp] theorem State.modOccupancy_link (s : State) (z : Zone) (f : Occupancy → Occupancy) :
    (s.modOccupancy z f).link = s.link := rfl

/-! ### State.setLone -/

@[simp] theorem State.setLone_pending (s : State) (z : Zone) (t : Option Nat) :
    (s.setLone z t).pending = s.pending := rfl
@[simp] theorem State.setLone_free (s : State) (z : Zone) (t : Option Nat) : (s.setLone z t).free = s.free := rfl
@[simp] theorem State.setLone_store (s : State) (z : Zone) (t : Option Nat) : (s.setLone z t).store = s.store := rfl
@[simp] theorem State.setLone_journal (s : State) (z : Zone) (t : Option Nat) :
    (s.setLone z t).journal = s.journal := rfl
@[simp] theorem State.setLone_inputs (s : State) (z : Zone) (t : Option Nat) :
    (s.setLone z t).inputs = s.inputs := rfl
@[simp] theorem State.setLone_channels (s : State) (z : Zone) (t : Option Nat) :
    (s.setLone z t).channels = s.channels := rfl
@[simp] theorem State.setLone_detection (s : State) (z : Zone) (t : Option Nat) :
    (s.setLone z t).detection = s.detection := rfl
@[simp] theorem State.setLone_release (s : State) (z : Zone) (t : Option Nat) :
    (s.setLone z t).release = s.release := rfl
@[simp] theorem State.setLone_estimate (s : State) (z : Zone) (t : Option Nat) :
    (s.setLone z t).estimate = s.estimate := rfl
@[simp] theorem State.setLone_doors (s : State) (z : Zone) (t : Option Nat) : (s.setLone z t).doors = s.doors := rfl
@[simp] theorem State.setLone_queue (s : State) (z : Zone) (t : Option Nat) : (s.setLone z t).queue = s.queue := rfl
@[simp] theorem State.setLone_motions (s : State) (z : Zone) (t : Option Nat) :
    (s.setLone z t).motions = s.motions := rfl
@[simp] theorem State.setLone_gateClosed (s : State) (z : Zone) (t : Option Nat) :
    (s.setLone z t).gateClosed = s.gateClosed := rfl
@[simp] theorem State.setLone_clock (s : State) (z : Zone) (t : Option Nat) : (s.setLone z t).clock = s.clock := rfl
@[simp] theorem State.setLone_period (s : State) (z : Zone) (t : Option Nat) :
    (s.setLone z t).period = s.period := rfl
@[simp] theorem State.setLone_readers (s : State) (z : Zone) (t : Option Nat) :
    (s.setLone z t).readers = s.readers := rfl
@[simp] theorem State.setLone_custody (s : State) (z : Zone) (t : Option Nat) :
    (s.setLone z t).custody = s.custody := rfl
@[simp] theorem State.setLone_occupancy (s : State) (z : Zone) (t : Option Nat) :
    (s.setLone z t).occupancy = s.occupancy := rfl
@[simp] theorem State.setLone_loneTimer (s : State) (z : Zone) (t : Option Nat) :
    (s.setLone z t).loneTimer = upd s.loneTimer z fun _ => t := rfl
@[simp] theorem State.setLone_loneOutrun (s : State) (z : Zone) (t : Option Nat) :
    (s.setLone z t).loneOutrun = s.loneOutrun := rfl
@[simp] theorem State.setLone_alarm (s : State) (z : Zone) (t : Option Nat) : (s.setLone z t).alarm = s.alarm := rfl
@[simp] theorem State.setLone_outputs (s : State) (z : Zone) (t : Option Nat) :
    (s.setLone z t).outputs = s.outputs := rfl
@[simp] theorem State.setLone_line (s : State) (z : Zone) (t : Option Nat) : (s.setLone z t).line = s.line := rfl
@[simp] theorem State.setLone_link (s : State) (z : Zone) (t : Option Nat) : (s.setLone z t).link = s.link := rfl

/-! ### State.setOutrun -/

@[simp] theorem State.setOutrun_pending (s : State) (z : Zone) (b : Bool) :
    (s.setOutrun z b).pending = s.pending := rfl
@[simp] theorem State.setOutrun_free (s : State) (z : Zone) (b : Bool) : (s.setOutrun z b).free = s.free := rfl
@[simp] theorem State.setOutrun_store (s : State) (z : Zone) (b : Bool) : (s.setOutrun z b).store = s.store := rfl
@[simp] theorem State.setOutrun_journal (s : State) (z : Zone) (b : Bool) :
    (s.setOutrun z b).journal = s.journal := rfl
@[simp] theorem State.setOutrun_inputs (s : State) (z : Zone) (b : Bool) : (s.setOutrun z b).inputs = s.inputs := rfl
@[simp] theorem State.setOutrun_channels (s : State) (z : Zone) (b : Bool) :
    (s.setOutrun z b).channels = s.channels := rfl
@[simp] theorem State.setOutrun_detection (s : State) (z : Zone) (b : Bool) :
    (s.setOutrun z b).detection = s.detection := rfl
@[simp] theorem State.setOutrun_release (s : State) (z : Zone) (b : Bool) :
    (s.setOutrun z b).release = s.release := rfl
@[simp] theorem State.setOutrun_estimate (s : State) (z : Zone) (b : Bool) :
    (s.setOutrun z b).estimate = s.estimate := rfl
@[simp] theorem State.setOutrun_doors (s : State) (z : Zone) (b : Bool) : (s.setOutrun z b).doors = s.doors := rfl
@[simp] theorem State.setOutrun_queue (s : State) (z : Zone) (b : Bool) : (s.setOutrun z b).queue = s.queue := rfl
@[simp] theorem State.setOutrun_motions (s : State) (z : Zone) (b : Bool) :
    (s.setOutrun z b).motions = s.motions := rfl
@[simp] theorem State.setOutrun_gateClosed (s : State) (z : Zone) (b : Bool) :
    (s.setOutrun z b).gateClosed = s.gateClosed := rfl
@[simp] theorem State.setOutrun_clock (s : State) (z : Zone) (b : Bool) : (s.setOutrun z b).clock = s.clock := rfl
@[simp] theorem State.setOutrun_period (s : State) (z : Zone) (b : Bool) : (s.setOutrun z b).period = s.period := rfl
@[simp] theorem State.setOutrun_readers (s : State) (z : Zone) (b : Bool) :
    (s.setOutrun z b).readers = s.readers := rfl
@[simp] theorem State.setOutrun_custody (s : State) (z : Zone) (b : Bool) :
    (s.setOutrun z b).custody = s.custody := rfl
@[simp] theorem State.setOutrun_occupancy (s : State) (z : Zone) (b : Bool) :
    (s.setOutrun z b).occupancy = s.occupancy := rfl
@[simp] theorem State.setOutrun_loneTimer (s : State) (z : Zone) (b : Bool) :
    (s.setOutrun z b).loneTimer = s.loneTimer := rfl
@[simp] theorem State.setOutrun_loneOutrun (s : State) (z : Zone) (b : Bool) :
    (s.setOutrun z b).loneOutrun = upd s.loneOutrun z fun _ => b := rfl
@[simp] theorem State.setOutrun_alarm (s : State) (z : Zone) (b : Bool) : (s.setOutrun z b).alarm = s.alarm := rfl
@[simp] theorem State.setOutrun_outputs (s : State) (z : Zone) (b : Bool) :
    (s.setOutrun z b).outputs = s.outputs := rfl
@[simp] theorem State.setOutrun_line (s : State) (z : Zone) (b : Bool) : (s.setOutrun z b).line = s.line := rfl
@[simp] theorem State.setOutrun_link (s : State) (z : Zone) (b : Bool) : (s.setOutrun z b).link = s.link := rfl

/-! ### State.modOutput -/

@[simp] theorem State.modOutput_pending (s : State) (o : OutputNo) (f : Output → Output) :
    (s.modOutput o f).pending = s.pending := rfl
@[simp] theorem State.modOutput_free (s : State) (o : OutputNo) (f : Output → Output) :
    (s.modOutput o f).free = s.free := rfl
@[simp] theorem State.modOutput_store (s : State) (o : OutputNo) (f : Output → Output) :
    (s.modOutput o f).store = s.store := rfl
@[simp] theorem State.modOutput_journal (s : State) (o : OutputNo) (f : Output → Output) :
    (s.modOutput o f).journal = s.journal := rfl
@[simp] theorem State.modOutput_inputs (s : State) (o : OutputNo) (f : Output → Output) :
    (s.modOutput o f).inputs = s.inputs := rfl
@[simp] theorem State.modOutput_channels (s : State) (o : OutputNo) (f : Output → Output) :
    (s.modOutput o f).channels = s.channels := rfl
@[simp] theorem State.modOutput_detection (s : State) (o : OutputNo) (f : Output → Output) :
    (s.modOutput o f).detection = s.detection := rfl
@[simp] theorem State.modOutput_release (s : State) (o : OutputNo) (f : Output → Output) :
    (s.modOutput o f).release = s.release := rfl
@[simp] theorem State.modOutput_estimate (s : State) (o : OutputNo) (f : Output → Output) :
    (s.modOutput o f).estimate = s.estimate := rfl
@[simp] theorem State.modOutput_doors (s : State) (o : OutputNo) (f : Output → Output) :
    (s.modOutput o f).doors = s.doors := rfl
@[simp] theorem State.modOutput_queue (s : State) (o : OutputNo) (f : Output → Output) :
    (s.modOutput o f).queue = s.queue := rfl
@[simp] theorem State.modOutput_motions (s : State) (o : OutputNo) (f : Output → Output) :
    (s.modOutput o f).motions = s.motions := rfl
@[simp] theorem State.modOutput_gateClosed (s : State) (o : OutputNo) (f : Output → Output) :
    (s.modOutput o f).gateClosed = s.gateClosed := rfl
@[simp] theorem State.modOutput_clock (s : State) (o : OutputNo) (f : Output → Output) :
    (s.modOutput o f).clock = s.clock := rfl
@[simp] theorem State.modOutput_period (s : State) (o : OutputNo) (f : Output → Output) :
    (s.modOutput o f).period = s.period := rfl
@[simp] theorem State.modOutput_readers (s : State) (o : OutputNo) (f : Output → Output) :
    (s.modOutput o f).readers = s.readers := rfl
@[simp] theorem State.modOutput_custody (s : State) (o : OutputNo) (f : Output → Output) :
    (s.modOutput o f).custody = s.custody := rfl
@[simp] theorem State.modOutput_occupancy (s : State) (o : OutputNo) (f : Output → Output) :
    (s.modOutput o f).occupancy = s.occupancy := rfl
@[simp] theorem State.modOutput_loneTimer (s : State) (o : OutputNo) (f : Output → Output) :
    (s.modOutput o f).loneTimer = s.loneTimer := rfl
@[simp] theorem State.modOutput_loneOutrun (s : State) (o : OutputNo) (f : Output → Output) :
    (s.modOutput o f).loneOutrun = s.loneOutrun := rfl
@[simp] theorem State.modOutput_alarm (s : State) (o : OutputNo) (f : Output → Output) :
    (s.modOutput o f).alarm = s.alarm := rfl
@[simp] theorem State.modOutput_outputs (s : State) (o : OutputNo) (f : Output → Output) :
    (s.modOutput o f).outputs = upd s.outputs o f := rfl
@[simp] theorem State.modOutput_line (s : State) (o : OutputNo) (f : Output → Output) :
    (s.modOutput o f).line = s.line := rfl
@[simp] theorem State.modOutput_link (s : State) (o : OutputNo) (f : Output → Output) :
    (s.modOutput o f).link = s.link := rfl

/-! ### State.modStore -/

@[simp] theorem State.modStore_pending (s : State) (f : Store → Store) : (s.modStore f).pending = s.pending := rfl
@[simp] theorem State.modStore_free (s : State) (f : Store → Store) : (s.modStore f).free = s.free := rfl
@[simp] theorem State.modStore_store (s : State) (f : Store → Store) : (s.modStore f).store = f s.store := rfl
@[simp] theorem State.modStore_journal (s : State) (f : Store → Store) : (s.modStore f).journal = s.journal := rfl
@[simp] theorem State.modStore_inputs (s : State) (f : Store → Store) : (s.modStore f).inputs = s.inputs := rfl
@[simp] theorem State.modStore_channels (s : State) (f : Store → Store) : (s.modStore f).channels = s.channels := rfl
@[simp] theorem State.modStore_detection (s : State) (f : Store → Store) :
    (s.modStore f).detection = s.detection := rfl
@[simp] theorem State.modStore_release (s : State) (f : Store → Store) : (s.modStore f).release = s.release := rfl
@[simp] theorem State.modStore_estimate (s : State) (f : Store → Store) : (s.modStore f).estimate = s.estimate := rfl
@[simp] theorem State.modStore_doors (s : State) (f : Store → Store) : (s.modStore f).doors = s.doors := rfl
@[simp] theorem State.modStore_queue (s : State) (f : Store → Store) : (s.modStore f).queue = s.queue := rfl
@[simp] theorem State.modStore_motions (s : State) (f : Store → Store) : (s.modStore f).motions = s.motions := rfl
@[simp] theorem State.modStore_gateClosed (s : State) (f : Store → Store) :
    (s.modStore f).gateClosed = s.gateClosed := rfl
@[simp] theorem State.modStore_clock (s : State) (f : Store → Store) : (s.modStore f).clock = s.clock := rfl
@[simp] theorem State.modStore_period (s : State) (f : Store → Store) : (s.modStore f).period = s.period := rfl
@[simp] theorem State.modStore_readers (s : State) (f : Store → Store) : (s.modStore f).readers = s.readers := rfl
@[simp] theorem State.modStore_custody (s : State) (f : Store → Store) : (s.modStore f).custody = s.custody := rfl
@[simp] theorem State.modStore_occupancy (s : State) (f : Store → Store) :
    (s.modStore f).occupancy = s.occupancy := rfl
@[simp] theorem State.modStore_loneTimer (s : State) (f : Store → Store) :
    (s.modStore f).loneTimer = s.loneTimer := rfl
@[simp] theorem State.modStore_loneOutrun (s : State) (f : Store → Store) :
    (s.modStore f).loneOutrun = s.loneOutrun := rfl
@[simp] theorem State.modStore_alarm (s : State) (f : Store → Store) : (s.modStore f).alarm = s.alarm := rfl
@[simp] theorem State.modStore_outputs (s : State) (f : Store → Store) : (s.modStore f).outputs = s.outputs := rfl
@[simp] theorem State.modStore_line (s : State) (f : Store → Store) : (s.modStore f).line = s.line := rfl
@[simp] theorem State.modStore_link (s : State) (f : Store → Store) : (s.modStore f).link = s.link := rfl

/-! ### State.modAlarm -/

@[simp] theorem State.modAlarm_pending (s : State) (f : Alarm → Alarm) : (s.modAlarm f).pending = s.pending := rfl
@[simp] theorem State.modAlarm_free (s : State) (f : Alarm → Alarm) : (s.modAlarm f).free = s.free := rfl
@[simp] theorem State.modAlarm_store (s : State) (f : Alarm → Alarm) : (s.modAlarm f).store = s.store := rfl
@[simp] theorem State.modAlarm_journal (s : State) (f : Alarm → Alarm) : (s.modAlarm f).journal = s.journal := rfl
@[simp] theorem State.modAlarm_inputs (s : State) (f : Alarm → Alarm) : (s.modAlarm f).inputs = s.inputs := rfl
@[simp] theorem State.modAlarm_channels (s : State) (f : Alarm → Alarm) : (s.modAlarm f).channels = s.channels := rfl
@[simp] theorem State.modAlarm_detection (s : State) (f : Alarm → Alarm) :
    (s.modAlarm f).detection = s.detection := rfl
@[simp] theorem State.modAlarm_release (s : State) (f : Alarm → Alarm) : (s.modAlarm f).release = s.release := rfl
@[simp] theorem State.modAlarm_estimate (s : State) (f : Alarm → Alarm) : (s.modAlarm f).estimate = s.estimate := rfl
@[simp] theorem State.modAlarm_doors (s : State) (f : Alarm → Alarm) : (s.modAlarm f).doors = s.doors := rfl
@[simp] theorem State.modAlarm_queue (s : State) (f : Alarm → Alarm) : (s.modAlarm f).queue = s.queue := rfl
@[simp] theorem State.modAlarm_motions (s : State) (f : Alarm → Alarm) : (s.modAlarm f).motions = s.motions := rfl
@[simp] theorem State.modAlarm_gateClosed (s : State) (f : Alarm → Alarm) :
    (s.modAlarm f).gateClosed = s.gateClosed := rfl
@[simp] theorem State.modAlarm_clock (s : State) (f : Alarm → Alarm) : (s.modAlarm f).clock = s.clock := rfl
@[simp] theorem State.modAlarm_period (s : State) (f : Alarm → Alarm) : (s.modAlarm f).period = s.period := rfl
@[simp] theorem State.modAlarm_readers (s : State) (f : Alarm → Alarm) : (s.modAlarm f).readers = s.readers := rfl
@[simp] theorem State.modAlarm_custody (s : State) (f : Alarm → Alarm) : (s.modAlarm f).custody = s.custody := rfl
@[simp] theorem State.modAlarm_occupancy (s : State) (f : Alarm → Alarm) :
    (s.modAlarm f).occupancy = s.occupancy := rfl
@[simp] theorem State.modAlarm_loneTimer (s : State) (f : Alarm → Alarm) :
    (s.modAlarm f).loneTimer = s.loneTimer := rfl
@[simp] theorem State.modAlarm_loneOutrun (s : State) (f : Alarm → Alarm) :
    (s.modAlarm f).loneOutrun = s.loneOutrun := rfl
@[simp] theorem State.modAlarm_alarm (s : State) (f : Alarm → Alarm) : (s.modAlarm f).alarm = f s.alarm := rfl
@[simp] theorem State.modAlarm_outputs (s : State) (f : Alarm → Alarm) : (s.modAlarm f).outputs = s.outputs := rfl
@[simp] theorem State.modAlarm_line (s : State) (f : Alarm → Alarm) : (s.modAlarm f).line = s.line := rfl
@[simp] theorem State.modAlarm_link (s : State) (f : Alarm → Alarm) : (s.modAlarm f).link = s.link := rfl

/-! ### State.modLine -/

@[simp] theorem State.modLine_pending (s : State) (f : Line → Line) : (s.modLine f).pending = s.pending := rfl
@[simp] theorem State.modLine_free (s : State) (f : Line → Line) : (s.modLine f).free = s.free := rfl
@[simp] theorem State.modLine_store (s : State) (f : Line → Line) : (s.modLine f).store = s.store := rfl
@[simp] theorem State.modLine_journal (s : State) (f : Line → Line) : (s.modLine f).journal = s.journal := rfl
@[simp] theorem State.modLine_inputs (s : State) (f : Line → Line) : (s.modLine f).inputs = s.inputs := rfl
@[simp] theorem State.modLine_channels (s : State) (f : Line → Line) : (s.modLine f).channels = s.channels := rfl
@[simp] theorem State.modLine_detection (s : State) (f : Line → Line) : (s.modLine f).detection = s.detection := rfl
@[simp] theorem State.modLine_release (s : State) (f : Line → Line) : (s.modLine f).release = s.release := rfl
@[simp] theorem State.modLine_estimate (s : State) (f : Line → Line) : (s.modLine f).estimate = s.estimate := rfl
@[simp] theorem State.modLine_doors (s : State) (f : Line → Line) : (s.modLine f).doors = s.doors := rfl
@[simp] theorem State.modLine_queue (s : State) (f : Line → Line) : (s.modLine f).queue = s.queue := rfl
@[simp] theorem State.modLine_motions (s : State) (f : Line → Line) : (s.modLine f).motions = s.motions := rfl
@[simp] theorem State.modLine_gateClosed (s : State) (f : Line → Line) :
    (s.modLine f).gateClosed = s.gateClosed := rfl
@[simp] theorem State.modLine_clock (s : State) (f : Line → Line) : (s.modLine f).clock = s.clock := rfl
@[simp] theorem State.modLine_period (s : State) (f : Line → Line) : (s.modLine f).period = s.period := rfl
@[simp] theorem State.modLine_readers (s : State) (f : Line → Line) : (s.modLine f).readers = s.readers := rfl
@[simp] theorem State.modLine_custody (s : State) (f : Line → Line) : (s.modLine f).custody = s.custody := rfl
@[simp] theorem State.modLine_occupancy (s : State) (f : Line → Line) : (s.modLine f).occupancy = s.occupancy := rfl
@[simp] theorem State.modLine_loneTimer (s : State) (f : Line → Line) : (s.modLine f).loneTimer = s.loneTimer := rfl
@[simp] theorem State.modLine_loneOutrun (s : State) (f : Line → Line) :
    (s.modLine f).loneOutrun = s.loneOutrun := rfl
@[simp] theorem State.modLine_alarm (s : State) (f : Line → Line) : (s.modLine f).alarm = s.alarm := rfl
@[simp] theorem State.modLine_outputs (s : State) (f : Line → Line) : (s.modLine f).outputs = s.outputs := rfl
@[simp] theorem State.modLine_line (s : State) (f : Line → Line) : (s.modLine f).line = f s.line := rfl
@[simp] theorem State.modLine_link (s : State) (f : Line → Line) : (s.modLine f).link = s.link := rfl

/-! ### State.modRun -/

@[simp] theorem State.modRun_pending (s : State) (f : RunRecord → RunRecord) : (s.modRun f).pending = s.pending := rfl
@[simp] theorem State.modRun_free (s : State) (f : RunRecord → RunRecord) : (s.modRun f).free = s.free := rfl
@[simp] theorem State.modRun_store (s : State) (f : RunRecord → RunRecord) : (s.modRun f).store = s.store := rfl
@[simp] theorem State.modRun_journal (s : State) (f : RunRecord → RunRecord) : (s.modRun f).journal = s.journal := rfl
@[simp] theorem State.modRun_inputs (s : State) (f : RunRecord → RunRecord) : (s.modRun f).inputs = s.inputs := rfl
@[simp] theorem State.modRun_channels (s : State) (f : RunRecord → RunRecord) :
    (s.modRun f).channels = s.channels := rfl
@[simp] theorem State.modRun_detection (s : State) (f : RunRecord → RunRecord) :
    (s.modRun f).detection = s.detection := rfl
@[simp] theorem State.modRun_release (s : State) (f : RunRecord → RunRecord) : (s.modRun f).release = s.release := rfl
@[simp] theorem State.modRun_estimate (s : State) (f : RunRecord → RunRecord) :
    (s.modRun f).estimate = s.estimate := rfl
@[simp] theorem State.modRun_doors (s : State) (f : RunRecord → RunRecord) : (s.modRun f).doors = s.doors := rfl
@[simp] theorem State.modRun_queue (s : State) (f : RunRecord → RunRecord) : (s.modRun f).queue = s.queue := rfl
@[simp] theorem State.modRun_motions (s : State) (f : RunRecord → RunRecord) : (s.modRun f).motions = s.motions := rfl
@[simp] theorem State.modRun_gateClosed (s : State) (f : RunRecord → RunRecord) :
    (s.modRun f).gateClosed = s.gateClosed := rfl
@[simp] theorem State.modRun_clock (s : State) (f : RunRecord → RunRecord) : (s.modRun f).clock = s.clock := rfl
@[simp] theorem State.modRun_period (s : State) (f : RunRecord → RunRecord) : (s.modRun f).period = s.period := rfl
@[simp] theorem State.modRun_readers (s : State) (f : RunRecord → RunRecord) : (s.modRun f).readers = s.readers := rfl
@[simp] theorem State.modRun_custody (s : State) (f : RunRecord → RunRecord) : (s.modRun f).custody = s.custody := rfl
@[simp] theorem State.modRun_occupancy (s : State) (f : RunRecord → RunRecord) :
    (s.modRun f).occupancy = s.occupancy := rfl
@[simp] theorem State.modRun_loneTimer (s : State) (f : RunRecord → RunRecord) :
    (s.modRun f).loneTimer = s.loneTimer := rfl
@[simp] theorem State.modRun_loneOutrun (s : State) (f : RunRecord → RunRecord) :
    (s.modRun f).loneOutrun = s.loneOutrun := rfl
@[simp] theorem State.modRun_alarm (s : State) (f : RunRecord → RunRecord) : (s.modRun f).alarm = s.alarm := rfl
@[simp] theorem State.modRun_outputs (s : State) (f : RunRecord → RunRecord) : (s.modRun f).outputs = s.outputs := rfl
@[simp] theorem State.modRun_line (s : State) (f : RunRecord → RunRecord) :
    (s.modRun f).line = { s.line with run := f s.line.run } := rfl
@[simp] theorem State.modRun_link (s : State) (f : RunRecord → RunRecord) : (s.modRun f).link = s.link := rfl

/-! ### State.modLink -/

@[simp] theorem State.modLink_pending (s : State) (f : Link → Link) : (s.modLink f).pending = s.pending := rfl
@[simp] theorem State.modLink_free (s : State) (f : Link → Link) : (s.modLink f).free = s.free := rfl
@[simp] theorem State.modLink_store (s : State) (f : Link → Link) : (s.modLink f).store = s.store := rfl
@[simp] theorem State.modLink_journal (s : State) (f : Link → Link) : (s.modLink f).journal = s.journal := rfl
@[simp] theorem State.modLink_inputs (s : State) (f : Link → Link) : (s.modLink f).inputs = s.inputs := rfl
@[simp] theorem State.modLink_channels (s : State) (f : Link → Link) : (s.modLink f).channels = s.channels := rfl
@[simp] theorem State.modLink_detection (s : State) (f : Link → Link) : (s.modLink f).detection = s.detection := rfl
@[simp] theorem State.modLink_release (s : State) (f : Link → Link) : (s.modLink f).release = s.release := rfl
@[simp] theorem State.modLink_estimate (s : State) (f : Link → Link) : (s.modLink f).estimate = s.estimate := rfl
@[simp] theorem State.modLink_doors (s : State) (f : Link → Link) : (s.modLink f).doors = s.doors := rfl
@[simp] theorem State.modLink_queue (s : State) (f : Link → Link) : (s.modLink f).queue = s.queue := rfl
@[simp] theorem State.modLink_motions (s : State) (f : Link → Link) : (s.modLink f).motions = s.motions := rfl
@[simp] theorem State.modLink_gateClosed (s : State) (f : Link → Link) :
    (s.modLink f).gateClosed = s.gateClosed := rfl
@[simp] theorem State.modLink_clock (s : State) (f : Link → Link) : (s.modLink f).clock = s.clock := rfl
@[simp] theorem State.modLink_period (s : State) (f : Link → Link) : (s.modLink f).period = s.period := rfl
@[simp] theorem State.modLink_readers (s : State) (f : Link → Link) : (s.modLink f).readers = s.readers := rfl
@[simp] theorem State.modLink_custody (s : State) (f : Link → Link) : (s.modLink f).custody = s.custody := rfl
@[simp] theorem State.modLink_occupancy (s : State) (f : Link → Link) : (s.modLink f).occupancy = s.occupancy := rfl
@[simp] theorem State.modLink_loneTimer (s : State) (f : Link → Link) : (s.modLink f).loneTimer = s.loneTimer := rfl
@[simp] theorem State.modLink_loneOutrun (s : State) (f : Link → Link) :
    (s.modLink f).loneOutrun = s.loneOutrun := rfl
@[simp] theorem State.modLink_alarm (s : State) (f : Link → Link) : (s.modLink f).alarm = s.alarm := rfl
@[simp] theorem State.modLink_outputs (s : State) (f : Link → Link) : (s.modLink f).outputs = s.outputs := rfl
@[simp] theorem State.modLink_line (s : State) (f : Link → Link) : (s.modLink f).line = s.line := rfl
@[simp] theorem State.modLink_link (s : State) (f : Link → Link) : (s.modLink f).link = f s.link := rfl

/-! ### State.setClock -/

@[simp] theorem State.setClock_pending (s : State) (c : Clock) : (s.setClock c).pending = s.pending := rfl
@[simp] theorem State.setClock_free (s : State) (c : Clock) : (s.setClock c).free = s.free := rfl
@[simp] theorem State.setClock_store (s : State) (c : Clock) : (s.setClock c).store = s.store := rfl
@[simp] theorem State.setClock_journal (s : State) (c : Clock) : (s.setClock c).journal = s.journal := rfl
@[simp] theorem State.setClock_inputs (s : State) (c : Clock) : (s.setClock c).inputs = s.inputs := rfl
@[simp] theorem State.setClock_channels (s : State) (c : Clock) : (s.setClock c).channels = s.channels := rfl
@[simp] theorem State.setClock_detection (s : State) (c : Clock) : (s.setClock c).detection = s.detection := rfl
@[simp] theorem State.setClock_release (s : State) (c : Clock) : (s.setClock c).release = s.release := rfl
@[simp] theorem State.setClock_estimate (s : State) (c : Clock) : (s.setClock c).estimate = s.estimate := rfl
@[simp] theorem State.setClock_doors (s : State) (c : Clock) : (s.setClock c).doors = s.doors := rfl
@[simp] theorem State.setClock_queue (s : State) (c : Clock) : (s.setClock c).queue = s.queue := rfl
@[simp] theorem State.setClock_motions (s : State) (c : Clock) : (s.setClock c).motions = s.motions := rfl
@[simp] theorem State.setClock_gateClosed (s : State) (c : Clock) : (s.setClock c).gateClosed = s.gateClosed := rfl
@[simp] theorem State.setClock_clock (s : State) (c : Clock) : (s.setClock c).clock = c := rfl
@[simp] theorem State.setClock_period (s : State) (c : Clock) : (s.setClock c).period = s.period := rfl
@[simp] theorem State.setClock_readers (s : State) (c : Clock) : (s.setClock c).readers = s.readers := rfl
@[simp] theorem State.setClock_custody (s : State) (c : Clock) : (s.setClock c).custody = s.custody := rfl
@[simp] theorem State.setClock_occupancy (s : State) (c : Clock) : (s.setClock c).occupancy = s.occupancy := rfl
@[simp] theorem State.setClock_loneTimer (s : State) (c : Clock) : (s.setClock c).loneTimer = s.loneTimer := rfl
@[simp] theorem State.setClock_loneOutrun (s : State) (c : Clock) : (s.setClock c).loneOutrun = s.loneOutrun := rfl
@[simp] theorem State.setClock_alarm (s : State) (c : Clock) : (s.setClock c).alarm = s.alarm := rfl
@[simp] theorem State.setClock_outputs (s : State) (c : Clock) : (s.setClock c).outputs = s.outputs := rfl
@[simp] theorem State.setClock_line (s : State) (c : Clock) : (s.setClock c).line = s.line := rfl
@[simp] theorem State.setClock_link (s : State) (c : Clock) : (s.setClock c).link = s.link := rfl

/-! ### State.modRecord -/

@[simp] theorem State.modRecord_pending (s : State) (z : Zone) (f : ZoneRecord → ZoneRecord) :
    (s.modRecord z f).pending = s.pending := rfl
@[simp] theorem State.modRecord_free (s : State) (z : Zone) (f : ZoneRecord → ZoneRecord) :
    (s.modRecord z f).free = s.free := rfl
@[simp] theorem State.modRecord_store (s : State) (z : Zone) (f : ZoneRecord → ZoneRecord) :
    (s.modRecord z f).store = { s.store with records := upd s.store.records z f } := rfl
@[simp] theorem State.modRecord_journal (s : State) (z : Zone) (f : ZoneRecord → ZoneRecord) :
    (s.modRecord z f).journal = s.journal := rfl
@[simp] theorem State.modRecord_inputs (s : State) (z : Zone) (f : ZoneRecord → ZoneRecord) :
    (s.modRecord z f).inputs = s.inputs := rfl
@[simp] theorem State.modRecord_channels (s : State) (z : Zone) (f : ZoneRecord → ZoneRecord) :
    (s.modRecord z f).channels = s.channels := rfl
@[simp] theorem State.modRecord_detection (s : State) (z : Zone) (f : ZoneRecord → ZoneRecord) :
    (s.modRecord z f).detection = s.detection := rfl
@[simp] theorem State.modRecord_release (s : State) (z : Zone) (f : ZoneRecord → ZoneRecord) :
    (s.modRecord z f).release = s.release := rfl
@[simp] theorem State.modRecord_estimate (s : State) (z : Zone) (f : ZoneRecord → ZoneRecord) :
    (s.modRecord z f).estimate = s.estimate := rfl
@[simp] theorem State.modRecord_doors (s : State) (z : Zone) (f : ZoneRecord → ZoneRecord) :
    (s.modRecord z f).doors = s.doors := rfl
@[simp] theorem State.modRecord_queue (s : State) (z : Zone) (f : ZoneRecord → ZoneRecord) :
    (s.modRecord z f).queue = s.queue := rfl
@[simp] theorem State.modRecord_motions (s : State) (z : Zone) (f : ZoneRecord → ZoneRecord) :
    (s.modRecord z f).motions = s.motions := rfl
@[simp] theorem State.modRecord_gateClosed (s : State) (z : Zone) (f : ZoneRecord → ZoneRecord) :
    (s.modRecord z f).gateClosed = s.gateClosed := rfl
@[simp] theorem State.modRecord_clock (s : State) (z : Zone) (f : ZoneRecord → ZoneRecord) :
    (s.modRecord z f).clock = s.clock := rfl
@[simp] theorem State.modRecord_period (s : State) (z : Zone) (f : ZoneRecord → ZoneRecord) :
    (s.modRecord z f).period = s.period := rfl
@[simp] theorem State.modRecord_readers (s : State) (z : Zone) (f : ZoneRecord → ZoneRecord) :
    (s.modRecord z f).readers = s.readers := rfl
@[simp] theorem State.modRecord_custody (s : State) (z : Zone) (f : ZoneRecord → ZoneRecord) :
    (s.modRecord z f).custody = s.custody := rfl
@[simp] theorem State.modRecord_occupancy (s : State) (z : Zone) (f : ZoneRecord → ZoneRecord) :
    (s.modRecord z f).occupancy = s.occupancy := rfl
@[simp] theorem State.modRecord_loneTimer (s : State) (z : Zone) (f : ZoneRecord → ZoneRecord) :
    (s.modRecord z f).loneTimer = s.loneTimer := rfl
@[simp] theorem State.modRecord_loneOutrun (s : State) (z : Zone) (f : ZoneRecord → ZoneRecord) :
    (s.modRecord z f).loneOutrun = s.loneOutrun := rfl
@[simp] theorem State.modRecord_alarm (s : State) (z : Zone) (f : ZoneRecord → ZoneRecord) :
    (s.modRecord z f).alarm = s.alarm := rfl
@[simp] theorem State.modRecord_outputs (s : State) (z : Zone) (f : ZoneRecord → ZoneRecord) :
    (s.modRecord z f).outputs = s.outputs := rfl
@[simp] theorem State.modRecord_line (s : State) (z : Zone) (f : ZoneRecord → ZoneRecord) :
    (s.modRecord z f).line = s.line := rfl
@[simp] theorem State.modRecord_link (s : State) (z : Zone) (f : ZoneRecord → ZoneRecord) :
    (s.modRecord z f).link = s.link := rfl

/-! ### heardActivity -/

@[simp] theorem heardActivity_pending (s : State) : (heardActivity s).pending = s.pending := rfl
@[simp] theorem heardActivity_free (s : State) : (heardActivity s).free = s.free := rfl
@[simp] theorem heardActivity_store (s : State) : (heardActivity s).store = s.store := rfl
@[simp] theorem heardActivity_journal (s : State) : (heardActivity s).journal = s.journal := rfl
@[simp] theorem heardActivity_inputs (s : State) : (heardActivity s).inputs = s.inputs := rfl
@[simp] theorem heardActivity_channels (s : State) : (heardActivity s).channels = s.channels := rfl
@[simp] theorem heardActivity_detection (s : State) : (heardActivity s).detection = s.detection := rfl
@[simp] theorem heardActivity_release (s : State) : (heardActivity s).release = s.release := rfl
@[simp] theorem heardActivity_estimate (s : State) : (heardActivity s).estimate = s.estimate := rfl
@[simp] theorem heardActivity_doors (s : State) : (heardActivity s).doors = s.doors := rfl
@[simp] theorem heardActivity_queue (s : State) : (heardActivity s).queue = s.queue := rfl
@[simp] theorem heardActivity_motions (s : State) : (heardActivity s).motions = s.motions := rfl
@[simp] theorem heardActivity_gateClosed (s : State) : (heardActivity s).gateClosed = s.gateClosed := rfl
@[simp] theorem heardActivity_clock (s : State) : (heardActivity s).clock = s.clock := rfl
@[simp] theorem heardActivity_period (s : State) : (heardActivity s).period = s.period := rfl
@[simp] theorem heardActivity_readers (s : State) : (heardActivity s).readers = s.readers := rfl
@[simp] theorem heardActivity_custody (s : State) : (heardActivity s).custody = s.custody := rfl
@[simp] theorem heardActivity_occupancy (s : State) : (heardActivity s).occupancy = s.occupancy := rfl
@[simp] theorem heardActivity_loneTimer (s : State) : (heardActivity s).loneTimer = s.loneTimer := rfl
@[simp] theorem heardActivity_loneOutrun (s : State) : (heardActivity s).loneOutrun = s.loneOutrun := rfl
@[simp] theorem heardActivity_alarm (s : State) : (heardActivity s).alarm = s.alarm := rfl
@[simp] theorem heardActivity_outputs (s : State) : (heardActivity s).outputs = s.outputs := rfl
@[simp] theorem heardActivity_line (s : State) : (heardActivity s).line = s.line := rfl
@[simp] theorem heardActivity_link (s : State) : (heardActivity s).link = Link.heard s.link := rfl

/-! ### reply -/

@[simp] theorem reply_pending (s : State) (k : Nat) (st : Status) (b : ReplyBody) :
    (reply k st b s).pending = s.pending := rfl
@[simp] theorem reply_free (s : State) (k : Nat) (st : Status) (b : ReplyBody) : (reply k st b s).free = s.free := rfl
@[simp] theorem reply_store (s : State) (k : Nat) (st : Status) (b : ReplyBody) :
    (reply k st b s).store = s.store := rfl
@[simp] theorem reply_journal (s : State) (k : Nat) (st : Status) (b : ReplyBody) :
    (reply k st b s).journal = s.journal := rfl
@[simp] theorem reply_inputs (s : State) (k : Nat) (st : Status) (b : ReplyBody) :
    (reply k st b s).inputs = s.inputs := rfl
@[simp] theorem reply_channels (s : State) (k : Nat) (st : Status) (b : ReplyBody) :
    (reply k st b s).channels = s.channels := rfl
@[simp] theorem reply_detection (s : State) (k : Nat) (st : Status) (b : ReplyBody) :
    (reply k st b s).detection = s.detection := rfl
@[simp] theorem reply_release (s : State) (k : Nat) (st : Status) (b : ReplyBody) :
    (reply k st b s).release = s.release := rfl
@[simp] theorem reply_estimate (s : State) (k : Nat) (st : Status) (b : ReplyBody) :
    (reply k st b s).estimate = s.estimate := rfl
@[simp] theorem reply_doors (s : State) (k : Nat) (st : Status) (b : ReplyBody) :
    (reply k st b s).doors = s.doors := rfl
@[simp] theorem reply_queue (s : State) (k : Nat) (st : Status) (b : ReplyBody) :
    (reply k st b s).queue = s.queue := rfl
@[simp] theorem reply_motions (s : State) (k : Nat) (st : Status) (b : ReplyBody) :
    (reply k st b s).motions = s.motions := rfl
@[simp] theorem reply_gateClosed (s : State) (k : Nat) (st : Status) (b : ReplyBody) :
    (reply k st b s).gateClosed = s.gateClosed := rfl
@[simp] theorem reply_clock (s : State) (k : Nat) (st : Status) (b : ReplyBody) :
    (reply k st b s).clock = s.clock := rfl
@[simp] theorem reply_period (s : State) (k : Nat) (st : Status) (b : ReplyBody) :
    (reply k st b s).period = s.period := rfl
@[simp] theorem reply_readers (s : State) (k : Nat) (st : Status) (b : ReplyBody) :
    (reply k st b s).readers = s.readers := rfl
@[simp] theorem reply_custody (s : State) (k : Nat) (st : Status) (b : ReplyBody) :
    (reply k st b s).custody = s.custody := rfl
@[simp] theorem reply_occupancy (s : State) (k : Nat) (st : Status) (b : ReplyBody) :
    (reply k st b s).occupancy = s.occupancy := rfl
@[simp] theorem reply_loneTimer (s : State) (k : Nat) (st : Status) (b : ReplyBody) :
    (reply k st b s).loneTimer = s.loneTimer := rfl
@[simp] theorem reply_loneOutrun (s : State) (k : Nat) (st : Status) (b : ReplyBody) :
    (reply k st b s).loneOutrun = s.loneOutrun := rfl
@[simp] theorem reply_alarm (s : State) (k : Nat) (st : Status) (b : ReplyBody) :
    (reply k st b s).alarm = s.alarm := rfl
@[simp] theorem reply_outputs (s : State) (k : Nat) (st : Status) (b : ReplyBody) :
    (reply k st b s).outputs = s.outputs := rfl
@[simp] theorem reply_line (s : State) (k : Nat) (st : Status) (b : ReplyBody) : (reply k st b s).line = s.line := rfl
@[simp] theorem reply_link (s : State) (k : Nat) (st : Status) (b : ReplyBody) :
    (reply k st b s).link = { Link.heard s.link with reply := some ⟨BitVec.ofNat 8 k, st, b⟩ } := rfl

/-! ### Line activity (R163) -/

/-- A slot that has heard activity has heard it. -/
@[simp] theorem Link.heard_heard (l : Link) : Link.heard (Link.heard l) = Link.heard l := by
  simp [Link.heard, Option.map_map, Function.comp_def]

/-- A slot that waited has heard activity; a slot that none waits for stays so. -/
theorem Link.heard_slot (l : Link) : (Link.heard l).slot = l.slot.map fun _ => true := rfl

end Sys2Proof.Machine
end

