-- ==== Sys2Proof/Laws/Signals.lean ====
section
/-! SUPPORT. What records, sources, outputs and test-run turns can change: one lemma per operation of Machine/Alarm.lean,
to be cited instead of unfolding it. -/

namespace Sys2Proof.Machine

/-! ## Folding -/

@[simp] theorem forEach_nil {α : Type} (f : α → State → State) (s : State) : forEach [] f s = s := rfl
theorem forEach_cons {α : Type} (a : α) (l : List α) (f : α → State → State) (s : State) :
    forEach (a :: l) f s = forEach l f (f a s) := rfl

/-- A reflexive and transitive relation that every part keeps is kept by the fold. -/
theorem forEach_rel {α : Type} {R : State → State → Prop} (refl : ∀ s, R s s)
    (trans : ∀ s t u, R s t → R t u → R s u) (f : α → State → State) :
    ∀ (l : List α) (s : State), (∀ a ∈ l, ∀ s, R s (f a s)) → R s (forEach l f s)
  | [], s, _ => refl s
  | a :: l, s, h =>
    trans _ _ _ (h a (by simp) s) (forEach_rel refl trans f l (f a s) fun b hb => h b (by simp [hb]))

/-- A property that every part keeps is kept by the fold. -/
theorem forEach_keeps {α : Type} {P : State → Prop} (f : α → State → State) (l : List α) (s : State)
    (h : ∀ a ∈ l, ∀ s, P s → P (f a s)) (hs : P s) : P (forEach l f s) :=
  forEach_rel (R := fun s t => P s → P t) (fun _ h => h) (fun _ _ _ h1 h2 h => h2 (h1 h)) f l s h hs

/-! ## The relation `Signals` -/

theorem Signals.refl (s : State) : Signals s s := by constructor <;> rfl

theorem Signals.trans {s t u : State} (h1 : Signals s t) (h2 : Signals t u) : Signals s u where
  pending := h2.pending.trans h1.pending
  free := h2.free.trans h1.free
  store := h2.store.trans h1.store
  inputs := h2.inputs.trans h1.inputs
  channels := h2.channels.trans h1.channels
  detection := h2.detection.trans h1.detection
  release := h2.release.trans h1.release
  estimate := h2.estimate.trans h1.estimate
  doors := h2.doors.trans h1.doors
  queue := h2.queue.trans h1.queue
  motions := h2.motions.trans h1.motions
  gateClosed := h2.gateClosed.trans h1.gateClosed
  clock := h2.clock.trans h1.clock
  period := h2.period.trans h1.period
  readers := h2.readers.trans h1.readers
  custody := h2.custody.trans h1.custody
  occupancy := h2.occupancy.trans h1.occupancy
  loneTimer := h2.loneTimer.trans h1.loneTimer
  loneOutrun := h2.loneOutrun.trans h1.loneOutrun
  link := h2.link.trans h1.link
  flags := h2.flags.trans h1.flags
  supply := h2.supply.trans h1.supply
  periodic := h2.periodic.trans h1.periodic
  checks := h2.checks.trans h1.checks

/-! ## The relation `Affects` -/

theorem Affects.refl (srcs : List Source) (s : State) : Affects srcs s s :=
  ⟨Signals.refl s, rfl, Nat.le_refl _, rfl, fun _ _ _ => rfl, fun _ _ _ => rfl, fun _ _ => rfl⟩

theorem Affects.trans {srcs : List Source} {s t u : State} (h1 : Affects srcs s t) (h2 : Affects srcs t u) :
    Affects srcs s u where
  toSignals := h1.toSignals.trans h2.toSignals
  inService := h2.inService.trans h1.inService
  newest := Nat.le_trans h1.newest h2.newest
  boundary := h2.boundary.trans h1.boundary
  pendingSame src h hb := (h2.pendingSame src h hb).trans (h1.pendingSame src h hb)
  conditionSame src h hb := (h2.conditionSame src h hb).trans (h1.conditionSame src h hb)
  outputSame o h := (h2.outputSame o (by rw [h1.store]; exact h)).trans (h1.outputSame o h)

theorem Affects.mono {srcs srcs' : List Source} {s t : State} (h : Affects srcs s t) (sub : ∀ x ∈ srcs, x ∈ srcs') :
    Affects srcs' s t :=
  { h with
    pendingSame := fun src hn hb => h.pendingSame src (fun hm => hn (sub src hm)) hb
    conditionSame := fun src hn hb => h.conditionSame src (fun hm => hn (sub src hm)) hb
    outputSame := fun o ho => h.outputSame o fun src hs => ⟨fun hm => (ho src hs).1 (sub src hm), (ho src hs).2⟩ }

/-- A change of the test-run record alone. -/
theorem modRun_affects (srcs : List Source) (f : RunRecord → RunRecord) (s : State) : Affects srcs s (s.modRun f) :=
  ⟨by constructor <;> rfl, rfl, Nat.le_refl _, rfl, fun _ _ _ => rfl, fun _ _ _ => rfl, fun _ _ => rfl⟩

/-- A change of an output that lists one of the sources. -/
theorem modOutput_affects {srcs : List Source} (o : OutputNo) (f : Output → Output) (s : State)
    (ho : ∃ src ∈ s.store.outputs[o].sources, src ∈ srcs ∨ src = Source.backlog) :
    Affects srcs s (s.modOutput o f) :=
  ⟨by constructor <;> rfl, rfl, Nat.le_refl _, rfl, fun _ _ _ => rfl, fun _ _ _ => rfl, fun o' h => by
    obtain ⟨src, hs, hm⟩ := ho
    refine upd_other _ _ _ _ ?_
    rintro rfl
    rcases hm with hm | hm
    · exact (h src hs).1 hm
    · exact (h src hs).2 hm⟩

/-- A change of the attention suppression alone. -/
theorem suppress_affects (srcs : List Source) (b : Bool) (s : State) :
    Affects srcs s (s.modAlarm fun a => { a with suppressed := b }) :=
  ⟨by constructor <;> rfl, rfl, Nat.le_refl _, rfl, fun _ _ _ => rfl, fun _ _ _ => rfl, fun _ _ => rfl⟩

/-- The raw journal write changes the journal alone. -/
theorem pushRecord_affects (srcs : List Source) (k : RecordKind) (a b : Nat) (d : Detail) (s : State) :
    Affects srcs s (pushRecord k a b d s) := by
  unfold pushRecord
  split
  · exact ⟨by constructor <;> rfl, rfl, Nat.le_succ _, rfl, fun _ _ _ => rfl, fun _ _ _ => rfl, fun _ _ => rfl⟩
  · exact Affects.refl _ _

/-! ## Outputs, pending flags, conditions over a `react` that keeps to the same sources -/

section
variable {srcs : List Source} {react : CircuitNo → State → State}

theorem refreshOutputWith_affects (hr : ∀ c s, Affects srcs s (react c s)) (o : OutputNo) (s : State)
    (ho : ∃ src ∈ s.store.outputs[o].sources, src ∈ srcs ∨ src = Source.backlog) :
    Affects srcs s (refreshOutputWith react o s) := by
  unfold refreshOutputWith
  split
  · exact Affects.refl _ _
  · split
    · exact (modOutput_affects o _ s ho).trans (hr _ _)
    · exact modOutput_affects o _ s ho

/-- Outputs that list a source of the relation, changed one by one. -/
theorem forOutputs_affects (f : OutputNo → State → State)
    (hf : ∀ o s, (∃ src ∈ s.store.outputs[o].sources, src ∈ srcs ∨ src = Source.backlog) → Affects srcs s (f o s)) :
    ∀ (l : List OutputNo) (s : State),
      (∀ o ∈ l, ∃ src ∈ s.store.outputs[o].sources, src ∈ srcs ∨ src = Source.backlog) → Affects srcs s (forEach l f s)
  | [], s, _ => Affects.refl _ _
  | o :: l, s, h => by
    have h1 := hf o s (h o (by simp))
    refine h1.trans (forOutputs_affects f hf l _ fun o' ho' => ?_)
    rw [h1.store]
    exact h o' (by simp [ho'])

theorem outputsListing_mem {s : State} {src : Source} {o : OutputNo} (h : o ∈ outputsListing s src) :
    src ∈ s.store.outputs[o].sources := by
  simp only [outputsListing, List.mem_filter] at h
  simpa using h.2

theorem deliverWith_affects (hr : ∀ c s, Affects srcs s (react c s)) (src : Source) (s : State)
    (hs : src ∈ srcs ∨ src = Source.backlog) : Affects srcs s (deliverWith react src s) :=
  forOutputs_affects _ (fun o s ho => refreshOutputWith_affects hr o s ho) _ s
    fun _ ho => ⟨src, outputsListing_mem ho, hs⟩

theorem clearSilence_affects (src : Source) (s : State) (hs : src ∈ srcs ∨ src = Source.backlog) :
    Affects srcs s (clearSilence src s) :=
  forOutputs_affects _ (fun o s ho => modOutput_affects o _ s ho) _ s fun _ ho => ⟨src, outputsListing_mem ho, hs⟩

/-- A change of the pending flag of one source. -/
theorem pendingFlag_affects (src : Source) (b : Bool) (s : State) (hs : src ∈ srcs ∨ src = Source.backlog) :
    Affects srcs s (s.modAlarm fun a => { a with pending := upd a.pending src fun _ => b }) :=
  ⟨by constructor <;> rfl, rfl, Nat.le_refl _, rfl,
    fun x hn hb => upd_other _ _ _ _ (by rintro rfl; exact hs.elim hn hb), fun _ _ _ => rfl, fun _ _ => rfl⟩

/-- A change of the recorded condition of one source. -/
theorem conditionFlag_affects (src : Source) (b : Bool) (s : State) (hs : src ∈ srcs ∨ src = Source.backlog) :
    Affects srcs s (s.modAlarm fun a => { a with condition := upd a.condition src fun _ => b }) :=
  ⟨by constructor <;> rfl, rfl, Nat.le_refl _, rfl, fun _ _ _ => rfl,
    fun x hn hb => upd_other _ _ _ _ (by rintro rfl; exact hs.elim hn hb), fun _ _ => rfl⟩

theorem setPendingWith_affects (hr : ∀ c s, Affects srcs s (react c s)) (src : Source) (b : Bool) (s : State)
    (hs : src ∈ srcs ∨ src = Source.backlog) : Affects srcs s (setPendingWith react src b s) := by
  unfold setPendingWith
  split
  · exact Affects.refl _ _
  · have h1 := pendingFlag_affects src b s hs
    refine Affects.trans ?_ (deliverWith_affects hr src _ hs)
    split <;> split
    · exact (h1.trans (clearSilence_affects src _ hs)).trans (suppress_affects _ _ _)
    · exact h1.trans (suppress_affects _ _ _)
    · exact h1.trans (clearSilence_affects src _ hs)
    · exact h1

theorem setConditionWith_affects (hr : ∀ c s, Affects srcs s (react c s)) (src : Source) (b : Bool) (s : State)
    (hs : src ∈ srcs ∨ src = Source.backlog) : Affects srcs s (setConditionWith react src b s) := by
  unfold setConditionWith
  split
  · exact Affects.refl _ _
  · have h1 := (conditionFlag_affects src b s hs).trans (deliverWith_affects hr src _ hs)
    dsimp only
    split
    · exact h1
    · exact h1.trans (setPendingWith_affects hr src _ _ hs)

theorem writeWith_affects (hr : ∀ c s, Affects srcs s (react c s)) (k : RecordKind) (a b : Nat) (d : Detail)
    (s : State) : Affects srcs s (writeWith react k a b d s) :=
  (pushRecord_affects srcs k a b d s).trans (setConditionWith_affects hr _ _ _ (Or.inr rfl))

end

/-! ## Turns of a test run -/

theorem endRun_affects (srcs : List Source) (s : State) : Affects srcs s (endRun s) :=
  (modRun_affects srcs _ s).trans (writeWith_affects (fun _ s => Affects.refl _ s) _ _ _ _ _)

theorem passTurn_affects (srcs : List Source) : ∀ (l : List CircuitNo) (s : State), Affects srcs s (passTurn l s)
  | [], s => endRun_affects srcs s
  | c :: l, s => by
    unfold passTurn
    split
    · split
      · exact (modRun_affects srcs _ s).trans (passTurn_affects srcs l _)
      · split
        · exact (modRun_affects srcs _ s).trans (passTurn_affects srcs l _)
        · exact modRun_affects srcs _ s
    · exact passTurn_affects srcs l s

theorem abandonCheck_affects (srcs : List Source) (c : CircuitNo) (s : State) : Affects srcs s (abandonCheck c s) := by
  unfold abandonCheck
  split
  · exact (modRun_affects srcs _ s).trans (passTurn_affects srcs _ _)
  · exact Affects.refl _ _

/-! ## The operations every block uses -/

/-- A record changes the journal, and what source 115 sets going. -/
theorem write_affects (srcs : List Source) (k : RecordKind) (a b : Nat) (d : Detail) (s : State) :
    Affects srcs s (write k a b d s) :=
  writeWith_affects (abandonCheck_affects srcs) k a b d s

theorem setCondition_affects (src : Source) (b : Bool) (s : State) : Affects [src] s (setCondition src b s) :=
  setConditionWith_affects (abandonCheck_affects _) src b s (Or.inl (by simp))

theorem setPending_affects (src : Source) (b : Bool) (s : State) : Affects [src] s (setPending src b s) :=
  setPendingWith_affects (abandonCheck_affects _) src b s (Or.inl (by simp))

theorem edgeEvent_affects (src : Source) (s : State) : Affects [src] s (edgeEvent src s) := setPending_affects src true s

theorem deliver_affects (src : Source) (s : State) : Affects [src] s (deliver src s) :=
  deliverWith_affects (abandonCheck_affects _) src s (Or.inl (by simp))

theorem writeConfig_affects (srcs : List Source) (a : Nat) (d : Detail) (s : State) :
    Affects srcs s (writeConfig a d s) :=
  write_affects srcs _ _ _ _ _

/-! ## The same as `Signals`, for frames -/

theorem write_signals (k : RecordKind) (a b : Nat) (d : Detail) (s : State) : Signals s (write k a b d s) :=
  (write_affects [] k a b d s).toSignals

theorem setCondition_signals (src : Source) (b : Bool) (s : State) : Signals s (setCondition src b s) :=
  (setCondition_affects src b s).toSignals

theorem edgeEvent_signals (src : Source) (s : State) : Signals s (edgeEvent src s) := (edgeEvent_affects src s).toSignals

theorem setPending_signals (src : Source) (b : Bool) (s : State) : Signals s (setPending src b s) :=
  (setPending_affects src b s).toSignals

theorem deliver_signals (src : Source) (s : State) : Signals s (deliver src s) := (deliver_affects src s).toSignals

theorem refreshOutput_signals (o : OutputNo) (s : State) : Signals s (refreshOutput o s) := by
  unfold refreshOutput refreshOutputWith
  split
  · exact Signals.refl _
  · split
    · exact Signals.trans (by constructor <;> rfl) (abandonCheck_affects [] _ _).toSignals
    · constructor <;> rfl

theorem liftSuppression_signals (before s : State) : Signals s (liftSuppression before s) := by
  unfold liftSuppression
  split
  · constructor <;> rfl
  · exact Signals.refl _

end Sys2Proof.Machine
end

