-- ==== Sys2Proof/Laws/Doors.lean ====
section
/-! SUPPORT. What the operations of the door controller can change: one lemma per operation of Machine/Doors.lean. -/

namespace Sys2Proof.Machine

theorem SameSettings.refl (a : Store) : SameSettings a a := by constructor <;> rfl

theorem SameSettings.trans {a b c : Store} (h1 : SameSettings a b) (h2 : SameSettings b c) : SameSettings a c where
  written := h2.written.trans h1.written
  inputs := h2.inputs.trans h1.inputs
  detectors := h2.detectors.trans h1.detectors
  zones := h2.zones.trans h1.zones
  doors := h2.doors.trans h1.doors
  slots := h2.slots.trans h1.slots
  credentials := h2.credentials.trans h1.credentials
  schedules := h2.schedules.trans h1.schedules
  holidays := h2.holidays.trans h1.holidays
  modes := h2.modes.trans h1.modes
  readers := h2.readers.trans h1.readers
  staff := h2.staff.trans h1.staff
  outputs := h2.outputs.trans h1.outputs
  sources := h2.sources.trans h1.sources
  threshold := h2.threshold.trans h1.threshold
  receiveTimeout := h2.receiveTimeout.trans h1.receiveTimeout
  testInterval := h2.testInterval.trans h1.testInterval

/-! ## The relation `Frame` -/

theorem Frame.refl {parts : List Part} {srcs : List Source} (s : State) : Frame parts srcs s s := by
  constructor <;> intros <;> first | rfl | exact Nat.le_refl _ | exact SameSettings.refl _

theorem Frame.trans {parts : List Part} {srcs : List Source} {s t u : State} (h1 : Frame parts srcs s t)
    (h2 : Frame parts srcs t u) : Frame parts srcs s u where
  pending := h2.pending.trans h1.pending
  free := h2.free.trans h1.free
  settings h := (h1.settings h).trans (h2.settings h)
  records h := (h2.records h).trans (h1.records h)
  inputs h := (h2.inputs h).trans (h1.inputs h)
  channels h := (h2.channels h).trans (h1.channels h)
  detection h := (h2.detection h).trans (h1.detection h)
  release h := (h2.release h).trans (h1.release h)
  estimate h := (h2.estimate h).trans (h1.estimate h)
  doors h := (h2.doors h).trans (h1.doors h)
  queue h := (h2.queue h).trans (h1.queue h)
  motions h := (h2.motions h).trans (h1.motions h)
  gateClosed h := (h2.gateClosed h).trans (h1.gateClosed h)
  clock h := (h2.clock h).trans (h1.clock h)
  period h := (h2.period h).trans (h1.period h)
  readers h := (h2.readers h).trans (h1.readers h)
  custody h := (h2.custody h).trans (h1.custody h)
  occupancy h := (h2.occupancy h).trans (h1.occupancy h)
  loneTimer h := (h2.loneTimer h).trans (h1.loneTimer h)
  loneOutrun h := (h2.loneOutrun h).trans (h1.loneOutrun h)
  flags h := (h2.flags h).trans (h1.flags h)
  supply h := (h2.supply h).trans (h1.supply h)
  periodic h := (h2.periodic h).trans (h1.periodic h)
  checks h := (h2.checks h).trans (h1.checks h)
  link h := (h2.link h).trans (h1.link h)
  inService := h2.inService.trans h1.inService
  newest := Nat.le_trans h1.newest h2.newest
  boundary := h2.boundary.trans h1.boundary
  pendingSame src h hb := (h2.pendingSame src h hb).trans (h1.pendingSame src h hb)
  conditionSame src h hb := (h2.conditionSame src h hb).trans (h1.conditionSame src h hb)
  outputSame hs o h := (h2.outputSame hs o (by rw [(h1.settings hs).outputs]; exact h)).trans (h1.outputSame hs o h)

theorem Frame.mono {parts parts' : List Part} {srcs srcs' : List Source} {s t : State} (h : Frame parts srcs s t)
    (hp : ∀ x ∈ parts, x ∈ parts') (hs : ∀ x ∈ srcs, x ∈ srcs') : Frame parts' srcs' s t where
  pending := h.pending
  free := h.free
  settings hn := h.settings fun hm => hn (hp _ hm)
  records hn := h.records fun hm => hn (hp _ hm)
  inputs hn := h.inputs fun hm => hn (hp _ hm)
  channels hn := h.channels fun hm => hn (hp _ hm)
  detection hn := h.detection fun hm => hn (hp _ hm)
  release hn := h.release fun hm => hn (hp _ hm)
  estimate hn := h.estimate fun hm => hn (hp _ hm)
  doors hn := h.doors fun hm => hn (hp _ hm)
  queue hn := h.queue fun hm => hn (hp _ hm)
  motions hn := h.motions fun hm => hn (hp _ hm)
  gateClosed hn := h.gateClosed fun hm => hn (hp _ hm)
  clock hn := h.clock fun hm => hn (hp _ hm)
  period hn := h.period fun hm => hn (hp _ hm)
  readers hn := h.readers fun hm => hn (hp _ hm)
  custody hn := h.custody fun hm => hn (hp _ hm)
  occupancy hn := h.occupancy fun hm => hn (hp _ hm)
  loneTimer hn := h.loneTimer fun hm => hn (hp _ hm)
  loneOutrun hn := h.loneOutrun fun hm => hn (hp _ hm)
  flags hn := h.flags fun hm => hn (hp _ hm)
  supply hn := h.supply fun hm => hn (hp _ hm)
  periodic hn := h.periodic fun hm => hn (hp _ hm)
  checks hn := h.checks fun hm => hn (hp _ hm)
  link hn := h.link fun hm => hn (hp _ hm)
  inService := h.inService
  newest := h.newest
  boundary := h.boundary
  pendingSame src hn hb := h.pendingSame src (fun hm => hn (hs src hm)) hb
  conditionSame src hn hb := h.conditionSame src (fun hm => hn (hs src hm)) hb
  outputSame hn o ho := h.outputSame (fun hm => hn (hp _ hm)) o
    fun src hm => ⟨fun hx => (ho src hm).1 (hs src hx), (ho src hm).2⟩

/-- What records and sources set going keeps every frame that allows the sources. -/
theorem Affects.frame {parts : List Part} {srcs srcs' : List Source} {s t : State} (h : Affects srcs s t)
    (hs : ∀ x ∈ srcs, x ∈ srcs') : Frame parts srcs' s t where
  pending := h.pending
  free := h.free
  settings _ := by rw [h.store]; exact SameSettings.refl _
  records _ := by rw [h.store]
  inputs _ := h.inputs
  channels _ := h.channels
  detection _ := h.detection
  release _ := h.release
  estimate _ := h.estimate
  doors _ := h.doors
  queue _ := h.queue
  motions _ := h.motions
  gateClosed _ := h.gateClosed
  clock _ := h.clock
  period _ := h.period
  readers _ := h.readers
  custody _ := h.custody
  occupancy _ := h.occupancy
  loneTimer _ := h.loneTimer
  loneOutrun _ := h.loneOutrun
  flags _ := h.flags
  supply _ := h.supply
  periodic _ := h.periodic
  checks _ := h.checks
  link _ := h.link
  inService := h.inService
  newest := h.newest
  boundary := h.boundary
  pendingSame src hn hb := h.pendingSame src (fun hm => hn (hs src hm)) hb
  conditionSame src hn hb := h.conditionSame src (fun hm => hn (hs src hm)) hb
  outputSame _ o ho := h.outputSame o fun src hm => ⟨fun hx => (ho src hm).1 (hs src hx), (ho src hm).2⟩

theorem Frame.write {parts : List Part} {srcs : List Source} (k : RecordKind) (a b : Nat) (d : Detail) (s : State) :
    Frame parts srcs s (write k a b d s) := (write_affects [] k a b d s).frame fun _ h => absurd h (by simp)
theorem Frame.setCondition {parts : List Part} {srcs : List Source} {src : Source} (h : src ∈ srcs) (b : Bool)
    (s : State) : Frame parts srcs s (setCondition src b s) :=
  (setCondition_affects src b s).frame fun x hx => by simp only [List.mem_singleton] at hx; exact hx ▸ h
theorem Frame.edgeEvent {parts : List Part} {srcs : List Source} {src : Source} (h : src ∈ srcs) (s : State) :
    Frame parts srcs s (edgeEvent src s) :=
  (edgeEvent_affects src s).frame fun x hx => by simp only [List.mem_singleton] at hx; exact hx ▸ h

theorem forced_mem (n : DoorNo) : Source.forced n ∈ doorSources := by revert n; decide
theorem held_mem (n : DoorNo) : Source.held n ∈ doorSources := by revert n; decide
theorem bolt_mem (n : DoorNo) : Source.bolt n ∈ doorSources := by revert n; decide

theorem DoorFrame.refl (s : State) : DoorFrame s s := Frame.refl s
theorem DoorFrame.trans {s t u : State} (h1 : DoorFrame s t) (h2 : DoorFrame t u) : DoorFrame s u := Frame.trans h1 h2

/-! ## Single changes -/

theorem modDoor_frame (n : DoorNo) (f : Door → Door) (s : State) : DoorFrame s (s.modDoor n f) := by
  constructor <;> intros <;> first | rfl | exact Nat.le_refl _ | exact SameSettings.refl _ | contradiction
theorem setQueue_frame (n : DoorNo) (r : Option BoltRequest) (s : State) : DoorFrame s (s.setQueue n r) := by
  constructor <;> intros <;> first | rfl | exact Nat.le_refl _ | exact SameSettings.refl _ | contradiction
theorem setMotion_frame (n : DoorNo) (m : Option InMotion) (s : State) : DoorFrame s (s.setMotion n m) := by
  constructor <;> intros <;> first | rfl | exact Nat.le_refl _ | exact SameSettings.refl _ | contradiction
theorem setDoorState_frame (n : DoorNo) (st : DoorState) (s : State) : DoorFrame s (setDoorState n st s) :=
  modDoor_frame _ _ _
theorem secureDoor_frame (n : DoorNo) (s : State) : DoorFrame s (secureDoor n s) := modDoor_frame _ _ _
theorem setMark_frame (n : DoorNo) (s : State) : DoorFrame s (setMark n s) := modDoor_frame _ _ _
theorem write_frame (k : RecordKind) (a b : Nat) (d : Detail) (s : State) : DoorFrame s (write k a b d s) :=
  Frame.write k a b d s
theorem setHeldCondition_frame (n : DoorNo) (b : Bool) (s : State) : DoorFrame s (setHeldCondition n b s) :=
  Frame.setCondition (held_mem n) b s
theorem setBoltCondition_frame (n : DoorNo) (b : Bool) (s : State) : DoorFrame s (setBoltCondition n b s) :=
  Frame.setCondition (bolt_mem n) b s

theorem startWindow_frame (n : DoorNo) (s : State) : DoorFrame s (startWindow n s) := by
  unfold startWindow; split
  · exact DoorFrame.refl _
  · exact modDoor_frame _ _ _

theorem startHeld_frame (n : DoorNo) (s : State) : DoorFrame s (startHeld n s) := by
  unfold startHeld; split
  · exact DoorFrame.refl _
  · exact modDoor_frame _ _ _

theorem enterReleased_frame (n : DoorNo) (s : State) : DoorFrame s (enterReleased n s) :=
  (setDoorState_frame n _ s).trans (startWindow_frame n _)

theorem enterOpen_frame (n : DoorNo) (s : State) : DoorFrame s (enterOpen n s) :=
  (modDoor_frame n _ s).trans (startHeld_frame n _)

/-! ## Passes -/

/-- A fold of operations that keep the frame keeps it. -/
theorem forEach_frame {α : Type} (l : List α) (f : α → State → State) (s : State)
    (h : ∀ a s, DoorFrame s (f a s)) : DoorFrame s (forEach l f s) :=
  forEach_rel DoorFrame.refl (fun _ _ _ => DoorFrame.trans) f l s fun a _ s => h a s

theorem dropPasses_frame (k : RecordKind) (which : Pass → Bool) (n : DoorNo) (s : State) :
    DoorFrame s (dropPasses k which n s) :=
  (modDoor_frame n _ s).trans (forEach_frame _ _ _ fun _ _ => write_frame _ _ _ _ _)

theorem dropUnused_frame (n : DoorNo) (s : State) : DoorFrame s (dropUnused n s) := dropPasses_frame _ _ _ _

theorem addPass_frame (n : DoorNo) (p : Pass) (s : State) : DoorFrame s (addPass n p s) :=
  (forEach_frame _ _ s fun m s => dropPasses_frame _ _ m s).trans (modDoor_frame _ _ _)

/-! ## The bolt drive -/

theorem join_frame (n : DoorNo) (m : Motion) (c : BoltClass) (s : State) : DoorFrame s (join n m c s) := by
  unfold join
  split
  · split <;> exact setQueue_frame _ _ _
  · split
    · exact DoorFrame.refl _
    · exact setQueue_frame _ _ _
  · exact setQueue_frame _ _ _

theorem joinWithdraw_frame (n : DoorNo) (c : BoltClass) (s : State) : DoorFrame s (joinWithdraw n c s) :=
  (setMark_frame n s).trans (join_frame _ _ _ _)

theorem joinThrow_frame (n : DoorNo) (s : State) : DoorFrame s (joinThrow n s) := join_frame _ _ _ _

theorem settleDoor_frame (n : DoorNo) (s : State) : DoorFrame s (settleDoor n s) := by
  refine (modDoor_frame n (fun d => { d with window := none, heldTimer := none }) s).trans ?_
  unfold settleDoor
  dsimp only
  split
  · split
    · exact (enterOpen_frame n _).trans (joinWithdraw_frame _ _ _)
    · exact enterOpen_frame n _
  · split
    · split
      · exact (setDoorState_frame n _ _).trans (joinWithdraw_frame _ _ _)
      · exact (setDoorState_frame n _ _).trans (setMark_frame _ _)
    · split
      · exact (setDoorState_frame n _ _).trans (joinThrow_frame _ _)
      · exact secureDoor_frame _ _

theorem motionEffect_frame (n : DoorNo) (m : Motion) (s : State) : DoorFrame s (motionEffect n m s) := by
  unfold motionEffect
  split
  · exact enterReleased_frame _ _
  · split
    · exact DoorFrame.refl _
    · exact secureDoor_frame _ _
  · exact ((settleDoor_frame n s).trans (setBoltCondition_frame _ _ _)).trans (write_frame _ _ _ _ _)
  · exact DoorFrame.refl _

theorem completeMotion_frame (n : DoorNo) (m : Motion) (s : State) : DoorFrame s (completeMotion n m s) :=
  (setMotion_frame n none s).trans (motionEffect_frame _ _ _)

theorem startMotion_frame (n : DoorNo) (s : State) : DoorFrame s (startMotion n s) := by
  unfold startMotion
  split
  · exact DoorFrame.refl _
  · rename_i r _
    have h := (setQueue_frame n none s).trans (setMotion_frame n (some ⟨r.motion, s.store.doors[n].boltTime⟩) _)
    dsimp only
    split
    · exact h.trans (completeMotion_frame _ _ _)
    · exact h

theorem serveLoop_frame : ∀ (k : Nat) (s : State), DoorFrame s (serveLoop k s)
  | 0, s => DoorFrame.refl s
  | k + 1, s => by
    unfold serveLoop
    split
    · split
      · exact (startMotion_frame _ s).trans (serveLoop_frame k _)
      · exact DoorFrame.refl _
    · exact DoorFrame.refl _

theorem serve_frame (s : State) : DoorFrame s (serve s) := serveLoop_frame 16 s

theorem relock_frame (n : DoorNo) (s : State) : DoorFrame s (relock n s) := by
  unfold relock
  split
  · exact secureDoor_frame _ _
  · split
    · exact secureDoor_frame _ _
    · exact joinThrow_frame _ _

/-! ## Requests and overrides -/

theorem releaseLock_frame (n : DoorNo) (c : BoltClass) (s : State) : DoorFrame s (releaseLock n c s) := by
  unfold releaseLock
  split
  · split
    · exact (setDoorState_frame _ _ _).trans (joinWithdraw_frame _ _ _)
    · exact (setMark_frame n s).trans (enterReleased_frame _ _)
  · exact join_frame _ _ _ _
  · exact startWindow_frame _ _
  · exact (setDoorState_frame _ _ _).trans (joinWithdraw_frame _ _ _)
  · exact DoorFrame.refl _

theorem release_frame (n : DoorNo) (c : BoltClass) (ps : List Pass) (s : State) : DoorFrame s (release n c ps s) :=
  ((releaseLock_frame n c s).trans (forEach_frame _ _ _ fun p s => addPass_frame n p s)).trans (serve_frame _)

theorem turnRetry_frame (n : DoorNo) (m : Motion) (c : BoltClass) (s : State) : DoorFrame s (turnRetry n m c s) := by
  unfold turnRetry
  split
  · exact join_frame _ _ _ _
  · exact DoorFrame.refl _

theorem overrideStart_frame (n : DoorNo) (s : State) : DoorFrame s (overrideStart n s) := by
  refine (modDoor_frame n (fun d => { d with mark := some .override }) s).trans ?_
  unfold overrideStart
  refine DoorFrame.trans ?_ (serve_frame _)
  split
  · split
    · exact (setDoorState_frame _ _ _).trans (joinWithdraw_frame _ _ _)
    · exact setDoorState_frame _ _ _
  · exact join_frame _ _ _ _
  · exact modDoor_frame _ _ _
  · exact modDoor_frame _ _ _
  · exact (setDoorState_frame _ _ _).trans (setHeldCondition_frame _ _ _)
  · split
    · exact (setDoorState_frame _ _ _).trans (joinWithdraw_frame _ _ _)
    · exact setDoorState_frame _ _ _
  · exact (setDoorState_frame _ _ _).trans (joinWithdraw_frame _ _ _)
  · exact turnRetry_frame _ _ _ _
  · exact DoorFrame.refl _

theorem overrideEnd_frame (n : DoorNo) (s : State) : DoorFrame s (overrideEnd n s) := by
  unfold overrideEnd
  refine DoorFrame.trans ?_ (serve_frame _)
  split
  · exact ((setDoorState_frame n _ s).trans (dropUnused_frame _ _)).trans (relock_frame _ _)
  · exact ((setDoorState_frame n _ s).trans (dropUnused_frame _ _)).trans (relock_frame _ _)
  · exact startHeld_frame _ _
  · exact turnRetry_frame _ _ _ _
  · exact DoorFrame.refl _

theorem egressDoor_frame (n : DoorNo) (s : State) : DoorFrame s (egressDoor n s) := by
  have h := (dropPasses_frame .passDropped (fun p => decide (p.dir = .entry)) n s).trans
    (modDoor_frame n (fun d => { d with egress := true }) _)
  unfold egressDoor
  dsimp only
  split
  · exact h
  · exact h.trans (overrideStart_frame _ _)

theorem egressEndDoor_frame (n : DoorNo) (s : State) : DoorFrame s (egressEndDoor n s) := by
  have h := modDoor_frame n (fun d => { d with egress := false }) s
  unfold egressEndDoor
  dsimp only
  split
  · exact h.trans (overrideEnd_frame _ _)
  · exact h

theorem egressRequest_frame (z : Zone) (s : State) : DoorFrame s (egressRequest z s) :=
  forEach_frame _ _ _ egressDoor_frame
theorem egressEnd_frame (z : Zone) (s : State) : DoorFrame s (egressEnd z s) := forEach_frame _ _ _ egressEndDoor_frame

/-! ## Contact, bolt sense, timers -/

theorem removeThrow_frame (n : DoorNo) (s : State) : DoorFrame s (removeThrow n s) := by
  unfold removeThrow
  split
  · exact setQueue_frame _ _ _
  · exact DoorFrame.refl _

theorem openDoor_frame (n : DoorNo) (s : State) : DoorFrame s (openDoor n s) := by
  unfold openDoor
  split
  · exact (modDoor_frame _ _ _).trans (enterOpen_frame _ _)
  · exact (modDoor_frame _ _ _).trans (enterOpen_frame _ _)
  · exact ((setDoorState_frame _ _ _).trans (Frame.edgeEvent (forced_mem n) _)).trans (write_frame _ _ _ _ _)
  · exact (removeThrow_frame _ _).trans (enterOpen_frame _ _)
  · exact DoorFrame.refl _

theorem closeDoor_frame (n : DoorNo) (s : State) : DoorFrame s (closeDoor n s) := by
  unfold closeDoor
  split
  · have h := (modDoor_frame n (fun d => { d with heldTimer := none }) s).trans (setHeldCondition_frame n false _)
    dsimp only
    split
    · exact h.trans (setDoorState_frame _ _ _)
    · exact ((h.trans (setDoorState_frame _ _ _)).trans (relock_frame _ _)).trans (serve_frame _)
  · exact DoorFrame.refl _

theorem boltChange_frame (n : DoorNo) (s : State) : DoorFrame s (boltChange n s) := by
  unfold boltChange
  split
  · split
    · exact (completeMotion_frame _ _ _).trans (serve_frame _)
    · exact DoorFrame.refl _
  · split
    · exact ((setDoorState_frame _ _ _).trans (joinThrow_frame _ _)).trans (serve_frame _)
    · exact DoorFrame.refl _

theorem expireWindow_frame (n : DoorNo) (s : State) : DoorFrame s (expireWindow n s) := by
  unfold expireWindow
  split
  · have h := (modDoor_frame n (fun d => { d with state := .securing, window := none }) s).trans (dropUnused_frame n _)
    dsimp only
    split
    · exact (h.trans (joinThrow_frame _ _)).trans (serve_frame _)
    · exact h.trans (secureDoor_frame _ _)
  · exact DoorFrame.refl _

theorem expireHeld_frame (n : DoorNo) (s : State) : DoorFrame s (expireHeld n s) := by
  unfold expireHeld
  split
  · exact ((modDoor_frame _ _ _).trans (setHeldCondition_frame _ _ _)).trans (write_frame _ _ _ _ _)
  · exact DoorFrame.refl _

theorem expireBolt_frame (n : DoorNo) (motion : Motion) (s : State) : DoorFrame s (expireBolt n motion s) := by
  unfold expireBolt
  split
  · refine DoorFrame.trans ?_ (serve_frame _)
    refine DoorFrame.trans ?_ (write_frame _ _ _ _ _)
    refine DoorFrame.trans ?_ (setBoltCondition_frame _ _ _)
    refine DoorFrame.trans ?_ (setHeldCondition_frame _ _ _)
    refine DoorFrame.trans ?_ (modDoor_frame _ _ _)
    exact ((setMotion_frame _ _ _).trans (setQueue_frame _ _ _)).trans (dropUnused_frame _ _)
  · exact DoorFrame.refl _

/-! ## Lock outputs (R67, R69, R92) -/

theorem lockOutput_motorBolt {s : State} {n : DoorNo} (h : motorBolt s n = true) : lockOutput s n = none := by
  simp [lockOutput, h]

theorem lockOutput_starting {s : State} {n : DoorNo} (h : motorBolt s n = false) (hs : s.doors[n].state = .starting) :
    lockOutput s n = some (FailMode.level s.store.doors[n].fail) := by
  rw [lockOutput, if_neg (by simp [h]), if_pos hs]

/-- Out of the starting phase a strike is dropped exactly while its door carries a mark. -/
theorem lockOutput_settled {s : State} {n : DoorNo} (h : motorBolt s n = false) (hs : s.doors[n].state ≠ .starting) :
    lockOutput s n = some (if s.doors[n].mark.isSome then .dropped else .energized) := by
  rw [lockOutput, if_neg (by simp [h]), if_neg hs]
  split <;> rfl

end Sys2Proof.Machine
end

