-- ==== Sys2Proof/Laws/Layouts.lean ====
section
/-! SUPPORT. How many bytes the fields, records and fixed-length replies take (R199, R200). -/

namespace Sys2Proof.Machine

@[simp] theorem field_length : ∀ n v : Nat, (field n v).length = n
  | 0, _ => rfl
  | n + 1, v => by simp [field, field_length n]

@[simp] theorem byte_length (v : Nat) : (byte v).length = 1 := field_length 1 v
@[simp] theorem flag_length (b : Bool) : (flag b).length = 1 := field_length 1 _
@[simp] theorem setField_length (n : Nat) (items : List Nat) : (setField n items).length = n := field_length n _
@[simp] theorem setBytes_length (n : Nat) {k : Nat} (v : Vector Bool k) : (setBytes n v).length = n := by simp [setBytes]

/-- A journal record takes sixteen bytes (R200). -/
@[simp] theorem Record.bytes_length (r : Record) : (Record.bytes r).length = 16 := by simp [Record.bytes]

/-- A credential record takes eighteen bytes (R200). -/
@[simp] theorem Credential.bytes_length (c : Credential) : (Credential.bytes c).length = 18 := by
  simp [Credential.bytes, digitPair]

/-- Places of one length. -/
theorem flatMap_length {α β : Type} (f : α → List β) (k : Nat) : ∀ l : List α, (∀ a ∈ l, (f a).length = k) →
    (l.flatMap f).length = l.length * k
  | [], _ => by simp
  | a :: l, h => by
    rw [List.flatMap_cons, List.length_append, h a (by simp), flatMap_length f k l fun b hb => h b (by simp [hb]),
      List.length_cons, Nat.add_mul, Nat.one_mul, Nat.add_comm]

end Sys2Proof.Machine
end

