-- ==== Sys2Proof/Laws/PerInstr.lean ====
section
/-! SUPPORT. A fact of every command as syntax: the kind code a message travels under stands in the catalogue of section
11.5, and an unknown kind's does not (R193). One lemma per constructor. -/

namespace Sys2Proof.Laws.Kind

/-- The kind code a command travels under; what is no message has none. -/
def code : Instr → Option Nat
  | .powerOn _ _ => none
  | .rawLevelChange _ _ => none
  | .debounceExpiry _ => none
  | .validationExpiry _ => none
  | .detectorSample _ _ => none
  | .countdownIntervalExpiry _ => none
  | .doorHoldExpiry _ => none
  | .occupancyHoldExpiry _ => none
  | .firingTimerExpiry _ => none
  | .estimatorStep _ => none
  | .unlockWindowExpiry _ => none
  | .heldTimerExpiry _ => none
  | .boltTimeExpiry _ => none
  | .presentation _ _ _ => none
  | .lockoutExpiry _ => none
  | .custodyWindowExpiry _ => none
  | .minuteBoundary => none
  | .loneTimerExpiry _ => none
  | .testStepEnd _ => none
  | .periodicTimerExpiry => none
  | .currentArrival _ => none
  | .receiveByte _ => none
  | .receiveTimeoutExpiry => none
  | .sendReply => none
  | .slotAnswer => none
  | .unknownKind kind => some kind.toNat
  | .echo _ => some 0x01
  | .identify => some 0x02
  | .restart => some 0x03
  | .whoCalls => some 0x04
  | .whoCallsAddressed => some 0x04
  | .setTime _ _ _ => some 0x05
  | .getTime => some 0x06
  | .setLink _ _ => some 0x07
  | .setInput _ _ _ _ => some 0x10
  | .setDetector _ _ _ _ _ => some 0x11
  | .setZone _ => some 0x12
  | .setDoor _ => some 0x13
  | .setReader _ _ _ _ => some 0x14
  | .setStaff _ _ _ => some 0x15
  | .setOutput _ _ _ _ => some 0x16
  | .setSource _ _ _ _ => some 0x17
  | .setThreshold _ => some 0x18
  | .setSchedule _ _ => some 0x19
  | .setHolidays _ => some 0x1A
  | .getConfig _ _ => some 0x1B
  | .enrol _ => some 0x20
  | .revoke _ => some 0x21
  | .lookupExact _ => some 0x22
  | .lookupNext _ => some 0x22
  | .credentialCount => some 0x23
  | .zoneMode _ _ => some 0x30
  | .zoneDisable _ => some 0x31
  | .zoneEnable _ => some 0x32
  | .vent _ _ => some 0x33
  | .reserveRelease _ => some 0x34
  | .zoneReset _ => some 0x35
  | .zoneStatus _ => some 0x36
  | .detectorRead _ _ => some 0x37
  | .doorCommandFree _ => some 0x40
  | .doorCommandAuto _ => some 0x40
  | .doorCommandPulse _ => some 0x40
  | .doorCommandRetry _ => some 0x40
  | .doorStatus _ => some 0x41
  | .occupancyRead _ => some 0x48
  | .occupancyConfirm _ => some 0x49
  | .occupancyRemove _ _ => some 0x4A
  | .inputClear _ => some 0x50
  | .inputStatus => some 0x51
  | .claim => some 0x58
  | .peek => some 0x59
  | .complete _ => some 0x5A
  | .alarmStatus => some 0x5B
  | .silence _ => some 0x5C
  | .lineTest _ => some 0x60
  | .lineStatus => some 0x61
  | .lineClear _ => some 0x62
  | .journalRead _ _ => some 0x68
  | .journalAck _ => some 0x69
  | .clockSecond => none

/-- A well-formed command that has a kind code has one of the catalogue, unless it is the unknown kind. -/
def Statement (i : Instr) : Prop :=
  i.wellFormed = true → ∀ k, code i = some k → (kindCodes.contains k = true ↔ ∀ b, i ≠ .unknownKind b)

/-- An event from the field, from time or from the line has no kind code. -/
theorem of_none {i : Instr} (h : code i = none) : Statement i := fun _ k hk => by rw [h] at hk; cases hk

/-- A message of a kind of the catalogue. -/
theorem of_some {i : Instr} {n : Nat} (h : code i = some n) (hn : kindCodes.contains n = true)
    (hi : ∀ b, i ≠ .unknownKind b) : Statement i := fun _ k hk => by
  rw [h] at hk
  cases hk
  exact ⟨fun _ => hi, fun _ => hn⟩

theorem powerOn (straps : BitVec 5) (levels : BitVec 48) : Statement (.powerOn straps levels) := of_none rfl
theorem rawLevelChange (input : InputNo) (level : Level) : Statement (.rawLevelChange input level) := of_none rfl
theorem debounceExpiry (input : InputNo) : Statement (.debounceExpiry input) := of_none rfl
theorem validationExpiry (input : InputNo) : Statement (.validationExpiry input) := of_none rfl
theorem detectorSample (channel : ChannelNo) (value : BitVec 12) : Statement (.detectorSample channel value) := of_none rfl
theorem countdownIntervalExpiry (zone : Zone) : Statement (.countdownIntervalExpiry zone) := of_none rfl
theorem doorHoldExpiry (zone : Zone) : Statement (.doorHoldExpiry zone) := of_none rfl
theorem occupancyHoldExpiry (zone : Zone) : Statement (.occupancyHoldExpiry zone) := of_none rfl
theorem firingTimerExpiry (zone : Zone) : Statement (.firingTimerExpiry zone) := of_none rfl
theorem estimatorStep (zone : Zone) : Statement (.estimatorStep zone) := of_none rfl
theorem unlockWindowExpiry (door : DoorNo) : Statement (.unlockWindowExpiry door) := of_none rfl
theorem heldTimerExpiry (door : DoorNo) : Statement (.heldTimerExpiry door) := of_none rfl
theorem boltTimeExpiry (time : BoltTime) : Statement (.boltTimeExpiry time) := of_none rfl
theorem presentation (reader : ReaderNo) (credential : Nat) (digits : List Nat) : Statement (.presentation reader credential digits) := of_none rfl
theorem lockoutExpiry (reader : ReaderNo) : Statement (.lockoutExpiry reader) := of_none rfl
theorem custodyWindowExpiry (door : DoorNo) : Statement (.custodyWindowExpiry door) := of_none rfl
theorem minuteBoundary : Statement .minuteBoundary := of_none rfl
theorem loneTimerExpiry (zone : Zone) : Statement (.loneTimerExpiry zone) := of_none rfl
theorem testStepEnd (step : StepEnd) : Statement (.testStepEnd step) := of_none rfl
theorem periodicTimerExpiry : Statement .periodicTimerExpiry := of_none rfl
theorem currentArrival (circuit : Fin 8) : Statement (.currentArrival circuit) := of_none rfl
theorem receiveByte (byte : Byte) : Statement (.receiveByte byte) := of_none rfl
theorem receiveTimeoutExpiry : Statement .receiveTimeoutExpiry := of_none rfl
theorem sendReply : Statement .sendReply := of_none rfl
theorem slotAnswer : Statement .slotAnswer := of_none rfl
theorem unknownKind (kind : Byte) : Statement (.unknownKind kind) := fun hw k hk => by
  simp only [code, Option.some.injEq] at hk
  subst hk
  simp only [Instr.wellFormed, Bool.not_eq_true'] at hw
  rw [hw]
  exact ⟨fun h => absurd h (by simp), fun h => absurd rfl (h kind)⟩
theorem echo (payload : List Byte) : Statement (.echo payload) :=
  of_some rfl (by decide) (by simp)
theorem identify : Statement .identify :=
  of_some rfl (by decide) (by simp)
theorem restart : Statement .restart :=
  of_some rfl (by decide) (by simp)
theorem whoCalls : Statement .whoCalls :=
  of_some rfl (by decide) (by simp)
theorem whoCallsAddressed : Statement .whoCallsAddressed :=
  of_some rfl (by decide) (by simp)
theorem setTime (broadcast : Bool) (day second : Nat) : Statement (.setTime broadcast day second) :=
  of_some rfl (by decide) (by simp)
theorem getTime : Statement .getTime :=
  of_some rfl (by decide) (by simp)
theorem setLink (timeout interval : Nat) : Statement (.setLink timeout interval) :=
  of_some rfl (by decide) (by simp)
theorem setInput (input level debounce validation : Nat) : Statement (.setInput input level debounce validation) :=
  of_some rfl (by decide) (by simp)
theorem setDetector (channel zone loop threshold hysteresis : Nat) : Statement (.setDetector channel zone loop threshold hysteresis) :=
  of_some rfl (by decide) (by simp)
theorem setZone (request : ZoneRequest) : Statement (.setZone request) :=
  of_some rfl (by decide) (by simp)
theorem setDoor (request : DoorRequest) : Statement (.setDoor request) :=
  of_some rfl (by decide) (by simp)
theorem setReader (reader door direction policy : Nat) : Statement (.setReader reader door direction policy) :=
  of_some rfl (by decide) (by simp)
theorem setStaff (channel zone kind : Nat) : Statement (.setStaff channel zone kind) :=
  of_some rfl (by decide) (by simp)
theorem setOutput (output : Nat) (sources : List Nat) (mode silenceable : Nat) : Statement (.setOutput output sources mode silenceable) :=
  of_some rfl (by decide) (by simp)
theorem setSource (first last priority enable : Nat) : Statement (.setSource first last priority enable) :=
  of_some rfl (by decide) (by simp)
theorem setThreshold (threshold : Nat) : Statement (.setThreshold threshold) :=
  of_some rfl (by decide) (by simp)
theorem setSchedule (schedule : Nat) (intervals : List IntervalRequest) : Statement (.setSchedule schedule intervals) :=
  of_some rfl (by decide) (by simp)
theorem setHolidays (days : List Nat) : Statement (.setHolidays days) :=
  of_some rfl (by decide) (by simp)
theorem getConfig (kind item : Nat) : Statement (.getConfig kind item) :=
  of_some rfl (by decide) (by simp)
theorem enrol (request : CredentialRequest) : Statement (.enrol request) :=
  of_some rfl (by decide) (by simp)
theorem revoke (number : Nat) : Statement (.revoke number) :=
  of_some rfl (by decide) (by simp)
theorem lookupExact (number : Nat) : Statement (.lookupExact number) :=
  of_some rfl (by decide) (by simp)
theorem lookupNext (number : Nat) : Statement (.lookupNext number) :=
  of_some rfl (by decide) (by simp)
theorem credentialCount : Statement .credentialCount :=
  of_some rfl (by decide) (by simp)
theorem zoneMode (zone mode : Nat) : Statement (.zoneMode zone mode) :=
  of_some rfl (by decide) (by simp)
theorem zoneDisable (zone : Nat) : Statement (.zoneDisable zone) :=
  of_some rfl (by decide) (by simp)
theorem zoneEnable (zone : Nat) : Statement (.zoneEnable zone) :=
  of_some rfl (by decide) (by simp)
theorem vent (zone : Nat) (force : Bool) : Statement (.vent zone force) :=
  of_some rfl (by decide) (by simp)
theorem reserveRelease (zone : Nat) : Statement (.reserveRelease zone) :=
  of_some rfl (by decide) (by simp)
theorem zoneReset (zone : Nat) : Statement (.zoneReset zone) :=
  of_some rfl (by decide) (by simp)
theorem zoneStatus (zone : Nat) : Statement (.zoneStatus zone) :=
  of_some rfl (by decide) (by simp)
theorem detectorRead (channel : Nat) (clearPeak : Bool) : Statement (.detectorRead channel clearPeak) :=
  of_some rfl (by decide) (by simp)
theorem doorCommandFree (door : Nat) : Statement (.doorCommandFree door) :=
  of_some rfl (by decide) (by simp)
theorem doorCommandAuto (door : Nat) : Statement (.doorCommandAuto door) :=
  of_some rfl (by decide) (by simp)
theorem doorCommandPulse (door : Nat) : Statement (.doorCommandPulse door) :=
  of_some rfl (by decide) (by simp)
theorem doorCommandRetry (door : Nat) : Statement (.doorCommandRetry door) :=
  of_some rfl (by decide) (by simp)
theorem doorStatus (door : Nat) : Statement (.doorStatus door) :=
  of_some rfl (by decide) (by simp)
theorem occupancyRead (zone : Nat) : Statement (.occupancyRead zone) :=
  of_some rfl (by decide) (by simp)
theorem occupancyConfirm (zone : Nat) : Statement (.occupancyConfirm zone) :=
  of_some rfl (by decide) (by simp)
theorem occupancyRemove (zone credential : Nat) : Statement (.occupancyRemove zone credential) :=
  of_some rfl (by decide) (by simp)
theorem inputClear (selection : Nat) : Statement (.inputClear selection) :=
  of_some rfl (by decide) (by simp)
theorem inputStatus : Statement .inputStatus :=
  of_some rfl (by decide) (by simp)
theorem claim : Statement .claim :=
  of_some rfl (by decide) (by simp)
theorem peek : Statement .peek :=
  of_some rfl (by decide) (by simp)
theorem complete (source : Nat) : Statement (.complete source) :=
  of_some rfl (by decide) (by simp)
theorem alarmStatus : Statement .alarmStatus :=
  of_some rfl (by decide) (by simp)
theorem silence (selection : Nat) : Statement (.silence selection) :=
  of_some rfl (by decide) (by simp)
theorem lineTest (selection : Nat) : Statement (.lineTest selection) :=
  of_some rfl (by decide) (by simp)
theorem lineStatus : Statement .lineStatus :=
  of_some rfl (by decide) (by simp)
theorem lineClear (selection : Nat) : Statement (.lineClear selection) :=
  of_some rfl (by decide) (by simp)
theorem journalRead (start count : Nat) : Statement (.journalRead start count) :=
  of_some rfl (by decide) (by simp)
theorem journalAck (sequence : Nat) : Statement (.journalAck sequence) :=
  of_some rfl (by decide) (by simp)
theorem clockSecond : Statement .clockSecond := of_none rfl

end Sys2Proof.Laws.Kind
end

