-- ==== Sys2Proof/Laws/Zones.lean ====
section
/-! SUPPORT. What the operations of the release sequencer, the agent estimator, the watch unit and the line supervisor can
change: one lemma per operation of Machine/Zones.lean that others call. -/

namespace Sys2Proof.Machine

theorem doorSource_mem {src : Source} (h : src ∈ doorSources) : src ∈ zoneSources := by
  simp only [zoneSources, List.mem_append]
  exact Or.inl (Or.inl (Or.inl (Or.inl (Or.inl h))))
theorem discharge_mem (z : Zone) : Source.discharge z ∈ zoneSources := by
  have h : Source.discharge z ∈ allZones.map Source.discharge := List.mem_map_of_mem (List.mem_finRange z)
  simp only [zoneSources, List.mem_append, h, true_or, or_true]
theorem soakLoss_mem (z : Zone) : Source.soakLoss z ∈ zoneSources := by
  have h : Source.soakLoss z ∈ allZones.map Source.soakLoss := List.mem_map_of_mem (List.mem_finRange z)
  simp only [zoneSources, List.mem_append, h, true_or, or_true]
theorem occupant_mem (z : Zone) : Source.occupant z ∈ zoneSources := by
  have h : Source.occupant z ∈ allZones.map Source.occupant := List.mem_map_of_mem (List.mem_finRange z)
  simp only [zoneSources, List.mem_append, h, true_or, or_true]
theorem impaired_mem (z : Zone) : Source.impaired z ∈ zoneSources := by
  have h : Source.impaired z ∈ allZones.map Source.impaired := List.mem_map_of_mem (List.mem_finRange z)
  simp only [zoneSources, List.mem_append, h, true_or, or_true]
theorem circuit_mem (c : CircuitNo) : Source.circuit c ∈ zoneSources :=
  List.mem_append_right _ (List.mem_map_of_mem (List.mem_finRange c))

theorem ZoneFrame.refl (s : State) : ZoneFrame s s := Frame.refl s
theorem ZoneFrame.trans {s t u : State} (h1 : ZoneFrame s t) (h2 : ZoneFrame t u) : ZoneFrame s u := Frame.trans h1 h2
theorem DoorFrame.toZoneFrame {s t : State} (h : DoorFrame s t) : ZoneFrame s t :=
  Frame.mono h (by decide) fun _ hx => doorSource_mem hx

/-! ## Single changes -/

theorem modRelease_zone (z : Zone) (f : Release → Release) (s : State) : ZoneFrame s (s.modRelease z f) := by
  constructor <;> intros <;> first | rfl | exact Nat.le_refl _ | exact SameSettings.refl _ | contradiction
theorem modEstimate_zone (z : Zone) (f : Estimate → Estimate) (s : State) : ZoneFrame s (s.modEstimate z f) := by
  constructor <;> intros <;> first | rfl | exact Nat.le_refl _ | exact SameSettings.refl _ | contradiction
theorem modRecord_zone (z : Zone) (f : ZoneRecord → ZoneRecord) (s : State) : ZoneFrame s (s.modRecord z f) := by
  constructor <;> intros <;> first | rfl | exact Nat.le_refl _ | (constructor <;> rfl) | contradiction
theorem write_zone (k : RecordKind) (a b : Nat) (d : Detail) (s : State) : ZoneFrame s (write k a b d s) :=
  Frame.write k a b d s
theorem modRun_zone (f : RunRecord → RunRecord) (s : State) : ZoneFrame s (s.modRun f) :=
  (modRun_affects [] f s).frame fun _ h => absurd h (by simp)

theorem forEach_zone {α : Type} (l : List α) (f : α → State → State) (s : State)
    (h : ∀ a s, ZoneFrame s (f a s)) : ZoneFrame s (forEach l f s) :=
  forEach_rel ZoneFrame.refl (fun _ _ _ => ZoneFrame.trans) f l s fun a _ s => h a s

/-! ## Conditions -/

theorem reImpaired_zone (z : Zone) (s : State) : ZoneFrame s (reImpaired z s) :=
  Frame.setCondition (impaired_mem z) _ _
theorem reOccupant_zone (z : Zone) (s : State) : ZoneFrame s (reOccupant z s) :=
  Frame.setCondition (occupant_mem z) _ _

/-! ## The line supervisor's part of a firing -/

theorem setFlags_zone (c : CircuitNo) (f : CircuitFlags → CircuitFlags) (s : State) :
    ZoneFrame s (s.modLine fun l => { l with flags := upd l.flags c f }) := by
  constructor <;> intros <;> first | rfl | exact Nat.le_refl _ | exact SameSettings.refl _ | contradiction
theorem setChecks_zone (c : Fin 8) (v : Option Bool) (s : State) :
    ZoneFrame s (s.modLine fun l => { l with checks := upd l.checks c fun _ => v }) := by
  constructor <;> intros <;> first | rfl | exact Nat.le_refl _ | exact SameSettings.refl _ | contradiction

theorem changeFlags_zone (c : CircuitNo) (f : CircuitFlags → CircuitFlags) (s : State) :
    ZoneFrame s (changeFlags c f s) := by
  have h := (setFlags_zone c f s).trans (Frame.setCondition (circuit_mem c)
    (circuitFlagged (s.modLine fun l => { l with flags := upd l.flags c f }) c) _)
  unfold changeFlags
  dsimp only
  split
  · exact h.trans (reImpaired_zone _ _)
  · exact h

theorem abortRun_zone (s : State) : ZoneFrame s (abortRun s) := by
  unfold abortRun
  split
  · exact ((modRun_zone _ s).trans (modRun_zone _ _)).trans (write_zone _ _ _ _ _)
  · exact ZoneFrame.refl _

theorem beginFiring_zone (c : Fin 8) (s : State) : ZoneFrame s (beginFiring c s) :=
  (abortRun_zone s).trans (setChecks_zone _ _ _)

theorem endFiring_zone (c : Fin 8) (s : State) : ZoneFrame s (endFiring c s) := by
  have h := setChecks_zone c none s
  unfold endFiring
  dsimp only
  split
  · exact h
  · exact h.trans (changeFlags_zone _ _ _)

/-! ## The sequencer -/

theorem egressMove_zone (a b : ReleaseState) (z : Zone) (s : State) : ZoneFrame s (egressMove a b z s) := by
  unfold egressMove
  split
  · exact (egressRequest_frame _ _).toZoneFrame
  · split
    · exact (egressEnd_frame _ _).toZoneFrame
    · exact ZoneFrame.refl _

theorem storeRecord_zone (z : Zone) (s : State) : ZoneFrame s (storeRecord z s) := modRecord_zone _ _ _

theorem enterStateAs_zone (d : Detail) (z : Zone) (st : ReleaseState) (s : State) :
    ZoneFrame s (enterStateAs d z st s) := by
  have h := modRelease_zone z
    (fun r => { r with state := st, interval := false, doorHold := none, occupancyHold := none }) s
  unfold enterStateAs
  refine ZoneFrame.trans ?_ (egressMove_zone _ _ _ _)
  refine ZoneFrame.trans ?_ (reOccupant_zone _ _)
  refine ZoneFrame.trans ?_ (reImpaired_zone _ _)
  refine ZoneFrame.trans ?_ (write_zone _ _ _ _ _)
  split
  · exact h.trans (storeRecord_zone _ _)
  · exact h

theorem enterState_zone (z : Zone) (st : ReleaseState) (s : State) : ZoneFrame s (enterState z st s) :=
  enterStateAs_zone _ _ _ _

theorem enterAbortHeld_zone (z : Zone) (k : Nat) (s : State) : ZoneFrame s (enterAbortHeld z k s) :=
  (modRelease_zone _ _ _).trans (enterState_zone _ _ _)

theorem fireBank_zone (z : Zone) (b : Bank) (s : State) : ZoneFrame s (fireBank z b s) := by
  unfold fireBank
  refine ZoneFrame.trans ?_ (beginFiring_zone _ _)
  refine ZoneFrame.trans ?_ (write_zone _ _ _ _ _)
  exact ((modRecord_zone _ _ _).trans (storeRecord_zone _ _)).trans (modRelease_zone _ _ _)

theorem occupantRecords_zone (z : Zone) (s : State) : ZoneFrame s (occupantRecords z s) := by
  unfold occupantRecords
  dsimp only
  split
  · split
    · exact ZoneFrame.refl _
    · exact write_zone _ _ _ _ _
  · exact forEach_zone _ _ _ fun _ _ => write_zone _ _ _ _ _

theorem enterDischarge_zone (z : Zone) (s : State) : ZoneFrame s (enterDischarge z s) := by
  unfold enterDischarge
  refine ZoneFrame.trans ?_ (occupantRecords_zone _ _)
  refine ZoneFrame.trans ?_ (Frame.edgeEvent (discharge_mem z) _)
  exact (enterState_zone z .discharge s).trans (fireBank_zone _ _ _)

theorem goDischarge_zone (z : Zone) (s : State) : ZoneFrame s (goDischarge z s) := by
  unfold goDischarge
  split
  · exact enterAbortHeld_zone _ _ _
  · exact enterDischarge_zone _ _

theorem occupancyCheck_zone (z : Zone) (s : State) : ZoneFrame s (occupancyCheck z s) := by
  unfold occupancyCheck
  split
  · exact goDischarge_zone _ _
  · exact (enterState_zone _ _ _).trans (modRelease_zone _ _ _)

theorem endCountdown_zone (z : Zone) (s : State) : ZoneFrame s (endCountdown z s) := by
  unfold endCountdown
  split
  · exact goDischarge_zone _ _
  · split
    · exact (enterState_zone _ _ _).trans (modRelease_zone _ _ _)
    · exact occupancyCheck_zone _ _

theorem enterCountdown_zone (z : Zone) (k : Nat) (s : State) : ZoneFrame s (enterCountdown z k s) := by
  have h := (modRelease_zone z (fun r => { r with remaining := k }) s).trans (enterState_zone z .countdown _)
  unfold enterCountdown
  dsimp only
  split
  · exact h.trans (endCountdown_zone _ _)
  · exact h.trans (modRelease_zone _ _ _)

theorem beginCountdown_zone (z : Zone) (k : Nat) (s : State) : ZoneFrame s (beginCountdown z k s) := by
  unfold beginCountdown
  split
  · exact enterAbortHeld_zone _ _ _
  · exact enterCountdown_zone _ _ _

theorem detectionRise_zone (z : Zone) (d : Detection) (s : State) : ZoneFrame s (detectionRise z d s) := by
  unfold detectionRise
  split
  · exact enterState_zone _ _ _
  · exact beginCountdown_zone _ _ _
  · exact beginCountdown_zone _ _ _
  · exact ZoneFrame.refl _

theorem manualStart_zone (z : Zone) (s : State) : ZoneFrame s (manualStart z s) := by
  have h := modRelease_zone z (fun r => { r with manual := true }) s
  unfold manualStart
  split
  · exact h.trans (goDischarge_zone _ _)
  · exact h.trans (beginCountdown_zone _ _ _)

theorem manualShorten_zone (z : Zone) (s : State) : ZoneFrame s (manualShorten z s) := by
  have h := (modRelease_zone z (fun r => { r with manual := true }) s).trans (modRelease_zone z
    (fun r => { r with remaining := min s.release[z].remaining s.store.zones[z].manualDelay }) _)
  unfold manualShorten
  dsimp only
  split
  · exact h.trans (endCountdown_zone _ _)
  · exact h

theorem manualActivation_zone (z : Zone) (s : State) : ZoneFrame s (manualActivation z s) := by
  unfold manualActivation
  split
  · exact manualStart_zone _ _
  · exact manualStart_zone _ _
  · exact manualShorten_zone _ _
  · exact modRelease_zone _ _ _
  · exact (modRelease_zone _ _ _).trans (goDischarge_zone _ _)
  · exact (modRelease_zone _ _ _).trans (goDischarge_zone _ _)
  · exact write_zone _ _ _ _ _

theorem abortActivation_zone (z : Zone) (s : State) : ZoneFrame s (abortActivation z s) := by
  unfold abortActivation
  split
  · exact enterAbortHeld_zone _ _ _
  · exact enterAbortHeld_zone _ _ _
  · exact enterAbortHeld_zone _ _ _
  · exact ZoneFrame.refl _

theorem abortRelease_zone (z : Zone) (s : State) : ZoneFrame s (abortRelease z s) := by
  unfold abortRelease
  split
  · exact enterCountdown_zone _ _ _
  · exact ZoneFrame.refl _

theorem doorClosing_zone (z : Zone) (s : State) : ZoneFrame s (doorClosing z s) := by
  unfold doorClosing
  split
  · exact occupancyCheck_zone _ _
  · exact ZoneFrame.refl _

theorem occupancyReport_zone (z : Zone) (s : State) : ZoneFrame s (occupancyReport z s) := by
  unfold occupancyReport
  split
  · exact goDischarge_zone _ _
  · exact ZoneFrame.refl _

/-! ## The estimator and the timers -/

theorem noteOpening_zone (z : Zone) (s : State) : ZoneFrame s (noteOpening z s) := by
  unfold noteOpening
  split
  · exact modEstimate_zone _ _ _
  · exact ZoneFrame.refl _

theorem releaseReserve_zone (z : Zone) (s : State) : ZoneFrame s (releaseReserve z s) :=
  (fireBank_zone _ _ _).trans (modEstimate_zone _ _ _)

theorem soakLoss_zone (z : Zone) (s : State) : ZoneFrame s (soakLoss z s) := by
  unfold soakLoss
  split
  · exact ZoneFrame.refl _
  · exact ((modEstimate_zone _ _ _).trans (Frame.edgeEvent (soakLoss_mem z) _)).trans (write_zone _ _ _ _ _)

theorem holdCheck_zone (z : Zone) (s : State) : ZoneFrame s (holdCheck z s) := by
  unfold holdCheck
  dsimp only
  split
  · split
    · exact releaseReserve_zone _ _
    · exact soakLoss_zone _ _
  · exact ZoneFrame.refl _

theorem minimumSoak_zone (z : Zone) (s : State) : ZoneFrame s (minimumSoak z s) := by
  unfold minimumSoak
  split
  · exact enterState_zone _ _ _
  · exact ZoneFrame.refl _

theorem reentryCheck_zone (z : Zone) (s : State) : ZoneFrame s (reentryCheck z s) := by
  unfold reentryCheck
  split
  · exact (modEstimate_zone _ _ _).trans (enterState_zone _ _ _)
  · exact ZoneFrame.refl _

theorem stepEstimate_zone (z : Zone) (s : State) : ZoneFrame s (stepEstimate z s) := modEstimate_zone _ _ _

theorem estimateStep_zone (z : Zone) (s : State) : ZoneFrame s (estimateStep z s) := by
  have h := stepEstimate_zone z s
  unfold estimateStep
  dsimp only
  split
  · split
    · exact (h.trans (holdCheck_zone _ _)).trans (minimumSoak_zone _ _)
    · exact h.trans (reentryCheck_zone _ _)
    · exact h
  · exact ZoneFrame.refl _

theorem expireInterval_zone (z : Zone) (s : State) : ZoneFrame s (expireInterval z s) := by
  have h := modRelease_zone z (fun r => { r with remaining := r.remaining - 1 }) s
  unfold expireInterval
  dsimp only
  split
  · split
    · exact h.trans (endCountdown_zone _ _)
    · exact h
  · exact ZoneFrame.refl _

theorem expireDoorHold_zone (z : Zone) (s : State) : ZoneFrame s (expireDoorHold z s) := by
  unfold expireDoorHold
  split
  · exact occupancyCheck_zone _ _
  · exact ZoneFrame.refl _

theorem expireOccupancyHold_zone (z : Zone) (s : State) : ZoneFrame s (expireOccupancyHold z s) := by
  unfold expireOccupancyHold
  split
  · split
    · exact goDischarge_zone _ _
    · exact modRelease_zone _ _ _
  · exact ZoneFrame.refl _

theorem enterSoak_zone (z : Zone) (s : State) : ZoneFrame s (enterSoak z s) :=
  (enterState_zone _ _ _).trans (modEstimate_zone _ _ _)

theorem firingEnds_zone (z : Zone) (b : Bank) (s : State) : ZoneFrame s (firingEnds z b s) := by
  have h := modRelease_zone z (fun r => { r with firing := none }) s
  unfold firingEnds
  dsimp only
  refine ZoneFrame.trans ?_ (endFiring_zone _ _)
  split
  · exact h
  · exact h.trans (write_zone _ _ _ _ _)

theorem afterFiring_zone (z : Zone) (b : Bank) (seen : Bool) (s : State) : ZoneFrame s (afterFiring z b seen s) := by
  unfold afterFiring
  split
  · split
    · exact fireBank_zone _ _ _
    · exact enterSoak_zone _ _
  · exact ZoneFrame.refl _

theorem expireFiring_zone (z : Zone) (s : State) : ZoneFrame s (expireFiring z s) := by
  unfold expireFiring
  split
  · exact ZoneFrame.refl _
  · exact (firingEnds_zone _ _ _).trans (afterFiring_zone _ _ _ _)

end Sys2Proof.Machine
end

