-- ==== Sys2Proof/Laws/Watch.lean ====
section
/-! SUPPORT. What the lone timers' operations can change (R133 to R135), and what an expiry or a step's end that comes late
does: nothing. -/

namespace Sys2Proof.Machine

/-- What the lone timer of a zone sets going. -/
abbrev LoneFrame (z : Zone) (s t : State) : Prop := Frame [.lone] [Source.lone z] s t

theorem setLone_frame (z : Zone) (t : Option Nat) (s : State) : LoneFrame z s (s.setLone z t) := by
  constructor <;> intros <;> first | rfl | exact Nat.le_refl _ | exact SameSettings.refl _ | contradiction
theorem setOutrun_frame (z : Zone) (b : Bool) (s : State) : LoneFrame z s (s.setOutrun z b) := by
  constructor <;> intros <;> first | rfl | exact Nat.le_refl _ | exact SameSettings.refl _ | contradiction
theorem startLone_frame (z : Zone) (s : State) : LoneFrame z s (startLone z s) := setLone_frame _ _ _

theorem stopLone_frame (z : Zone) (s : State) : LoneFrame z s (stopLone z s) := by
  unfold stopLone
  split
  · exact (setLone_frame _ _ _).trans (setOutrun_frame _ _ _)
  · exact Frame.refl _

theorem reLone_frame (z : Zone) (s : State) : LoneFrame z s (reLone z s) := by
  unfold reLone
  split
  · split
    · exact Frame.refl _
    · exact startLone_frame _ _
  · exact stopLone_frame _ _

theorem restartLone_frame (z : Zone) (s : State) : LoneFrame z s (restartLone z s) := by
  unfold restartLone
  split
  · exact (stopLone_frame _ _).trans (startLone_frame _ _)
  · exact Frame.refl _

theorem expireLone_frame (z : Zone) (s : State) : LoneFrame z s (expireLone z s) := by
  unfold expireLone
  split
  · exact setOutrun_frame _ _ _
  · split
    · exact ((Frame.edgeEvent (by simp) _).trans (Frame.write _ _ _ _ _)).trans (startLone_frame _ _)
    · exact Frame.refl _

/-- A check-in on a running lone timer leaves it at its full time, and an expiry that met it outrun. -/
theorem restartLone_running {z : Zone} {s : State} (h : s.loneTimer[z].isSome = true) :
    (restartLone z s).loneTimer[z] = some (loneTime s z) ∧ (restartLone z s).loneOutrun[z] = true := by
  simp only [restartLone, stopLone, startLone, loneTime, if_pos h]
  exact ⟨upd_same _ _ _, upd_same _ _ _⟩

/-- An expiry that was outrun leaves only that it is gone. -/
theorem expireLone_outrun {z : Zone} {s : State} (h : s.loneOutrun[z] = true) :
    expireLone z s = s.setOutrun z false := by
  simp only [expireLone, h, ↓reduceIte]

/-- The end of a step that is not in progress does nothing. -/
theorem endStep_stale {check : CheckInProgress} {s : State} (h : checkInProgress s ≠ some check) (faulty : Bool) :
    endStep check faulty s = s := by
  simp only [endStep, if_neg h]

/-- The bolt time of a motion that is not in progress does nothing. -/
theorem expireBolt_stale {n : DoorNo} {motion : Motion} {s : State} (h : boltMotor s n ≠ some motion) :
    expireBolt n motion s = s := by
  simp only [expireBolt, if_neg h]

end Sys2Proof.Machine
end

