-- ==== Sys2Proof/Tests/Slice0.lean ====
section
/-! SUPPORT. The model's own tests: ill-formed commands are refused, a few single steps against the manual's worked
examples, and for every statement that has hypotheses concrete states and operands that meet them, one for each of its
clauses, at boundary values. -/

namespace Sys2Proof.Tests

-- One theorem after another: a thread for each of these many small ones would ask for more memory than is there.
set_option Elab.async false
-- Deciding a long conjunction takes more than the usual search for its instance.
set_option synthInstance.maxSize 1000

open Sys2Proof.Machine

/-! ## Small states -/

/-- An input in a phase. -/
def phased (i : InputNo) (p : Phase) : State := State.reset.modInput i fun v => { v with phase := p }
/-- A zone in a release state. -/
def zoned (z : Zone) (st : ReleaseState) : State := State.reset.modRelease z fun r => { r with state := st }
/-- A door in a state. -/
def doored (n : DoorNo) (st : DoorState) : State := State.reset.modDoor n fun d => { d with state := st }
/-- A door inside a zone, with a lock. -/
def fitted (n : DoorNo) (z : Zone) (lock : LockKind) (s : State) : State :=
  s.modStore fun st => { st with doors := upd st.doors n fun d => { d with inside := some z, lock := lock } }
/-- A door's bolt sense shows the bolt thrown. -/
def thrown (n : DoorNo) (s : State) : State := s.modInput (boltInput n) fun v => { v with phase := .on }
/-- The credential records. -/
def holding (cs : List Credential) (s : State) : State := s.modStore fun st => { st with credentials := cs }
/-- A CONSERVATOR with PIN 4826, every door, at any time. -/
def card (number holder : Nat) (role : Role) : Credential :=
  ⟨number, holder, role, 0xFF, 0, [4, 8, 2, 6], 0, 0, false, false⟩
/-- Reader 0 reads door 0 in a direction under a PIN policy. -/
def reading (d : Direction) (p : PinPolicy) (s : State) : State :=
  s.modStore fun st => { st with readers := upd st.readers 0 fun _ => ⟨0, d, p⟩ }
/-- Two cards held, door 0 inside zone 1 (0 here) with a strike, reader 0 an ENTRY reader without a PIN. -/
def desk : State :=
  reading .entry .never (fitted 0 0 .strike (holding [card 1 1 .conservator, card 2 2 .custodian] State.reset))
/-- The line-test run at a step. -/
def running (supply : SupplyResult) (c : CircuitNo) (r : CircuitResult) : State :=
  State.reset.modRun fun run =>
    { run with state := .running, supply := supply, results := upd (Vector.replicate 16 .waiting) c fun _ => r }
/-- A journal of `n` records. -/
def written (n : Nat) : State :=
  { State.reset with
    journal := ⟨(List.range (min n 3)).map fun k => ⟨n - min n 3 + k + 1, 0, 0, .grant, 0, 0, .blank⟩, n, 0⟩ }

/-! ## Ill-formed commands -/

/-- No command of the list is well formed. -/
def allIllFormed (l : List Instr) : Bool := l.all fun i => !i.wellFormed

def zoneRequest : ZoneRequest :=
  ⟨1, 30, 10, 1, 30, 1, 180, 5, 1, 1, 2, 33, 3277, 1311, 8500, 300, 60, 6000, 20, 2, 30, 0⟩
def doorRequest : DoorRequest := ⟨0, 1, 0, 1, 1, 8, 60, 8, 0, 1, 2⟩
def credentialRequest : CredentialRequest := ⟨1, 1, 1, 0xFF, 0, false, false, 4, [4, 8, 2, 6, 0, 0], 0, 0⟩

theorem test_illFormed_presentation : allIllFormed
    [.presentation 0 (2 ^ 32) [], .presentation 0 1 [1, 2, 3, 4, 5, 6, 7], .presentation 0 1 [10]] = true := by decide +kernel
theorem test_illFormed_unknownKind : allIllFormed [.unknownKind 0x01, .unknownKind 0x69] = true := by decide +kernel
theorem test_illFormed_echo : allIllFormed [.echo (List.replicate 251 0)] = true := by decide +kernel
theorem test_illFormed_time : allIllFormed [.setTime true 65536 0, .setTime false 0 (2 ^ 24)] = true := by decide +kernel
theorem test_illFormed_setLink : allIllFormed [.setLink 256 0, .setLink 0 256] = true := by decide +kernel
theorem test_illFormed_setInput : allIllFormed
    [.setInput 256 1 0 0, .setInput 0 256 0 0, .setInput 0 1 256 0, .setInput 0 1 0 256] = true := by decide +kernel
theorem test_illFormed_setDetector : allIllFormed
    [.setDetector 256 0 1 0 0, .setDetector 0 256 1 0 0, .setDetector 0 0 256 0 0, .setDetector 0 0 1 65536 0,
      .setDetector 0 0 1 0 65536] = true := by decide +kernel
theorem test_illFormed_setZone : allIllFormed
    [.setZone { zoneRequest with zone := 256 }, .setZone { zoneRequest with countdown := 256 },
      .setZone { zoneRequest with manualDelay := 256 }, .setZone { zoneRequest with abortMode := 256 },
      .setZone { zoneRequest with doorHoldMax := 256 }, .setZone { zoneRequest with occupiedRelease := 256 },
      .setZone { zoneRequest with occupancyHoldMax := 65536 }, .setZone { zoneRequest with firingTime := 256 },
      .setZone { zoneRequest with reservePresent := 256 }, .setZone { zoneRequest with reserveAuto := 256 },
      .setZone { zoneRequest with singleKnock := 256 }, .setZone { zoneRequest with soakConstant := 65536 },
      .setZone { zoneRequest with ventConstant := 65536 }, .setZone { zoneRequest with doorConstant := 65536 },
      .setZone { zoneRequest with holdThreshold := 65536 }, .setZone { zoneRequest with reentryThreshold := 65536 },
      .setZone { zoneRequest with minimumSoak := 65536 }, .setZone { zoneRequest with reserveFraction := 65536 },
      .setZone { zoneRequest with custodyWindow := 256 }, .setZone { zoneRequest with passback := 256 },
      .setZone { zoneRequest with loneTime := 256 }, .setZone { zoneRequest with openingSchedule := 256 }] = true := by decide +kernel
theorem test_illFormed_setDoor : allIllFormed
    [.setDoor { doorRequest with door := 256 }, .setDoor { doorRequest with inside := 256 },
      .setDoor { doorRequest with outside := 256 }, .setDoor { doorRequest with lock := 256 },
      .setDoor { doorRequest with fail := 256 }, .setDoor { doorRequest with unlockWindow := 256 },
      .setDoor { doorRequest with heldTime := 65536 }, .setDoor { doorRequest with boltTime := 256 },
      .setDoor { doorRequest with group := 256 }, .setDoor { doorRequest with custody := 256 },
      .setDoor { doorRequest with slots := 256 }] = true := by decide +kernel
theorem test_illFormed_setReader : allIllFormed
    [.setReader 256 0 1 1, .setReader 0 256 1 1, .setReader 0 0 256 1, .setReader 0 0 1 256] = true := by decide +kernel
theorem test_illFormed_setStaff : allIllFormed [.setStaff 256 0 1, .setStaff 0 256 1, .setStaff 0 0 256] = true := by decide +kernel
theorem test_illFormed_setOutput : allIllFormed
    [.setOutput 256 [] 1 1, .setOutput 0 [256] 1 1, .setOutput 0 (List.replicate 247 1) 1 1, .setOutput 0 [] 256 1,
      .setOutput 0 [] 1 256] = true := by decide +kernel
theorem test_illFormed_setSource : allIllFormed
    [.setSource 256 1 0 1, .setSource 1 256 0 1, .setSource 1 1 256 1, .setSource 1 1 0 256, .setThreshold 256] = true := by decide +kernel
theorem test_illFormed_setSchedule : allIllFormed
    [.setSchedule 256 [], .setSchedule 1 (List.replicate 50 ⟨1, 0, 1⟩), .setSchedule 1 [⟨1, 65536, 1⟩],
      .setSchedule 1 [⟨1, 0, 65536⟩], .setHolidays (List.replicate 125 1), .setHolidays [65536]] = true := by decide +kernel
theorem test_illFormed_getConfig : allIllFormed [.getConfig 256 0, .getConfig 0 256] = true := by decide +kernel
theorem test_illFormed_enrol : allIllFormed
    [.enrol { credentialRequest with number := 2 ^ 32 }, .enrol { credentialRequest with holder := 65536 },
      .enrol { credentialRequest with role := 256 }, .enrol { credentialRequest with schedule := 256 },
      .enrol { credentialRequest with pinLength := 256 }, .enrol { credentialRequest with digits := [4, 8, 2, 6] },
      .enrol { credentialRequest with digits := [16, 8, 2, 6, 0, 0] },
      .enrol { credentialRequest with validFrom := 65536 }, .enrol { credentialRequest with validUntil := 65536 }]
      = true := by decide +kernel
theorem test_illFormed_credentials : allIllFormed
    [.revoke (2 ^ 32), .lookupExact (2 ^ 32), .lookupNext (2 ^ 32)] = true := by decide +kernel
theorem test_illFormed_zones : allIllFormed
    [.zoneMode 256 1, .zoneMode 1 256, .zoneDisable 256, .zoneEnable 256, .vent 256 true, .reserveRelease 256,
      .zoneReset 256, .zoneStatus 256, .detectorRead 256 true] = true := by decide +kernel
theorem test_illFormed_doors : allIllFormed
    [.doorCommandFree 256, .doorCommandAuto 256, .doorCommandPulse 256, .doorCommandRetry 256, .doorStatus 256] = true := by decide +kernel
theorem test_illFormed_occupancy : allIllFormed
    [.occupancyRead 256, .occupancyConfirm 256, .occupancyRemove 256 1, .occupancyRemove 1 (2 ^ 32)] = true := by decide +kernel
theorem test_illFormed_selections : allIllFormed
    [.inputClear (2 ^ 48), .silence 256, .lineTest (2 ^ 16), .lineClear (2 ^ 24), .complete 256] = true := by decide +kernel
theorem test_illFormed_journal : allIllFormed
    [.journalRead (2 ^ 32) 1, .journalRead 0 256, .journalAck (2 ^ 32)] = true := by decide +kernel

/-- The requests the ill-formed ones are made from are well formed. -/
theorem test_wellFormed_requests : (Instr.setZone zoneRequest).wellFormed = true ∧
    (Instr.setDoor doorRequest).wellFormed = true ∧ (Instr.enrol credentialRequest).wellFormed = true := by decide +kernel

/-! ## Bytes -/

/-- The check value of R200: over the nine bytes 31h to 39h the CRC is 29B1h. -/
theorem test_crc_check_value : crc [0x31, 0x32, 0x33, 0x34, 0x35, 0x36, 0x37, 0x38, 0x39] = 0x29B1#16 := by
  decide +kernel
/-- A reply's frame: address 1, LEN 2, kind 31h, OK, the CRC. -/
theorem test_reply_frame : (replyFrame 1 ⟨0x31, .ok, .empty⟩).take 4 = [1, 2, 0x31, 0] ∧
    (replyFrame 1 ⟨0x31, .ok, .empty⟩).length = 6 := by decide +kernel
/-- No word spells a command: no row of the table gives bits. -/
theorem test_no_word_spells_a_command : decodeTableWord 8 0x31 = none := by decide +kernel

/-! ## Single steps -/

/-- A first POWER_ON leaves the sources of the unset clock pending and every door secured. -/
theorem test_powerOn : ∃ t, exec (.powerOn 5 0) { State.reset with store := Store.erased, journal := Journal.erased } =
    .next t ∧ t.link.node = 5 ∧ t.journal.newest = 5 ∧ t.alarm.pending[Source.clock] = true ∧
    t.doors[(7 : DoorNo)].state = .secured := ⟨_, rfl, by decide +kernel⟩
/-- The duress form of R114: 4826 has 4827, and 5309 has 5300. -/
theorem test_duress_form : duressForm [4, 8, 2, 6] = [4, 8, 2, 7] ∧ duressForm [5, 3, 0, 9] = [5, 3, 0, 0] := by decide +kernel
/-- A loss of R53 rounds upward: 33 of 65536 parts of 10000 are 5.04, taken as 6. -/
theorem test_step_loss : loss 10000 33 = 6 ∧ loss 0 33 = 0 ∧ loss 10000 65535 = 10000 := by decide +kernel
/-- Day 0 was a Saturday (R98). -/
theorem test_weekday : weekday 0 = 5 ∧ weekday 1 = 6 ∧ weekday 2 = 0 := by decide +kernel
/-- The clock passes its last second into the unset state (R98). -/
theorem test_clock_runs_out : Clock.advance 1 ⟨true, 65535, 86399⟩ = ⟨false, 0, 0⟩ := by decide +kernel
/-- Two samples at the threshold latch a channel (R12). -/
theorem test_two_samples_latch :
    (withinRange ⟨some 0, .a, 2400, 200⟩ 2400 (withinRange ⟨some 0, .a, 2400, 200⟩ 2400 Channel.fresh)).latch = true := by decide +kernel
/-- The third out-of-range sample in a row sets the fault flag (R11). -/
theorem test_three_samples_fault :
    (outOfRange 199 (outOfRange 199 (outOfRange 199 Channel.fresh))).fault = .openWire ∧
    (outOfRange 199 (outOfRange 199 Channel.fresh)).fault = .clear := by decide +kernel
/-- ZONE_DISABLE in NORMAL. -/
theorem test_zoneDisable : ∃ t, exec (.zoneDisable 1) State.reset = .next t ∧
    t.release[(0 : Zone)].state = .disabled ∧ t.alarm.condition[Source.impaired 0] = true :=
  ⟨_, rfl, by decide +kernel⟩
/-- A presentation that passes every check releases the strike door. -/
theorem test_presentation : ∃ t, exec (.presentation 0 1 []) desk = .next t ∧ t.doors[(0 : DoorNo)].state = .released ∧
    t.doors[(0 : DoorNo)].passes = [⟨1, .entry⟩] := ⟨_, rfl, by decide +kernel⟩
/-- CLAIM after reset takes the CLOCK source, number 114. -/
theorem test_claim : ∃ t, exec .claim State.reset = .next t ∧ t.alarm.inService = [Source.clock] :=
  ⟨_, rfl, by decide +kernel⟩
/-- A step takes the command at the front. -/
theorem test_step : step { State.reset with pending := [.receiveTimeoutExpiry] } = .next State.reset := rfl

/-- The lock output of a strike: energized while secured, dropped while released, at the fail mode while starting. -/
theorem test_lock_output : lockOutput State.reset 0 = some .energized ∧
    (∃ t, exec (.doorCommandPulse 0) State.reset = .next t ∧ lockOutput t 0 = some .dropped) ∧
    lockOutput (doored 0 .starting) 0 = some .energized ∧
    lockOutput ((doored 0 .starting).modStore fun st =>
      { st with doors := upd st.doors 0 fun d => { d with fail := .safe } }) 0 = some .dropped :=
  ⟨by decide +kernel, ⟨_, rfl, by decide +kernel⟩, by decide +kernel⟩
/-- A JOURNAL_READ reply carries 241 bytes, whatever its count (R200). -/
theorem test_journal_bytes : (bodyBytes (.journal true [])).length = 241 ∧
    (bodyBytes (.journal true [])).head? = some 0x80 := by decide +kernel
/-- The end of a step whose check was abandoned finds another check in progress and does nothing (R174). -/
theorem test_late_step_end : exec (.testStepEnd ⟨.short 0, true⟩) State.reset = .next State.reset := rfl
/-- A message within the wait is line activity, and the slot then stays silent (R163). -/
theorem test_message_in_slot_wait : ∃ t, exec .peek (State.reset.modLink fun l => { l with slot := some false }) = .next t ∧
    t.link.slot = some true := ⟨_, rfl, by decide +kernel⟩
/-- A lone expiry that a check-in has outrun leaves the timer full and raises nothing (R133). -/
theorem test_outrun_lone_expiry : ∃ t,
    exec (.loneTimerExpiry 3) ((State.reset.setLone 3 (some 1800)).setOutrun 3 true) = .next t ∧
    t.loneTimer[(3 : Zone)] = some 1800 ∧ t.alarm.pending[Source.lone 3] = false ∧ t.journal.newest = 5 :=
  ⟨_, rfl, by decide +kernel⟩

/-! ## Hypotheses that states meet

One theorem for every statement with hypotheses, named after it; a conjunct for each of its clauses. -/

theorem test_met_EveryCommandCompletes : State.reset.pending = [] := rfl

/-- ZONE_DISABLE after reset: no POWER_ON, one record, a release state that changes. -/
theorem test_met_ReleaseStateChangesAreJournalled :
    (∀ straps levels, Instr.zoneDisable 1 ≠ .powerOn straps levels) ∧
    ∃ t, exec (.zoneDisable 1) State.reset = .next t ∧ t.journal.newest < 4294967295 ∧
      t.journal.newest ≤ State.reset.journal.newest + 1024 ∧
      t.release[(0 : Zone)].state ≠ State.reset.release[(0 : Zone)].state :=
  ⟨nofun, _, rfl, by decide +kernel⟩

/-- With the journal at the last sequence that leaves room for the five records. -/
theorem test_met_PowerOnRestoresZonesAndDoors :
    let s := written 4294967290
    s.store.written = true ∧
    (∀ i : InputNo, (if (0#48).getLsbD i.val then Level.high else .low) ≠ s.store.inputs[i].active) ∧
    s.journal.newest + 5 ≤ 4294967295 := by decide +kernel

theorem test_pendingFollows_reset : PendingFollows State.reset := by unfold PendingFollows; decide +kernel
theorem test_gateFollows_reset : GateFollows State.reset := by
  unfold GateFollows; decide +kernel
theorem test_settings_reset : SettingsInRange State.reset := by unfold SettingsInRange; decide +kernel
theorem test_occupancy_reset : OccupancySound State.reset := by
  refine ⟨by decide +kernel, fun y z cred h _ => ?_⟩
  have hy : ∀ z : Zone, State.reset.occupancy[z].list = [] := by decide +kernel
  rw [hy y] at h
  cases h

theorem test_met_RestartClearsHousekeeping :
    PendingFollows State.reset ∧ Source.clock ≠ Source.backlog := ⟨test_pendingFollows_reset, by decide⟩

theorem test_met_InputsAreConditionedAndCleared :
    State.reset.inputs[(47 : InputNo)].raw ≠ .high ∧
    (phased 0 .debounceOn).inputs[(0 : InputNo)].phase = .debounceOn ∧
    (phased 0 .debounceOff).inputs[(0 : InputNo)].phase = .debounceOff ∧
    (phased 47 .validate).inputs[(47 : InputNo)].phase = .validate ∧
    ((1 : Nat) ≠ 0 ∧ 1 < 2 ^ 48) ∧ (2 ^ 48 - 1 ≠ 0 ∧ 2 ^ 48 - 1 < 2 ^ 48) ∧
    (GateFollows State.reset ∧ 2 ^ 48 ≤ 2 ^ 48) := by
  unfold GateFollows; decide +kernel

/-- A staff channel 0 in VALIDATE, of kind AUDIBLE, of kind CHECK_IN for a zone whose lone timer runs, and for none. -/
theorem test_met_StaffActivationRaisesOrChecksIn :
    let s := phased (staffInput 0) .validate
    let checkIn := fun (z : Option Zone) =>
      s.modStore fun st => { st with staff := upd st.staff 0 fun _ => ⟨z, .checkIn⟩ }
    let lone := (checkIn (some 3)).setLone 3 (some 1)
    (GateFollows s ∧ s.inputs[staffInput 0].phase = .validate ∧ s.store.staff[(0 : StaffNo)].kind ≠ .checkIn) ∧
    (GateFollows lone ∧ lone.inputs[staffInput 0].phase = .validate ∧
      lone.store.staff[(0 : StaffNo)].kind = .checkIn ∧ lone.store.staff[(0 : StaffNo)].zone = some 3 ∧
      lone.loneTimer[(3 : Zone)].isSome = true) ∧
    (GateFollows (checkIn none) ∧ (checkIn none).inputs[staffInput 0].phase = .validate ∧
      (checkIn none).store.staff[(0 : StaffNo)].kind = .checkIn ∧
      ∀ z, (checkIn none).store.staff[(0 : StaffNo)].zone = some z → (checkIn none).loneTimer[z] = none) := by
  unfold GateFollows; decide +kernel

/-- A channel of zone 1 one sample from its latch, and the rise that gives; a channel of a quiet zone, and none. -/
theorem test_met_SampleRaisesItsZone :
    let s := (State.reset.modStore fun st =>
      { st with detectors := upd st.detectors 0 fun d => { d with zone := some 0 } }).modChannel 0
        fun c => { c with arming := 1 }
    let t := s.modChannel 0 (sampleChannel s.store.detectors[(0 : ChannelNo)] 2400)
    let u := s.modChannel 0 (sampleChannel s.store.detectors[(0 : ChannelNo)] 2399)
    s.store.detectors[(0 : ChannelNo)].zone = some 0 ∧
    (t.channels[(0 : ChannelNo)].latch ≠ s.channels[(0 : ChannelNo)].latch ∧
      Detection.rank s.detection[(0 : Zone)] < Detection.rank (derivedDetection t 0)) ∧
    (u.channels[(0 : ChannelNo)].latch = s.channels[(0 : ChannelNo)].latch ∧
      u.channels[(0 : ChannelNo)].fault = s.channels[(0 : ChannelNo)].fault) := by decide +kernel
theorem test_met_SampleRaisesItsZone_settings :
    SettingsInRange ((State.reset.modStore fun st =>
      { st with detectors := upd st.detectors 0 fun d => { d with zone := some 0 } }).modChannel 0
        fun c => { c with arming := 1 }) := by unfold SettingsInRange; decide +kernel

/-- A loop without channels, and one whose only channel is latched, or has its fault flag cleared. -/
theorem test_met_DetectionIsDerivedFromLatches_loop :
    let s := State.reset.modStore fun st =>
      { st with detectors := upd st.detectors 15 fun d => { d with zone := some 3, loop := .b } }
    let latched := s.modChannel 15 fun c => { c with latch := true, fault := .openWire }
    (∀ c : ChannelNo,
      ¬(State.reset.store.detectors[c].zone = some 3 ∧ State.reset.store.detectors[c].loop = .b)) ∧
    (latched.store.detectors[(15 : ChannelNo)].zone = some 3 ∧ latched.store.detectors[(15 : ChannelNo)].loop = .b ∧
      latched.channels[(15 : ChannelNo)].latch = true) ∧
    (s.store.detectors[(15 : ChannelNo)].zone = some 3 ∧ s.store.detectors[(15 : ChannelNo)].loop = .b ∧
      (Channel.fresh.fault = .clear ∨ Channel.fresh.latch = true)) := by decide +kernel

/-- A zone without channels, and one with channels on loop A alone. -/
theorem test_met_DetectionIsDerivedFromLatches :
    let s := State.reset.modStore fun st =>
      { st with detectors := upd st.detectors 0 fun d => { d with zone := some 0, loop := .a } }
    (∀ c : ChannelNo, State.reset.store.detectors[c].zone ≠ some 0) ∧
    (s.store.detectors[(0 : ChannelNo)].zone = some 0 ∧
      ∀ c : ChannelNo, s.store.detectors[c].zone = some 0 → s.store.detectors[c].loop = .a) := by decide +kernel

/-- A countdown with 2 and with 1 left, none; the two holds running, under AUTO and MANUAL_ONLY. -/
theorem test_met_CountdownsAndHoldsEnd :
    let counting := fun (k : Nat) => (zoned 0 .countdown).modRelease 0 fun r => { r with interval := true, remaining := k }
    let held := (zoned 3 .occupiedHold).modRelease 3 fun r => { r with occupancyHold := some 0 }
    let auto := held.modStore fun st =>
      { st with zones := upd st.zones 3 fun v => { v with occupiedRelease := .auto } }
    let door := (zoned 0 .doorHold).modRelease 0 fun r => { r with doorHold := some 0 }
    (GateFollows (counting 2) ∧ (counting 2).release[(0 : Zone)].state = .countdown ∧
      (counting 2).release[(0 : Zone)].interval = true ∧ 1 < (counting 2).release[(0 : Zone)].remaining) ∧
    ((counting 1).release[(0 : Zone)].state = .countdown ∧ (counting 1).release[(0 : Zone)].interval = true ∧
      (counting 1).release[(0 : Zone)].remaining ≤ 1) ∧
    (GateFollows State.reset ∧ State.reset.release[(0 : Zone)].state ≠ .countdown ∧
      State.reset.release[(0 : Zone)].state ≠ .doorHold ∧ State.reset.release[(0 : Zone)].state ≠ .occupiedHold) ∧
    (door.release[(0 : Zone)].state = .doorHold ∧ door.release[(0 : Zone)].doorHold.isSome = true) ∧
    (auto.release[(3 : Zone)].state = .occupiedHold ∧ auto.release[(3 : Zone)].occupancyHold.isSome = true ∧
      auto.store.zones[(3 : Zone)].occupiedRelease = .auto) ∧
    (GateFollows held ∧ held.release[(3 : Zone)].state = .occupiedHold ∧
      held.release[(3 : Zone)].occupancyHold.isSome = true ∧
      held.store.zones[(3 : Zone)].occupiedRelease = .manualOnly) := by
  unfold GateFollows; decide +kernel

/-- A manual station in VALIDATE with its zone in each state the table of R24 tells apart, the manual delay 10 and 0. -/
theorem test_met_StationsAct_manual :
    let at_ := fun (st : ReleaseState) (remaining delay : Nat) =>
      ((phased (manualInput 0) .validate).modRelease 0 fun r => { r with state := st, remaining := remaining }).modStore
        fun v => { v with zones := upd v.zones 0 fun w => { w with manualDelay := delay } }
    let ready := fun (s : State) (st : ReleaseState) =>
      s.inputs[manualInput 0].phase = .validate ∧ s.release[(0 : Zone)].state = st
    let m := fun (s : State) => s.store.zones[(0 : Zone)].manualDelay
    (ready (at_ .normal 0 1) .normal ∧ 0 < m (at_ .normal 0 1)) ∧ (ready (at_ .alerted 0 0) .alerted ∧ m (at_ .alerted 0 0) = 0) ∧
    (ready (at_ .countdown 0 1) .countdown ∧ min 0 (m (at_ .countdown 0 1)) = 0) ∧
    (ready (at_ .countdown 1 1) .countdown ∧ 0 < min 1 (m (at_ .countdown 1 1))) ∧
    ready (at_ .abortHeld 0 10) .abortHeld ∧ ready (at_ .doorHold 0 10) .doorHold ∧
    ready (at_ .occupiedHold 0 10) .occupiedHold ∧ ready (at_ .disabled 0 10) .disabled ∧
    (∀ st ∈ [ReleaseState.discharge, .soak, .soakDone, .vent],
      ready (at_ st 0 10) st ∧ ReleaseState.isFlooded st = true ∧ GateFollows (at_ st 0 10)) ∧
    (ready (at_ .cleared 0 10) .cleared ∧ GateFollows (at_ .cleared 0 10)) := by
  unfold GateFollows; decide +kernel

/-- An abort station in VALIDATE, and in DEBOUNCE_OFF, with its zone in each state the rule tells apart. -/
theorem test_met_StationsAct_abort :
    let at_ := fun (p : Phase) (st : ReleaseState) =>
      (phased (abortInput 3) p).modRelease 3 fun r => { r with state := st }
    let ready := fun (p : Phase) (st : ReleaseState) =>
      (at_ p st).inputs[abortInput 3].phase = p ∧ (at_ p st).release[(3 : Zone)].state = st
    ready .validate .countdown ∧ ready .validate .doorHold ∧ ready .validate .occupiedHold ∧ ready .validate .discharge ∧
    ready .debounceOff .abortHeld ∧ ready .debounceOff .normal := by decide +kernel
theorem test_met_StationsAct_settings : SettingsInRange (phased (abortInput 3) .debounceOff) := by
  unfold SettingsInRange; decide +kernel

/-- Firings of the main bank: unseen with the reserve at hand, seen, and in SOAK. -/
theorem test_met_FiringEnds :
    let at_ := fun (st : ReleaseState) (seen : Bool) =>
      ((zoned 0 st).modRelease 0 fun r => { r with firing := some ⟨.main, 0⟩ }).modLine fun l =>
        { l with checks := upd l.checks (bankRelease 0 .main) fun _ => some seen }
    let ready := fun (s : State) => s.release[(0 : Zone)].firing = some ⟨.main, 0⟩
    (ready (at_ .discharge false) ∧ (at_ .discharge false).line.checks[bankRelease 0 .main] ≠ some true ∧
      (at_ .discharge false).release[(0 : Zone)].state = .discharge ∧
      bankAvailable (at_ .discharge false) 0 .reserve = true) ∧
    (ready (at_ .discharge true) ∧ (at_ .discharge true).line.checks[bankRelease 0 .main] = some true ∧
      (at_ .discharge true).release[(0 : Zone)].state = .discharge) ∧
    (ready (at_ .soak true) ∧ (at_ .soak true).release[(0 : Zone)].state ≠ .discharge) := by decide +kernel

/-- A step in SOAK that fires the reserve, one that cannot and is the first loss, one at the minimum soak; in SOAK_DONE; in
VENT at the re-entry threshold and one above it. -/
theorem test_met_EstimateSteps :
    let at_ := fun (st : ReleaseState) (level steps : Nat) (auto : Bool) =>
      ((zoned 0 st).modEstimate 0 fun _ => ⟨level, steps, false, false, some 0⟩).modStore
        fun v => { v with zones := upd v.zones 0 fun w => { w with reserveAuto := auto, ventConstant := 0 } }
    let ready := fun (s : State) (st : ReleaseState) =>
      s.estimate[(0 : Zone)].timer.isSome = true ∧ s.release[(0 : Zone)].state = st
    let level := fun (s : State) (base : Nat) => steppedLevel s.estimate[(0 : Zone)] base 1311
    (ready (at_ .soak 8504 0 true) .soak ∧ level (at_ .soak 8504 0 true) 33 < 8500 ∧
      bankAvailable (at_ .soak 8504 0 true) 0 .reserve = true) ∧
    (ready (at_ .soak 8504 58 false) .soak ∧ level (at_ .soak 8504 58 false) 33 < 8500 ∧ 58 + 1 < 60 ∧
      (at_ .soak 8504 58 false).estimate[(0 : Zone)].soakLoss = false) ∧
    (ready (at_ .soak 8505 59 true) .soak ∧ level (at_ .soak 8505 59 true) 33 = 8500) ∧
    ready (at_ .soakDone 8500 60 true) .soakDone ∧
    (ready (at_ .vent 300 60 true) .vent ∧ level (at_ .vent 300 60 true) 0 ≤ 300) ∧
    (ready (at_ .vent 301 60 true) .vent ∧ 300 < level (at_ .vent 301 60 true) 0) ∧ (1 : Zone) ≠ 0 := by decide +kernel

theorem test_met_ZoneDisableAndEnable :
    (State.reset.release[(0 : Zone)].state = .normal) ∧ (zoned 0 .alerted).release[(0 : Zone)].state = .alerted ∧
    ((zoned 3 .countdown).release[(3 : Zone)].state ≠ .normal ∧ (zoned 3 .countdown).release[(3 : Zone)].state ≠ .alerted) ∧
    (zoned 0 .disabled).release[(0 : Zone)].state = .disabled ∧
    (((zoned 0 .disabled).setDetection 0 .confirmed).release[(0 : Zone)].state = .disabled ∧
      ((zoned 0 .disabled).setDetection 0 .confirmed).detection[(0 : Zone)] = .confirmed) ∧
    (GateFollows State.reset ∧ State.reset.release[(0 : Zone)].state ≠ .disabled) ∧ ((5 : Nat) = 0 ∨ 4 < 5) := by
  unfold GateFollows; decide +kernel
theorem test_met_ZoneDisableAndEnable_settings :
    SettingsInRange State.reset ∧ SettingsInRange (zoned 0 .disabled) ∧ SettingsInRange (zoned 3 .countdown) := by
  refine ⟨?_, ?_, ?_⟩ <;> unfold SettingsInRange <;> decide +kernel

theorem test_met_ZonesAreVentedAndReset :
    ((zoned 0 .soakDone).release[(0 : Zone)].firing = none ∧ (zoned 0 .soakDone).release[(0 : Zone)].state = .soakDone) ∧
    ((zoned 0 .soak).release[(0 : Zone)].firing = none ∧ (zoned 0 .soak).release[(0 : Zone)].state = .soak) ∧
    (GateFollows State.reset ∧ State.reset.release[(0 : Zone)].state ≠ .soak ∧
      State.reset.release[(0 : Zone)].state ≠ .soakDone) ∧
    ((zoned 3 .soak).release[(3 : Zone)].state = .soak ∧ (zoned 3 .soak).release[(3 : Zone)].firing = none ∧
      bankAvailable (zoned 3 .soak) 3 .reserve = true) ∧
    (zoned 0 .alerted).release[(0 : Zone)].state = .alerted ∧ (zoned 0 .abortHeld).release[(0 : Zone)].state = .abortHeld ∧
    (zoned 0 .cleared).release[(0 : Zone)].state = .cleared ∧
    ((zoned 0 .vent).release[(0 : Zone)].state ≠ .alerted ∧ (zoned 0 .vent).release[(0 : Zone)].state ≠ .abortHeld ∧
      (zoned 0 .vent).release[(0 : Zone)].state ≠ .cleared) ∧ ((0 : Nat) = 0 ∨ 4 < 0) ∧ ((5 : Nat) = 0 ∨ 4 < 5) := by
  unfold GateFollows; decide +kernel

theorem test_met_DoorTimersExpire :
    let windowed := fun (lock : LockKind) =>
      fitted 0 0 lock ((doored 0 .released).modDoor 0 fun d => { d with window := some 0 })
    let held := (doored 7 .opened).modDoor 7 fun d => { d with heldTimer := some 0 }
    let moving := State.reset.setMotion 7 (some ⟨.throw, 0⟩)
    let late := (doored 7 .opened).modDoor 7 fun d => { d with window := some 0 }
    ((windowed .strike).doors[(0 : DoorNo)].window.isSome = true ∧
      (windowed .strike).doors[(0 : DoorNo)].state = .released ∧
      (windowed .strike).store.doors[(0 : DoorNo)].lock = .strike) ∧
    ((windowed .motorBolt).doors[(0 : DoorNo)].window.isSome = true ∧
      (windowed .motorBolt).doors[(0 : DoorNo)].state = .released ∧
      (windowed .motorBolt).store.doors[(0 : DoorNo)].lock = .motorBolt ∧ boltThrown (windowed .motorBolt) 0 = false) ∧
    (boltThrown (thrown 0 (windowed .motorBolt)) 0 = true ∧ contactOpen (thrown 0 (windowed .motorBolt)) 0 = false ∧
      (thrown 0 (windowed .motorBolt)).doors[(0 : DoorNo)].window.isSome = true) ∧
    State.reset.doors[(0 : DoorNo)].window = none ∧
    (late.doors[(7 : DoorNo)].window.isSome = true ∧ late.doors[(7 : DoorNo)].state ≠ .released) ∧
    (held.doors[(7 : DoorNo)].heldTimer.isSome = true ∧ held.doors[(7 : DoorNo)].state = .opened) ∧
    State.reset.doors[(7 : DoorNo)].heldTimer = none ∧
    moving.motions[(7 : DoorNo)].map InMotion.motion = some .throw ∧
    moving.motions[(7 : DoorNo)].map InMotion.motion ≠ some .withdraw ∧
    State.reset.motions[(7 : DoorNo)].map InMotion.motion ≠ some .throw := by decide +kernel

/-- The contact of door 0 in VALIDATE with the door in each state of R73. -/
theorem test_met_DoorContactActs_opening :
    let at_ := fun (st : DoorState) =>
      (phased (contactInput 0) .validate).modDoor 0 fun d => { d with state := st }
    let inZone := fitted 0 3 .strike ((at_ .released).modRelease 3 fun r => { r with state := .soak })
    (∀ st ∈ [DoorState.releasing, .released, .secured, .securing, .opened, .held, .forced, .boltFault],
      GateFollows (at_ st) ∧ (at_ st).inputs[contactInput 0].phase = .validate ∧
      (at_ st).doors[(0 : DoorNo)].state ≠ .starting ∧ (at_ st).doors[(0 : DoorNo)].state = st) ∧
    (GateFollows inZone ∧ inZone.inputs[contactInput 0].phase = .validate ∧
      inZone.doors[(0 : DoorNo)].state ≠ .starting ∧ inZone.store.doors[(0 : DoorNo)].inside = some 3 ∧
      inZone.release[(3 : Zone)].state = .soak) := by
  unfold GateFollows; decide +kernel

/-- The contact of door 7 in DEBOUNCE_OFF: open under an override, a strike, a thrown bolt without and with a WITHDRAW to
come, a withdrawn bolt, closed, the last open door of a zone in DOOR_HOLD. -/
theorem test_met_DoorContactActs_closing :
    let at_ := fun (st : DoorState) =>
      (phased (contactInput 7) .debounceOff).modDoor 7 fun d => { d with state := st }
    let free := (at_ .opened).modDoor 7 fun d => { d with free := true }
    let bolt := fitted 7 0 .motorBolt (at_ .held)
    let queued := (thrown 7 bolt).setQueue 7 (some ⟨.withdraw, .access⟩)
    let hold := fitted 7 3 .strike ((at_ .opened).modRelease 3 fun r => { r with state := .doorHold, doorHold := some 30 })
    let ready := fun (s : State) => GateFollows s ∧ s.inputs[contactInput 7].phase = .debounceOff ∧
      s.doors[(7 : DoorNo)].state ≠ .starting
    (ready free ∧ free.doors[(7 : DoorNo)].state = .opened ∧ overridden free 7 = true) ∧
    (ready (at_ .forced) ∧ (at_ .forced).doors[(7 : DoorNo)].state = .forced ∧ overridden (at_ .forced) 7 = false ∧
      (at_ .forced).store.doors[(7 : DoorNo)].lock = .strike) ∧
    (ready (thrown 7 bolt) ∧ overridden (thrown 7 bolt) 7 = false ∧
      (thrown 7 bolt).store.doors[(7 : DoorNo)].lock = .motorBolt ∧ boltThrown (thrown 7 bolt) 7 = true ∧
      noWithdraw (thrown 7 bolt) 7 = true) ∧
    (ready queued ∧ queued.store.doors[(7 : DoorNo)].lock = .motorBolt ∧ boltThrown queued 7 = true ∧
      noWithdraw queued 7 = false ∧ queued.doors[(7 : DoorNo)].state = .held) ∧
    (ready bolt ∧ bolt.store.doors[(7 : DoorNo)].lock = .motorBolt ∧ boltThrown bolt 7 = false) ∧
    (ready hold ∧ hold.doors[(7 : DoorNo)].state = .opened ∧ hold.store.doors[(7 : DoorNo)].inside = some 3 ∧
      hold.release[(3 : Zone)].state = .doorHold ∧
      ∀ m : DoorNo, m ≠ 7 → hold.store.doors[m].inside = some 3 → contactOpen hold m = false) ∧
    (ready (at_ .secured) ∧ (at_ .secured).doors[(7 : DoorNo)].state = .secured) := by
  unfold GateFollows; decide +kernel

/-- The exit request of door 0 in VALIDATE: secured with a strike and with a thrown bolt, behind a closed interlock, in
fault, open. -/
theorem test_met_ExitRequestReleasesTheDoor :
    let at_ := fun (st : DoorState) => (phased (rexInput 0) .validate).modDoor 0 fun d => { d with state := st }
    let locked := ((at_ .secured).modStore fun v =>
      { v with doors := v.doors.map fun d => { d with group := 4 } }).modDoor 1 fun d => { d with state := .opened }
    let bolt := thrown 0 (fitted 0 0 .motorBolt (at_ .secured))
    (GateFollows (at_ .secured) ∧ (at_ .secured).inputs[rexInput 0].phase = .validate ∧
      interlockClear (at_ .secured) 0 = true ∧ (at_ .secured).store.doors[(0 : DoorNo)].lock = .strike ∧
      (at_ .secured).doors[(0 : DoorNo)].mark = none ∧ overridden (at_ .secured) 0 = false) ∧
    (GateFollows bolt ∧ bolt.inputs[rexInput 0].phase = .validate ∧ bolt.doors[(0 : DoorNo)].state = .secured ∧
      interlockClear bolt 0 = true ∧ bolt.store.doors[(0 : DoorNo)].lock = .motorBolt ∧ boltThrown bolt 0 = true ∧
      bolt.doors[(0 : DoorNo)].mark = none ∧ overridden bolt 0 = false) ∧
    (GateFollows locked ∧ locked.inputs[rexInput 0].phase = .validate ∧ interlockClear locked 0 = false ∧
      overridden locked 0 = false) ∧
    (∀ st ∈ [DoorState.boltFault, .starting, .opened, .held, .forced],
      GateFollows (at_ st) ∧ (at_ st).inputs[rexInput 0].phase = .validate ∧
      (at_ st).doors[(0 : DoorNo)].state = st) := by
  unfold GateFollows; decide +kernel

/-- Doors in each state that FREE and AUTO tell apart, free of an override, under one, and with one to end. -/
theorem test_met_DoorCommandsFreeAndAuto :
    let free := fun (st : DoorState) => (doored 7 st).modDoor 7 fun d => { d with free := true }
    let bolt := fun (s : State) => fitted 7 0 .motorBolt s
    let queued := (thrown 7 (bolt (free .releasing))).setQueue 7 (some ⟨.withdraw, .access⟩)
    (7 < 8 ∧ ¬ 8 ≤ 7) ∧ 8 ≤ 8 ∧
    ((free .released).doors[(7 : DoorNo)].state ≠ .starting ∧ overridden (free .released) 7 = true) ∧
    (∀ st ∈ [DoorState.secured, .released, .opened, .held, .forced, .boltFault],
      (doored 7 st).doors[(7 : DoorNo)].state = st ∧ overridden (doored 7 st) 7 = false ∧
      (doored 7 st).store.doors[(7 : DoorNo)].lock = .strike ∧ (doored 7 st).queue[(7 : DoorNo)] = none) ∧
    ((thrown 7 (bolt State.reset)).store.doors[(7 : DoorNo)].lock = .motorBolt ∧
      boltThrown (thrown 7 (bolt State.reset)) 7 = true) ∧
    (doored 7 .starting).doors[(7 : DoorNo)].state = .starting ∧
    ¬((doored 7 .released).doors[(7 : DoorNo)].free = true ∧ (doored 7 .released).doors[(7 : DoorNo)].egress = false) ∧
    ((free .releasing).doors[(7 : DoorNo)].free = true ∧ (free .releasing).doors[(7 : DoorNo)].egress = false ∧
      (free .releasing).doors[(7 : DoorNo)].state = .releasing ∧
      (free .releasing).store.doors[(7 : DoorNo)].lock = .strike) ∧
    (boltThrown (thrown 7 (bolt (free .releasing))) 7 = true ∧ noWithdraw (thrown 7 (bolt (free .releasing))) 7 = true ∧
      (thrown 7 (bolt (free .releasing))).doors[(7 : DoorNo)].state = .releasing) ∧
    (boltThrown queued 7 = true ∧ noWithdraw queued 7 = false ∧ queued.doors[(7 : DoorNo)].free = true ∧
      queued.doors[(7 : DoorNo)].state = .releasing) ∧
    (boltThrown (bolt (free .released)) 7 = false ∧ (bolt (free .released)).doors[(7 : DoorNo)].state = .released) ∧
    ((free .opened).doors[(7 : DoorNo)].state = .opened ∧ (free .opened).doors[(7 : DoorNo)].free = true) := by
  decide +kernel

theorem test_met_DoorCommandsPulseAndRetry :
    let locked := (State.reset.modStore fun v =>
      { v with doors := v.doors.map fun d => { d with group := 1 } }).modDoor 1 fun d => { d with state := .opened }
    let bolt := thrown 7 (fitted 7 0 .motorBolt State.reset)
    let free := thrown 7 ((doored 7 .boltFault).modDoor 7 fun d => { d with free := true })
    let ajar := (doored 7 .boltFault).modInput (contactInput 7) fun v => { v with phase := .on }
    (State.reset.doors[(7 : DoorNo)].state = .secured ∧ interlockClear State.reset 7 = true ∧
      State.reset.store.doors[(7 : DoorNo)].lock = .strike ∧ State.reset.doors[(7 : DoorNo)].mark = none ∧
      overridden State.reset 7 = false) ∧
    (bolt.doors[(7 : DoorNo)].state = .secured ∧ interlockClear bolt 7 = true ∧
      bolt.store.doors[(7 : DoorNo)].lock = .motorBolt ∧ boltThrown bolt 7 = true) ∧
    (locked.doors[(0 : DoorNo)].state = .secured ∧ interlockClear locked 0 = false) ∧
    (doored 7 .opened).doors[(7 : DoorNo)].state = .opened ∧ 8 ≤ 8 ∧
    ((doored 7 .boltFault).doors[(7 : DoorNo)].state = .boltFault ∧ contactOpen (doored 7 .boltFault) 7 = false ∧
      boltThrown (doored 7 .boltFault) 7 = overridden (doored 7 .boltFault) 7) ∧
    (free.doors[(7 : DoorNo)].state = .boltFault ∧ overridden free 7 = true ∧ boltThrown free 7 = overridden free 7) ∧
    (ajar.doors[(7 : DoorNo)].state = .boltFault ∧ ¬(overridden ajar 7 = true ∨ contactOpen ajar 7 = false)) ∧
    ¬(State.reset.doors[(7 : DoorNo)].state = .boltFault) := by decide +kernel

/-- A served queue with a slot free; a motion in progress; a RELOCK request behind a closed gate; requests of two doors of
one class, and of a higher one at the higher door, with the last slot. -/
theorem test_met_ServeKeepsToGateAndSlots :
    let gated := { State.reset.setQueue 7 (some ⟨.throw, .relock⟩) with gateClosed := true }
    let two := (State.reset.setQueue 0 (some ⟨.throw, .relock⟩)).setQueue 7 (some ⟨.throw, .relock⟩)
    let mixed := ((State.reset.setQueue 0 (some ⟨.throw, .relock⟩)).setQueue 7 (some ⟨.withdraw, .egress⟩)).setMotion 6
      (some ⟨.throw, 1⟩)
    let last := thrown 7 mixed
    motionsInProgress (serve State.reset) < State.reset.store.slots ∧
    (State.reset.setMotion 7 (some ⟨.throw, 1⟩)).motions[(7 : DoorNo)].isSome = true ∧
    (gated.gateClosed = true ∧ gated.queue[(7 : DoorNo)] = some ⟨.throw, .relock⟩ ∧
      BoltClass.relock ≠ .egress) ∧
    (two.queue[(0 : DoorNo)] = some ⟨.throw, .relock⟩ ∧ startable two 0 = true ∧
      (∀ m : DoorNo, ∀ q ∈ two.queue[m], startable two m = true →
        BoltClass.rank q.cls < BoltClass.rank .relock ∨ (q.cls = .relock ∧ 0 ≤ m)) ∧
      boltThrown two 0 ≠ decide (Motion.throw = .throw) ∧ motionsInProgress two < two.store.slots) ∧
    (last.queue[(7 : DoorNo)] = some ⟨.withdraw, .egress⟩ ∧ startable last 7 = true ∧
      (∀ m : DoorNo, ∀ q ∈ last.queue[m], startable last m = true →
        BoltClass.rank q.cls < BoltClass.rank .egress ∨ (q.cls = .egress ∧ 7 ≤ m)) ∧
      boltThrown last 7 ≠ decide (Motion.withdraw = .throw) ∧ motionsInProgress last + 1 = last.store.slots) := by
  decide +kernel

/-- Doors of a zone that an egress request or end reaches: at rest, released and releasing under its override, open, with a
strike and a bolt; a door of another zone; one under an override already. -/
theorem test_met_EgressReachesTheZonesDoors :
    let under := fun (st : DoorState) (lock : LockKind) =>
      fitted 7 3 lock ((doored 7 st).modDoor 7 fun d => { d with egress := true })
    (∀ lock ∈ [LockKind.strike, .motorBolt], ∀ st ∈ [DoorState.released, .releasing, .opened],
      (under st lock).store.doors[(7 : DoorNo)].inside = some 3 ∧ (under st lock).store.doors[(7 : DoorNo)].lock = lock ∧
      (under st lock).doors[(7 : DoorNo)].egress = true ∧ (under st lock).doors[(7 : DoorNo)].free = false ∧
      (under st lock).doors[(7 : DoorNo)].state = st ∧ overridden (under st lock) 7 = true) ∧
    (desk.store.doors[(0 : DoorNo)].inside = some 0 ∧ overridden desk 0 = false ∧
      ¬(desk.doors[(0 : DoorNo)].egress = true ∧ desk.doors[(0 : DoorNo)].free = false)) ∧
    desk.store.doors[(0 : DoorNo)].inside ≠ some 1 := by decide +kernel

/-- A bolt; a strike while starting with either fail mode, secured and released, its contact in VALIDATE. -/
theorem test_met_LockOutputsFollowDoors :
    let safe := (doored 0 .starting).modStore fun st =>
      { st with doors := upd st.doors 0 fun d => { d with fail := .safe } }
    let released := (doored 0 .released).modDoor 0 fun d => { d with mark := some .ordinary, window := some 0 }
    let forced := phased (contactInput 0) .validate
    (fitted 0 0 .motorBolt State.reset).store.doors[(0 : DoorNo)].lock = .motorBolt ∧
    ((doored 0 .starting).store.doors[(0 : DoorNo)].lock = .strike ∧
      (doored 0 .starting).doors[(0 : DoorNo)].state = .starting ∧
      (doored 0 .starting).store.doors[(0 : DoorNo)].fail = .secure) ∧
    (safe.doors[(0 : DoorNo)].state = .starting ∧ safe.store.doors[(0 : DoorNo)].fail = .safe) ∧
    (released.doors[(0 : DoorNo)].mark ≠ none ∧ released.doors[(0 : DoorNo)].state = .released ∧
      released.doors[(0 : DoorNo)].window.isSome = true ∧ released.store.doors[(0 : DoorNo)].lock = .strike) ∧
    (forced.doors[(0 : DoorNo)].state = .secured ∧ forced.store.doors[(0 : DoorNo)].lock = .strike ∧
      forced.doors[(0 : DoorNo)].mark = none ∧ overridden forced 0 = false ∧ interlockClear forced 0 = true ∧
      GateFollows forced ∧ forced.inputs[contactInput 0].phase = .validate) ∧
    MarksSound forced ∧ MarksSound released := by
  unfold GateFollows MarksSound; decide +kernel

/-- The last second of a day; a set and an unset clock; the last second-of-day, and the first that is none; a second that is
no minute boundary; a custody window open. -/
theorem test_met_ClockRunsAndIsSet :
    let late := State.reset.setClock ⟨true, 65535, 86399⟩
    let within := State.reset.setClock ⟨true, 0, 58⟩
    let waiting := State.reset.setCustody 7 (some ⟨9, 1, .guard, 3, 1⟩)
    late.clock.second ≤ 86399 ∧ late.clock.set = true ∧ State.reset.clock.second ≤ 86399 ∧
    State.reset.clock.set = false ∧ ((65535 : Nat) ≤ 65535 ∧ (86399 : Nat) ≤ 86399) ∧ 86399 < 86400 ∧
    (within.clock.set = true ∧ (within.clock.second + 1) % 60 ≠ 0) ∧
    (waiting.custody[(7 : DoorNo)] = some ⟨9, 1, .guard, 3, 1⟩ ∧ waiting.custody[(0 : DoorNo)] = none) ∧
    ∃ t, exec .clockSecond waiting = .next t ∧ t.period[(3 : Zone)] = waiting.period[(3 : Zone)] := by
  refine ⟨?_, ?_, ?_, ?_, ?_, ?_, ?_, ?_, _, rfl, ?_⟩ <;> decide +kernel

/-- A schedule of six intervals, one of them a whole day; the limits of the holiday list; every mode and none. -/
theorem test_met_SchedulesHolidaysAndModesAct :
    let six := List.replicate 6 (⟨0x80, 0, 1440⟩ : IntervalRequest)
    let good := fun (l : List IntervalRequest) => l.length ≤ 6 ∧ ∀ i ∈ l, i.days ≠ 0 ∧ i.start < i.stop ∧ i.stop ≤ 1440
    (15 < 16 ∧ (15 : Nat) ≠ 0 ∧ good six) ∧ (1 < 16 ∧ (1 : Nat) ≠ 0) ∧ 16 ≤ 16 ∧
    ¬ good [⟨1, 1440, 1440⟩] ∧ ¬ good (List.replicate 7 ⟨1, 0, 1⟩) ∧
    ((List.replicate 32 65535).length ≤ 32 ∧ ∀ d ∈ List.replicate 32 65535, 1 ≤ d ∧ d ≤ 65535) ∧
    (32 < (List.replicate 33 1).length) ∧ 0 ∈ [0] ∧
    (ZoneMode.ofCode 1).isSome = true ∧ ZoneMode.ofCode 4 = some .lockdown ∧ ZoneMode.ofCode 5 = none ∧
    (State.reset.store.modes[(3 : Zone)] ≠ .lockdown ∧ (3 : Zone).val + 1 = 4) ∧ 4 < 5 := by decide +kernel

theorem test_met_CredentialTableIsKeptAndRead :
    let rising := fun (s : State) => s.store.credentials.Pairwise fun a b => a.number < b.number
    let r := credentialRequest
    let full := holding ((List.range 4096).map fun k => card (k + 2) 1 .guard) State.reset
    let forbidden := fun (r : CredentialRequest) => r.number = 0 ∨ r.holder = 0 ∨ r.role = 0 ∨ 4 < r.role ∨
      15 < r.schedule ∨ (r.pinLength ≠ 0 ∧ r.pinLength ≠ 4 ∧ r.pinLength ≠ 5 ∧ r.pinLength ≠ 6) ∨
      (∃ d ∈ r.digits.take r.pinLength, 9 < d) ∨
      (r.validFrom ≠ 0 ∧ r.validUntil ≠ 0 ∧ r.validUntil < r.validFrom)
    (rising desk ∧ Role.ofCode r.role = some .custodian ∧ r.schedule = (0 : ScheduleNo).val ∧ ¬ forbidden r ∧
      (lookup desk 1).isSome = true) ∧
    (∀ q ∈ [{ r with number := 0 }, { r with holder := 0 }, { r with role := 0 }, { r with role := 5 },
      { r with schedule := 16 }, { r with pinLength := 3 }, { r with pinLength := 7 },
      { r with digits := [10, 1, 1, 1, 0, 0] }, { r with validFrom := 6, validUntil := 5 }], forbidden q) ∧
    ¬ forbidden { r with role := 4, schedule := 15, validFrom := 5, validUntil := 5 } ∧
    (rising State.reset ∧ State.reset.store.credentials.length < 4096) ∧
    ((lookup full 1).isSome = false ∧ 4096 ≤ full.store.credentials.length) ∧
    (((2 : Nat) ≠ 0 ∧ (lookup desk 2).isSome = true) ∧ GateFollows desk ∧ desk.readers[(0 : ReaderNo)].lockout = none) ∧
    ((3 : Nat) ≠ 0 ∧ lookup desk 3 = none) ∧
    (∃ d ∈ ([10, 1, 1, 1] : List Nat).take 4, 9 < d) := by
  unfold GateFollows; decide +kernel
/-- A table of 4096 rises: checked by the numbers alone. -/
theorem test_met_CredentialTableIsKeptAndRead_full : (List.range 4096).length = 4096 ∧
    ((List.range 4096).map fun k => card (k + 2) 1 .guard).Pairwise (fun a b => a.number < b.number) := by
  refine ⟨List.length_range, ?_⟩
  rw [List.pairwise_map]
  exact List.pairwise_lt_range.imp fun h => Nat.add_lt_add_right h 2

theorem test_met_CredentialTableIsKeptAndRead_lookup :
    (desk.store.credentials.Pairwise fun a b => a.number < b.number) ∧ (0 : Nat) = 0 ∧
    ((2 : Nat) ≠ 0 ∧ ∃ c ∈ desk.store.credentials, c.number = 2) ∧
    ((3 : Nat) ≠ 0 ∧ ∀ c ∈ desk.store.credentials, c.number ≠ 3) ∧
    (∃ c ∈ desk.store.credentials, 1 < c.number ∧
      ∀ d ∈ desk.store.credentials, 1 < d.number → c.number ≤ d.number) ∧
    (∀ c ∈ desk.store.credentials, c.number ≤ 2) := by decide +kernel

/-- A locked-out reader; no record; a suspended one; the three verdicts; the door, schedule, mode and release checks. -/
theorem test_met_PresentationChecksOneToNine :
    let with_ := fun (f : Credential → Credential) => holding [f (card 1 1 .conservator)] desk
    let dated := fun (d : Nat) (f : Credential → Credential) => (with_ f).setClock ⟨true, d, 0⟩
    let passes := fun (s : State) => GateFollows s ∧ s.readers[(0 : ReaderNo)].lockout = none
    let fit := fun (s : State) (f : Credential → Credential) =>
      passes s ∧ lookup s 1 = some (f (card 1 1 .conservator)) ∧ (f (card 1 1 .conservator)).suspended = false ∧
      s.store.readers[(0 : ReaderNo)].direction = .entry
    (desk.modReader 0 fun v => { v with lockout := some 0 }).readers[(0 : ReaderNo)].lockout.isSome = true ∧
    (passes desk ∧ lookup desk 3 = none) ∧
    (passes (with_ fun c => { c with suspended := true }) ∧
      (lookup (with_ fun c => { c with suspended := true }) 1).any (fun c => c.suspended) = true) ∧
    (fit (with_ fun c => { c with validFrom := 5 }) (fun c => { c with validFrom := 5 }) ∧
      verdict (with_ fun c => { c with validFrom := 5 }) { card 1 1 .conservator with validFrom := 5 } = .clock) ∧
    (fit (dated 4 fun c => { c with validFrom := 5 }) (fun c => { c with validFrom := 5 }) ∧
      verdict (dated 4 fun c => { c with validFrom := 5 }) { card 1 1 .conservator with validFrom := 5 }
        = .notYetValid) ∧
    (fit (dated 6 fun c => { c with validUntil := 5 }) (fun c => { c with validUntil := 5 }) ∧
      verdict (dated 6 fun c => { c with validUntil := 5 }) { card 1 1 .conservator with validUntil := 5 }
        = .expired) ∧
    (fit (with_ fun c => { c with doors := 0xFE }) (fun c => { c with doors := 0xFE }) ∧
      verdict desk { card 1 1 .conservator with doors := 0xFE } = .valid ∧
      ({ card 1 1 .conservator with doors := 0xFE }).doors.getLsbD 0 = false) ∧
    (fit (with_ fun c => { c with schedule := 15 }) (fun c => { c with schedule := 15 }) ∧
      scheduleActive (with_ fun c => { c with schedule := 15 }) 15 = false) ∧
    (fit desk id ∧ verdict desk (card 1 1 .conservator) = .valid ∧
      (card 1 1 .conservator).doors.getLsbD 0 = true ∧ scheduleActive desk 0 = true ∧
      desk.store.doors[(0 : DoorNo)].inside = some 0) ∧
    (desk.modStore fun st => { st with modes := upd st.modes 0 fun _ => .lockdown }).store.modes[(0 : Zone)]
      = .lockdown ∧
    (desk.store.modes[(0 : Zone)] ≠ .lockdown ∧
      ReleaseState.inSpan (desk.modRelease 0 fun r => { r with state := .vent }).release[(0 : Zone)].state = true ∧
      GateFollows (desk.modRelease 0 fun r => { r with state := .vent })) := by
  unfold GateFollows; decide +kernel

/-- The checks that a presentation at `desk` passes. -/
theorem passesChecks_desk : PassesChecks desk 0 (card 1 1 .conservator) [] where
  lockout := by decide +kernel
  record := by decide +kernel
  nine := by decide +kernel
  pin := by decide +kernel
  door := by decide +kernel
  passback := by decide +kernel
  room := by decide +kernel

/-- `desk` with a thrown bolt for the strike. -/
def boltDesk : State := thrown 0 (fitted 0 0 .motorBolt desk)
theorem passesChecks_boltDesk : PassesChecks boltDesk 0 (card 1 1 .conservator) [] where
  lockout := by decide +kernel
  record := by decide +kernel
  nine := by decide +kernel
  pin := by decide +kernel
  door := by decide +kernel
  passback := by decide +kernel
  room := by decide +kernel

theorem test_met_GrantLetsTheDoorGo : GateFollows desk ∧ PassesChecks desk 0 (card 1 1 .conservator) [] ∧
    desk.store.readers[(0 : ReaderNo)].door = 0 ∧
    (∀ z, entryZone desk 0 = some z → custodyApplies desk 0 z = false) ∧ desk.doors[(0 : DoorNo)].state = .secured ∧
    desk.store.doors[(0 : DoorNo)].lock = .strike ∧ desk.doors[(0 : DoorNo)].mark = none ∧
    overridden desk 0 = false ∧ interlockClear desk 0 = true ∧ desk.doors[(0 : DoorNo)].passes = [] ∧
    (∀ m : DoorNo, ∀ p ∈ desk.doors[m].passes, p.cred ≠ 1) :=
  ⟨by unfold GateFollows; decide +kernel, passesChecks_desk, by decide +kernel⟩
theorem test_met_GrantLetsTheDoorGo_bolt : GateFollows boltDesk ∧ PassesChecks boltDesk 0 (card 1 1 .conservator) [] ∧
    (∀ z, entryZone boltDesk 0 = some z → custodyApplies boltDesk 0 z = false) ∧
    boltDesk.doors[(0 : DoorNo)].state = .secured ∧ boltDesk.store.doors[(0 : DoorNo)].lock = .motorBolt ∧
    boltThrown boltDesk 0 = true ∧ boltDesk.doors[(0 : DoorNo)].mark = none ∧ overridden boltDesk 0 = false ∧
    interlockClear boltDesk 0 = true ∧ boltDesk.doors[(0 : DoorNo)].passes = [] ∧
    (∀ m : DoorNo, ∀ p ∈ boltDesk.doors[m].passes, p.cred ≠ 1) :=
  ⟨by unfold GateFollows; decide +kernel, passesChecks_boltDesk, by decide +kernel⟩

/-- No digits, no PIN held, a wrong PIN as the second and the third failure, the duress form. -/
theorem test_met_PinFailuresCountAndDuressSignals :
    let s := reading .entry .always desk
    let bare := holding [{ card 1 1 .conservator with pin := [] }] s
    let ready := fun (s : State) => GateFollows s ∧ s.readers[(0 : ReaderNo)].lockout = none ∧ pinRequired s 0 = true
    let second := s.modReader 0 fun v => { v with bad := 1 }
    let third := s.modReader 0 fun v => { v with bad := 2 }
    (ready s ∧ lookup s 1 = some (card 1 1 .conservator) ∧ recordRefusal s 0 (card 1 1 .conservator) = none) ∧
    (ready bare ∧ (lookup bare 1).any (fun c => decide (c.pin = [])) = true) ∧
    (([4, 8, 2, 8] : List Nat) ≠ (card 1 1 .conservator).pin ∧
      ([4, 8, 2, 8] : List Nat) ≠ duressForm (card 1 1 .conservator).pin) ∧
    (ready second ∧ second.readers[(0 : ReaderNo)].bad < 2) ∧ (ready third ∧ 2 ≤ third.readers[(0 : ReaderNo)].bad) ∧
    ([4, 8, 2, 7] ≠ (card 1 1 .conservator).pin ∧ [4, 8, 2, 7] = duressForm (card 1 1 .conservator).pin) := by
  unfold GateFollows; decide +kernel

/-- `desk` with custody always, and the window opened by another person. -/
def custodyDesk : State :=
  desk.modStore fun st => { st with doors := upd st.doors 0 fun d => { d with custody := .always } }
def opened (holder : Nat) (role : Role) : State := custodyDesk.setCustody 0 (some ⟨9, holder, role, 0, 1⟩)
theorem passesChecks_custody : PassesChecks custodyDesk 0 (card 1 1 .conservator) [] where
  lockout := by decide +kernel
  record := by decide +kernel
  nine := by decide +kernel
  pin := by decide +kernel
  door := by decide +kernel
  passback := by decide +kernel
  room := by decide +kernel
theorem passesChecks_same : PassesChecks (opened 1 .guard) 0 (card 1 1 .conservator) [] where
  lockout := by decide +kernel
  record := by decide +kernel
  nine := by decide +kernel
  pin := by decide +kernel
  door := by decide +kernel
  passback := by decide +kernel
  room := by decide +kernel
theorem passesChecks_other : PassesChecks (opened 2 .guard) 0 (card 1 1 .conservator) [] where
  lockout := by decide +kernel
  record := by decide +kernel
  nine := by decide +kernel
  pin := by decide +kernel
  door := by decide +kernel
  passback := by decide +kernel
  room := by decide +kernel

theorem passesChecks_pair : PassesChecks (opened 2 .custodian) 0 (card 1 1 .conservator) [] where
  lockout := by decide +kernel
  record := by decide +kernel
  nine := by decide +kernel
  pin := by decide +kernel
  door := by decide +kernel
  passback := by decide +kernel
  room := by decide +kernel

theorem test_met_CustodyTakesTwoPeople :
    (GateFollows custodyDesk ∧ entryZone custodyDesk 0 = some 0 ∧ custodyApplies custodyDesk 0 0 = true ∧
      custodyDesk.custody[(0 : DoorNo)] = none) ∧
    (GateFollows (opened 1 .guard) ∧ custodyApplies (opened 1 .guard) 0 0 = true ∧
      (opened 1 .guard).custody[(0 : DoorNo)] = some ⟨9, 1, .guard, 0, 1⟩) ∧
    (GateFollows (opened 2 .guard) ∧ custodyApplies (opened 2 .guard) 0 0 = true ∧
      (opened 2 .guard).custody[(0 : DoorNo)] = some ⟨9, 2, .guard, 0, 1⟩ ∧ (1 : Nat) ≠ 2 ∧ Role.guard ≠ .custodian ∧
      (card 1 1 .conservator).role ≠ .custodian) ∧
    (let s := opened 2 .custodian
     GateFollows s ∧ entryZone s 0 = some 0 ∧ custodyApplies s 0 0 = true ∧ (1 : Nat) ≠ 2 ∧
      s.custody[(0 : DoorNo)] = some ⟨9, 2, .custodian, 0, 1⟩ ∧ (9 : Nat) ≠ 1 ∧ s.doors[(0 : DoorNo)].state = .secured ∧
      s.doors[(0 : DoorNo)].mark = none ∧ overridden s 0 = false ∧ interlockClear s 0 = true ∧
      s.doors[(0 : DoorNo)].passes = [] ∧ ∀ (m : DoorNo), ∀ p ∈ s.doors[m].passes, p.cred ≠ 9 ∧ p.cred ≠ 1) := by
  unfold GateFollows; decide +kernel

theorem test_met_PeopleTimersExpire :
    (State.reset.modReader 7 fun _ => ⟨3, some 0⟩).readers[(7 : ReaderNo)].lockout.isSome = true ∧
    State.reset.readers[(7 : ReaderNo)].lockout = none ∧
    (opened 1 .guard).custody[(0 : DoorNo)] = some ⟨9, 1, .guard, 0, 1⟩ ∧ State.reset.custody[(0 : DoorNo)] = none ∧
    (State.reset.setOutrun 3 true).loneOutrun[(3 : Zone)] = true ∧
    ((State.reset.setLone 3 (some 0)).loneTimer[(3 : Zone)].isSome = true ∧
      (State.reset.setLone 3 (some 0)).loneOutrun[(3 : Zone)] = false) ∧
    (State.reset.loneTimer[(3 : Zone)] = none ∧ State.reset.loneOutrun[(3 : Zone)] = false) := by
  decide +kernel

/-- A released door with an ENTRY pass and with an EXIT pass. -/
theorem test_met_OpeningAppliesThePass :
    let at_ := fun (d : Direction) =>
      ((phased (contactInput 7) .validate).modDoor 7 fun v => { v with state := .released, passes := [⟨1, d⟩] })
    (∀ d ∈ [Direction.entry, .exit], (at_ d).inputs[contactInput 7].phase = .validate ∧
      (at_ d).doors[(7 : DoorNo)].state = .released ∧ (at_ d).store.doors[(7 : DoorNo)].inside = none ∧
      (at_ d).doors[(7 : DoorNo)].passes = [⟨1, d⟩] ∧ (at_ d).occupancy = State.reset.occupancy) := by decide +kernel
theorem test_met_OpeningAppliesThePass_sound (s : State) (h : s.occupancy = State.reset.occupancy) :
    OccupancySound s := by
  have := test_occupancy_reset
  unfold OccupancySound at this ⊢
  rw [h]
  exact this

theorem test_met_OccupancyMessagesAct :
    let s := (zoned 0 .occupiedHold).modOccupancy 0 fun _ => ⟨[], false⟩
    let t := (zoned 0 .occupiedHold).modOccupancy 0 fun _ => ⟨[7], true⟩
    (s.occupancy[(0 : Zone)].certain = false ∧ s.release[(0 : Zone)].state = .occupiedHold ∧
      s.occupancy[(0 : Zone)].list = []) ∧
    ((7 : Nat) ≠ 0 ∧ 7 ∈ t.occupancy[(0 : Zone)].list ∧ t.release[(0 : Zone)].state = .occupiedHold ∧
      t.occupancy[(0 : Zone)].list.erase 7 = [] ∧ t.occupancy[(0 : Zone)].certain = true) ∧
    (GateFollows t ∧ (8 : Nat) ≠ 0 ∧ 8 ∉ t.occupancy[(0 : Zone)].list) ∧ GateFollows State.reset ∧
    ((0 : Nat) = 0 ∨ 4 < 0) ∧ ((5 : Nat) = 0 ∨ 4 < 5) := by
  unfold GateFollows; decide +kernel

/-- One output, all eight, none, and a ninth; an output that is silenceable and lists no source. -/
theorem test_met_SilenceQuietsSilenceableOutputs :
    ((1 : Nat) ≠ 0 ∧ 1 < 2 ^ 8) ∧ ((255 : Nat) ≠ 0 ∧ 255 < 2 ^ 8) ∧ 2 ^ 8 ≤ 256 ∧
    (Source.backlog ∉ State.reset.store.outputs[(7 : OutputNo)].sources ∧ (255 : Nat).testBit 7 = true ∧
      State.reset.store.outputs[(7 : OutputNo)].silenceable = true) := by decide +kernel

/-- A journal one record before its last sequence and at it; EDGE and LEVEL sources in each case of the rules. -/
theorem test_met_RecordsAndSourcesAct :
    let s := State.reset.modStore fun st => { st with outputs := upd st.outputs 0 fun v => { v with sources := [4] } }
    let served := State.reset.modAlarm fun a => { a with inService := [Source.clock] }
    (written 4294967294).journal.newest < 4294967295 ∧ (written 4294967295).journal.newest = 4294967295 ∧
    (Source.kind (4 : Source) = .edge ∧ s.alarm.pending[(4 : Source)] = false ∧
      (4 : Source) ∈ s.store.outputs[(0 : OutputNo)].sources ∧ eligible (edgeEvent 4 s) 4 = true) ∧
    (edgeEvent 4 s).alarm.pending[(4 : Source)] = true ∧
    (Source.kind Source.clock = .level ∧ Source.clock ≠ Source.backlog ∧ Source.clock ∈ served.alarm.inService) ∧
    (Source.clock ∉ State.reset.alarm.inService ∧
      State.reset.alarm.pending[Source.clock] = State.reset.alarm.condition[Source.clock] ∧
      State.reset.alarm.condition[Source.clock] = true) ∧
    (let u := State.reset.modStore fun st => { st with
        outputs := upd st.outputs 7 fun v => { v with sources := [Source.supply] } }
     Source.kind Source.supply = .level ∧ Source.supply ≠ Source.backlog ∧ u.alarm.condition[Source.supply] = false ∧
      Source.supply ∉ u.alarm.inService ∧ u.alarm.pending[Source.supply] = false ∧
      Source.supply ∈ u.store.outputs[(7 : OutputNo)].sources ∧
      eligible (setCondition Source.supply true u) Source.supply = true) := by decide +kernel

/-- After reset source 114 is the most urgent; with the threshold at 7 none is. The same source in service, by number and
as the newest; not in service; a number above 115. -/
theorem test_met_AlarmsAreClaimedAndCompleted :
    let served := State.reset.modAlarm fun a => { a with inService := [Source.clock] }
    let high := State.reset.modStore fun st => { st with threshold := 7 }
    (eligible State.reset Source.clock = true ∧ ∀ x : Source, eligible State.reset x = true →
      priority State.reset x < priority State.reset Source.clock ∨
        (priority State.reset x = priority State.reset Source.clock ∧ Source.clock ≤ x)) ∧
    (∀ src : Source, eligible high src = false) ∧
    (served.alarm.inService.Nodup ∧ Source.clock ∈ served.alarm.inService ∧ 114 = Source.clock.val + 1 ∧
      Source.clock ≠ Source.backlog ∧ served.alarm.inService.getLast? = some Source.clock) ∧
    (State.reset.alarm.inService.Nodup ∧ (115 : Nat) ≤ 115 ∧ State.reset.alarm.inService = [] ∧
      ∀ src ∈ State.reset.alarm.inService, 115 ≠ src.val + 1) ∧ 115 < 116 := by decide +kernel

theorem test_met_WhoCallsFindsTheCaller :
    let slot := fun (b : Bool) => State.reset.modLink fun l => { l with slot := some b }
    State.reset.link.slot = none ∧ (slot true).link.slot = some true ∧
    (((slot false).modLink fun l => { l with node := 0 }).link.slot = some false ∧
      ((slot false).modLink fun l => { l with node := 0 }).link.node = 0) ∧
    ((slot false).link.slot = some false ∧ attentionDriven (slot false) = true ∧ (slot false).link.node ≠ 0) := by
  decide +kernel

theorem test_met_SourceSettingsAndThreshold :
    let served := State.reset.modAlarm fun a => { a with inService := [Source.clock] }
    let high := State.reset.modStore fun st => { st with threshold := 7 }
    ((0 : Source) ≤ 114 ∧ ∀ src ∈ State.reset.alarm.inService, priority State.reset src = min 7 8) ∧
    (Source.clock ≤ Source.clock ∧ ∃ src ∈ served.alarm.inService, (Source.clock ≤ src ∧ src ≤ Source.clock) ∧
      priority served src ≠ min 7 8) ∧
    (0 : Source) < 1 ∧ (115 < 116 ∧ 2 < 3) ∧
    (∃ src : Source, eligible (high.modStore fun st => { st with threshold := 0 }) src = true ∧
      eligible high src = false) := by decide +kernel

/-- A run RUNNING and none; the ends of the ranges of the two selections; the periodic timer on and off. -/
theorem test_met_LineMessagesAct :
    let idle := State.reset.modRun fun r => { r with state := .done }
    ((1 : Nat) ≠ 0 ∧ 1 < 2 ^ 16) ∧ (65535 ≠ 0 ∧ 65535 < 2 ^ 16) ∧ 2 ^ 16 ≤ 65536 ∧
    ¬(idle.line.run.state = .running ∨ ∃ z : Zone, idle.release[z].firing.isSome = true) ∧
    State.reset.line.run.state = .running ∧ State.reset.line.periodic.isSome = true ∧
    (State.reset.modLine fun l => { l with periodic := none }).line.periodic = none ∧
    ((65536 : Nat) ≠ 0 ∧ 65536 < 2 ^ 17) ∧ (65536 : Nat).testBit 16 = true ∧ (32768 : Nat).testBit 15 = true ∧
    2 ^ 17 ≤ 131072 := by decide +kernel

/-- Each check in progress, none, and one that is another than the step's; the turn past a flagged circuit and past an
annunciator that is on, and past every circuit. -/
theorem test_met_TestStepsTakeResults :
    let flagged := State.reset.modLine fun l => { l with flags := upd l.flags 0 fun _ => ⟨true, false⟩ }
    let sounding := (State.reset.modRun fun run =>
      { run with results := Vector.ofFn fun c => if 8 ≤ c.val then .waiting else .notInRun }).modOutput 0
        fun o => { o with on := true }
    let none_ := State.reset.modRun fun run => { run with results := Vector.replicate 16 .notInRun }
    let turn := fun (s : State) (c : CircuitNo) => s.line.run.results[c] = .waiting ∧ ¬ SkippedAtTurn s c ∧
      ∀ x : CircuitNo, x < c → s.line.run.results[x] = .waiting → SkippedAtTurn s x
    checkInProgress State.reset = some .supply ∧
    (∀ x : CircuitNo, State.reset.line.run.results[x] = .waiting) ∧
    checkInProgress (running .passed 15 .testingShort) = some (.short 15) ∧
    checkInProgress (running .passed 0 .testingOpen) = some (.opened 0) ∧
    checkInProgress (State.reset.modRun fun r => { r with state := .done }) = none ∧
    checkInProgress State.reset ≠ some (.short 0) ∧
    (OneCheck State.reset ∧ OneCheck (running .passed 15 .testingShort) ∧ OneCheck (running .passed 0 .testingOpen)) ∧
    (turn flagged 1 ∧ SkippedAtTurn flagged 0) ∧ (turn sounding 9 ∧ SkippedAtTurn sounding 8) ∧
    ∀ x : CircuitNo, none_.line.run.results[x] = .waiting → SkippedAtTurn none_ x := by
  unfold SkippedAtTurn OneCheck; decide +kernel

/-- Counts 1 and 15, 0 and 16; a sequence above the newest, at the boundary, one above it. -/
theorem test_met_JournalIsReadAndAcknowledged :
    JournalContiguous State.reset ∧ (1 ≤ 1 ∧ 1 ≤ 15) ∧ (1 ≤ 15 ∧ 15 ≤ 15) ∧ 15 < 16 ∧ State.reset.journal.newest < 6 ∧
    (0 ≤ State.reset.journal.newest ∧ 0 ≤ State.reset.journal.boundary) ∧
    (1 ≤ State.reset.journal.newest ∧ State.reset.journal.boundary < 1) := by unfold JournalContiguous; decide +kernel

/-- Each number at the last value that exists and the first that does not; settings that are accepted and refused. -/
theorem test_met_FieldSettingsAreStored :
    (47 < 48 ∧ Level.ofCode 2 = some .low ∧ Level.ofCode 3 = none ∧ 48 ≤ 48 ∧ GateFollows State.reset) ∧
    (15 < 16 ∧ zoneSetting 4 = some (some 3) ∧ zoneSetting 0 = some none ∧ zoneSetting 5 = none ∧
      Loop.ofCode 2 = some .b ∧ Loop.ofCode 3 = none ∧ 16 ≤ 16) ∧
    (State.reset.release[(3 : Zone)].state = .normal) ∧
    (GateFollows (zoned 3 .vent) ∧ (zoned 3 .vent).release[(3 : Zone)].state ≠ .normal ∧
      (zoned 3 .vent).release[(3 : Zone)].state ≠ .alerted ∧ (zoned 3 .vent).release[(3 : Zone)].state ≠ .disabled) ∧
    (zoneRequest.zone = (0 : Zone).val + 1 ∧ AbortMode.ofCode zoneRequest.abortMode = some .restart ∧
      OccupiedRelease.ofCode zoneRequest.occupiedRelease = some .auto ∧
      YesNo.ofCode zoneRequest.reservePresent = some true ∧ YesNo.ofCode zoneRequest.reserveAuto = some true ∧
      YesNo.ofCode zoneRequest.singleKnock = some false ∧ Passback.ofCode zoneRequest.passback = some .soft) ∧
    ReleaseState.inSpan State.reset.release[(0 : Zone)].state = false ∧
    (GateFollows (zoned 0 .countdown) ∧ ReleaseState.inSpan (zoned 0 .countdown).release[(0 : Zone)].state = true) ∧
    (AbortMode.ofCode 3 = none ∧ OccupiedRelease.ofCode 3 = none ∧ YesNo.ofCode 3 = none ∧ Passback.ofCode 4 = none) ∧
    (doorRequest.door = (0 : DoorNo).val ∧ zoneSetting doorRequest.inside = some (some 0) ∧
      zoneSetting doorRequest.outside = some none ∧ LockKind.ofCode doorRequest.lock = some .strike ∧
      FailMode.ofCode doorRequest.fail = some .secure ∧ CustodyRule.ofCode doorRequest.custody = some .never ∧
      doorRequest.group ≤ 4 ∧ ((some 0 : Option Zone) = none → (some 0 : Option Zone) = none)) := by
  unfold GateFollows; decide +kernel

/-- SET_DOOR: a secured door; one that joins a zone in COUNTDOWN; a strike that becomes a bolt; one that stands open. -/
theorem test_met_FieldSettingsAreStored_door :
    (State.reset.doors[(0 : DoorNo)].state = .secured ∧ overridden State.reset 0 = false ∧
      motionsInProgress State.reset ≤ max 1 (min 3 doorRequest.slots)) ∧
    (State.reset.store.doors[(0 : DoorNo)].inside ≠ some 0 ∧
      ReleaseState.isEgress (zoned 0 .countdown).release[(0 : Zone)].state = true) ∧
    (State.reset.store.doors[(0 : DoorNo)].lock = .strike ∧ LockKind.ofCode 2 = some .motorBolt ∧
      boltThrown State.reset 0 = false) ∧
    (doored 0 .opened).doors[(0 : DoorNo)].state ≠ .secured ∧
    (8 ≤ 8 ∧ LockKind.ofCode 3 = none ∧ FailMode.ofCode 3 = none ∧ CustodyRule.ofCode 4 = none ∧ 4 < 5 ∧
      (1 = 1 ∧ (1 : Nat) ≠ 0)) := by decide +kernel

theorem test_met_UnitSettingsAreStored :
    (7 < 8 ∧ Direction.ofCode 2 = some .exit ∧ Direction.ofCode 3 = none ∧ PinPolicy.ofCode 3 = some .always ∧
      PinPolicy.ofCode 4 = none ∧ 8 ≤ 8) ∧
    (15 < 16 ∧ zoneSetting 4 = some (some 3) ∧ StaffKind.ofCode 3 = some .checkIn ∧ StaffKind.ofCode 4 = none ∧
      16 ≤ 16 ∧ zoneSetting 5 = none) ∧
    ((List.range' 100 16).length ≤ 16 ∧ (List.range' 100 16).Nodup ∧ ∀ x ∈ List.range' 100 16, 1 ≤ x ∧ x ≤ 115) ∧
    (OutputMode.ofCode 2 = some .live ∧ OutputMode.ofCode 3 = none ∧ YesNo.ofCode 2 = some false ∧
      YesNo.ofCode 3 = none) ∧
    ¬([0] : List Nat).all (fun x => decide (1 ≤ x ∧ x ≤ 115)) = true ∧
    ((1 : OutputNo) ≠ 0 ∧ Source.backlog ∉ State.reset.store.outputs[(1 : OutputNo)].sources) := by decide +kernel

theorem test_met_QueriesOnlyReply :
    (5 = 0 ∨ 4 < 5) ∧ 8 ≤ 8 ∧ 15 < 16 ∧ 16 ≤ 16 ∧ (15 : ScheduleNo) ≠ 0 ∧ (0x0F ≠ 0x07 ∧ 0x0F < 0x10) ∧
    (0x1B ≠ 0x07 ∧ 0x1A < 0x1B) ∧ 14 < 15 ∧ 31 < 32 := by decide

/-- The framer in each phase; a body not yet whole, whole with a bad CRC, and whole and good for address 1. -/
theorem test_met_LinkFramesRunCommands :
    let at_ := fun (f : Framer) => State.reset.modLink fun l => { l with framer := f }
    let frame : List Byte := [1, 2, 0x31, 1]
    let good := at_ (.body 1 2 (([0x31, 1] ++ (withCrc frame).drop 4).dropLast))
    (GateFollows State.reset ∧ State.reset.link.framer = .waiting) ∧
    (GateFollows (at_ (.header 1)) ∧ (at_ (.header 1)).link.framer = .header 1) ∧
    (GateFollows (at_ (.body 1 251 [])) ∧ (at_ (.body 1 251 [])).link.framer = .body 1 251 [] ∧
      ([] : List Byte).length + 1 ≠ (251 : Byte).toNat + 2) ∧
    (([2, 0] : List Byte).length + 1 = (1 : Byte).toNat + 2 ∧
      withCrc (1 :: 1 :: ([2, 0] : List Byte).take 1) ≠ 1 :: 1 :: [2, 0] ++ [0]) ∧
    (GateFollows good ∧ good.link.node ≠ 0 ∧ good.link.reply = none ∧ BitVec.setWidth 8 good.link.node = (1 : Byte) ∧
      (2 : Byte).toNat = ([1] : List Byte).length + 1 ∧
      good.link.framer =
        .body 1 2 ((([0x31, 1] : List Byte) ++ (withCrc frame).drop (([1] : List Byte).length + 3)).dropLast) ∧
      (withCrc frame).getLast?.isSome = true) := by
  unfold GateFollows; decide +kernel
theorem test_met_LinkFramesRunCommands_timeout :
    (State.reset.modLink fun l => { l with timing := true }).link.timing = true ∧ State.reset.link.timing = false ∧
    State.reset.link.reply = none ∧
    (State.reset.modLink fun l => { l with reply := some ⟨0x31, .ok, .empty⟩ }).link.reply
      = some ⟨0x31, .ok, .empty⟩ := by decide +kernel

/-! ## States that meet the invariants -/

theorem test_met_StepKeepsChannelsSound : ChannelsSound desk := by unfold ChannelsSound; decide +kernel
theorem test_met_StepKeepsEstimateBounded : EstimateBounded desk := by unfold EstimateBounded; decide +kernel
theorem test_met_StepKeepsGateFollows : GateFollows desk := by unfold GateFollows; decide +kernel
theorem test_met_StepKeepsMotionsWithinSlots : MotionsWithinSlots desk := by unfold MotionsWithinSlots; decide +kernel
theorem test_met_StepKeepsMarksSound : MarksSound desk := by unfold MarksSound; decide +kernel
theorem test_met_StepKeepsEgressOverrides : NoEntryUnderEgress desk ∧ EgressFollows desk := by
  unfold NoEntryUnderEgress EgressFollows; decide +kernel
theorem test_met_StepKeepsInServiceRising : InServiceRising desk := by unfold InServiceRising; decide +kernel
theorem test_met_StepKeepsPendingFollows : InServiceRising desk ∧ PendingFollows desk := by
  unfold InServiceRising PendingFollows; decide +kernel
theorem test_met_StepKeepsOutputsAndOneCheck : OutputsFollow desk ∧ OneCheck desk := by
  unfold OutputsFollow OneCheck; decide +kernel
theorem test_met_StepKeepsJournalContiguous : JournalContiguous desk := by unfold JournalContiguous; decide +kernel
theorem test_met_StepKeepsSettingsInRange : SettingsInRange desk ∧ ∀ c ∈ desk.pending, c.wellFormed = true := by
  unfold SettingsInRange; decide +kernel
theorem test_met_StepKeepsOccupancySound : OccupancySound desk := test_met_OpeningAppliesThePass_sound desk rfl

end Sys2Proof.Tests
end

section
/-! Detection as worked out from the channels (R14, R15): what each function of Machine/Flags.lean answers, in terms of the
channels of a zone and a loop, and the statement about them. -/

namespace Sys2Proof.Machine

/-- The channel is on the loop of the zone (R9). -/
def InLoop (s : State) (z : Zone) (l : Loop) (c : ChannelNo) : Prop :=
  s.store.detectors[c].zone = some z ∧ s.store.detectors[c].loop = l

/-- What confirms a zone (R15): both loops latched, or with single-knock on one latched and the other failed. -/
def Confirms (s : State) (z : Zone) : Prop :=
  (loopLatched s z .a = true ∧ loopLatched s z .b = true) ∨
    (s.store.zones[z].singleKnock = true ∧
      ((loopFailed s z .a = true ∧ loopLatched s z .b = true) ∨
        (loopFailed s z .b = true ∧ loopLatched s z .a = true)))

variable {s : State} {z : Zone} {l : Loop}

/-! ## Loops -/

@[simp] theorem mem_loopChannels {c : ChannelNo} : c ∈ loopChannels s z l ↔ InLoop s z l c := by
  simp [loopChannels, allChannels, InLoop]

theorem loopLatched_iff : loopLatched s z l = true ↔ ∃ c, InLoop s z l c ∧ s.channels[c].latch = true := by
  simp only [loopLatched, List.any_eq_true, mem_loopChannels]

theorem loopFailed_iff : loopFailed s z l = true ↔
    (∀ c, InLoop s z l c → s.channels[c].latch = false) ∧ ∀ c, InLoop s z l c → s.channels[c].fault ≠ .clear := by
  simp only [loopFailed, List.all_eq_true, mem_loopChannels, Bool.and_eq_true, Bool.not_eq_true', decide_eq_true_eq]
  constructor
  · exact fun h => ⟨fun c hc => (h c hc).1, fun c hc => (h c hc).2⟩
  · exact fun ⟨unlatched, faulty⟩ c hc => ⟨unlatched c hc, faulty c hc⟩

theorem loopFailed_of_no_channels (h : ∀ c, ¬ InLoop s z l c) : loopFailed s z l = true :=
  loopFailed_iff.2 ⟨fun c hc => absurd hc (h c), fun c hc => absurd hc (h c)⟩

theorem loopFailed_eq_false {c : ChannelNo} (hc : InLoop s z l c)
    (h : s.channels[c].fault = .clear ∨ s.channels[c].latch = true) : loopFailed s z l = false := by
  refine Bool.eq_false_iff.2 fun hf => ?_
  obtain ⟨unlatched, faulty⟩ := loopFailed_iff.1 hf
  rcases h with cleared | latched
  · exact faulty c hc cleared
  · exact Bool.false_ne_true ((unlatched c hc).symm.trans latched)

/-- The loops of a zone are settings: what happens to a channel leaves them as they are. -/
theorem inLoop_modChannel (c d : ChannelNo) (f : Channel → Channel) :
    InLoop (s.modChannel c f) z l d ↔ InLoop s z l d := Iff.rfl

theorem loopFailed_modChannel {c : ChannelNo} (hc : InLoop s z l c) (ch : Channel)
    (h : ch.fault = .clear ∨ ch.latch = true) : loopFailed (s.modChannel c fun _ => ch) z l = false := by
  refine loopFailed_eq_false ((inLoop_modChannel c c _).2 hc) ?_
  rwa [State.modChannel_channels, upd_same]

theorem not_loopLatched_of_no_channels (h : ∀ c, ¬ InLoop s z l c) : ¬ loopLatched s z l = true := fun hl =>
  let ⟨c, hc, _⟩ := loopLatched_iff.1 hl
  h c hc

/-! ## The table of R15 -/

/-- The table, with the two rows that confirm a zone taken together. -/
theorem derivedDetection_cases :
    (Confirms s z ∧ derivedDetection s z = .confirmed) ∨
    (¬ Confirms s z ∧ (loopLatched s z .a = true ∨ loopLatched s z .b = true) ∧ derivedDetection s z = .firstKnock) ∨
    (¬ Confirms s z ∧ ¬ loopLatched s z .a = true ∧ ¬ loopLatched s z .b = true ∧ derivedDetection s z = .quiet) := by
  unfold derivedDetection Confirms
  cases loopLatched s z .a <;> cases loopLatched s z .b
  case true.true => simp
  case false.false => simp
  case true.false => cases s.store.zones[z].singleKnock <;> cases loopFailed s z .b <;> simp
  case false.true => cases s.store.zones[z].singleKnock <;> cases loopFailed s z .a <;> simp

/-- Nothing confirms a zone without a latched channel. -/
theorem Confirms.latched : Confirms s z → loopLatched s z .a = true ∨ loopLatched s z .b = true
  | .inl ⟨ha, _⟩ => .inl ha
  | .inr ⟨_, .inl ⟨_, hb⟩⟩ => .inr hb
  | .inr ⟨_, .inr ⟨_, ha⟩⟩ => .inl ha

theorem derivedDetection_confirmed_iff : derivedDetection s z = .confirmed ↔ Confirms s z := by
  rcases derivedDetection_cases (s := s) (z := z) with ⟨hc, hd⟩ | ⟨hc, _, hd⟩ | ⟨hc, _, _, hd⟩ <;> simp [hc, hd]

theorem derivedDetection_quiet_iff :
    derivedDetection s z = .quiet ↔ ¬ loopLatched s z .a = true ∧ ¬ loopLatched s z .b = true := by
  rw [← not_or]
  rcases derivedDetection_cases (s := s) (z := z) with ⟨hc, hd⟩ | ⟨_, hl, hd⟩ | ⟨_, ha, hb, hd⟩
  · exact iff_of_false (by simp [hd]) (not_not_intro hc.latched)
  · exact iff_of_false (by simp [hd]) (not_not_intro hl)
  · exact iff_of_true hd (not_or.2 ⟨ha, hb⟩)

theorem derivedDetection_firstKnock_iff : derivedDetection s z = .firstKnock ↔
    (loopLatched s z .a = true ∨ loopLatched s z .b = true) ∧ ¬ Confirms s z := by
  rcases derivedDetection_cases (s := s) (z := z) with ⟨hc, hd⟩ | ⟨hc, hl, hd⟩ | ⟨_, ha, hb, hd⟩
  · simp [hc, hd]
  · simp [hc, hl, hd]
  · simp [ha, hb, hd]

theorem derivedDetection_of_no_channels (h : ∀ c : ChannelNo, s.store.detectors[c].zone ≠ some z) :
    derivedDetection s z = .quiet :=
  have noChannel (l : Loop) : ∀ c, ¬ InLoop s z l c := fun c hc => h c hc.1
  derivedDetection_quiet_iff.2
    ⟨not_loopLatched_of_no_channels (noChannel .a), not_loopLatched_of_no_channels (noChannel .b)⟩

/-- Loop B has no channel, so it is failed and never latched: single-knock alone decides (R15). -/
theorem derivedDetection_confirmed_iff_of_loop_a
    (h : ∀ c : ChannelNo, s.store.detectors[c].zone = some z → s.store.detectors[c].loop = .a) :
    derivedDetection s z = .confirmed ↔ s.store.zones[z].singleKnock = true ∧ loopLatched s z .a = true := by
  have noB (c : ChannelNo) : ¬ InLoop s z .b c := fun ⟨hz, hb⟩ => Loop.noConfusion ((h c hz).symm.trans hb)
  rw [derivedDetection_confirmed_iff, Confirms]
  simp [not_loopLatched_of_no_channels noB, loopFailed_of_no_channels noB]

theorem erased_singleKnock (z : Zone) : Store.erased.zones[z].singleKnock = false := by
  simp [Store.erased, ZoneSettings.default]

end Sys2Proof.Machine

namespace Sys2Proof.Proofs

open Sys2Proof.Machine

/-- Settles O11: the two functions are read off the channels by `loopFailed_iff` and `loopLatched_iff`, and the table of
R15 is `derivedDetection_cases`. -/
theorem detectionIsDerivedFromLatches : Obligations.DetectionIsDerivedFromLatches := by
  refine ⟨fun s z l => ⟨loopFailed_iff, loopFailed_of_no_channels, fun c hc hl => loopFailed_eq_false hc (.inr hl),
    fun c ch hc h => loopFailed_modChannel hc ch h⟩, fun s z => ?_⟩
  have latched_iff (l : Loop) : (∃ c : ChannelNo, s.store.detectors[c].zone = some z ∧
      s.store.detectors[c].loop = l ∧ s.channels[c].latch = true) ↔ loopLatched s z l = true := by
    simp only [loopLatched_iff, InLoop, and_assoc]
  simp only [latched_iff]
  exact ⟨derivedDetection_confirmed_iff, derivedDetection_firstKnock_iff, derivedDetection_quiet_iff,
    derivedDetection_of_no_channels, derivedDetection_confirmed_iff_of_loop_a, erased_singleKnock z⟩

end Sys2Proof.Proofs
end

section
/-! CLAIM, PEEK and COMPLETE (R153 to R156): which source `claimable` picks, what a delivery leaves alone, what taking a
source into service and out of it does, and the statement about them. -/

namespace Sys2Proof.Machine

/-! ## The source a CLAIM would pick -/

/-- Of the eligible sources of a list this one has the highest priority, and of equal ones the lowest number (R153). -/
def MostUrgent (s : State) (l : List Source) (src : Source) : Prop :=
  src ∈ l ∧ eligible s src = true ∧
    ∀ x ∈ l, eligible s x = true → priority s x < priority s src ∨ (priority s x = priority s src ∧ src ≤ x)

/-- `best` is what R153 picks of a list: its most urgent source, or none where none is eligible. -/
def Picked (s : State) (l : List Source) : Option Source → Prop
  | none => ∀ x ∈ l, eligible s x = false
  | some src => MostUrgent s l src

section
variable {s : State} {l : List Source}

theorem MostUrgent.unique {a b : Source} (ha : MostUrgent s l a) (hb : MostUrgent s l b) : a = b := by
  obtain ⟨memA, eligibleA, firstA⟩ := ha
  obtain ⟨memB, eligibleB, firstB⟩ := hb
  rcases firstA b memB eligibleB with hab | ⟨hab, le_ab⟩ <;> rcases firstB a memA eligibleA with hba | ⟨hba, le_ba⟩
  · omega
  · omega
  · omega
  · exact Fin.le_antisymm le_ab le_ba

/-- A source that is not eligible changes no pick. -/
theorem Picked.skip {best : Option Source} {c : Source} (h : Picked s l best) (hc : eligible s c = false) :
    Picked s (l ++ [c]) best := by
  cases best with
  | none => exact List.forall_mem_append.2 ⟨h, by simpa using hc⟩
  | some b =>
    obtain ⟨mem, elig, first⟩ := h
    exact ⟨by simp [mem], elig, List.forall_mem_append.2 ⟨first, by simp [hc]⟩⟩

/-- An eligible source is the pick where it is above the eligible ones before it. -/
theorem mostUrgent_append_new {c : Source} (hc : eligible s c = true)
    (above : ∀ x ∈ l, eligible s x = true → priority s x < priority s c) : MostUrgent s (l ++ [c]) c :=
  ⟨by simp, hc, List.forall_mem_append.2 ⟨fun x hx he => .inl (above x hx he), by simp⟩⟩

/-- A later source that is not above the pick changes nothing. -/
theorem MostUrgent.append_below {b c : Source} (h : MostUrgent s l b) (later : b < c)
    (below : priority s c ≤ priority s b) : MostUrgent s (l ++ [c]) b := by
  obtain ⟨mem, elig, first⟩ := h
  refine ⟨by simp [mem], elig, List.forall_mem_append.2 ⟨first, ?_⟩⟩
  simpa using fun _ => (Nat.lt_or_eq_of_le below).imp id fun same => ⟨same, Fin.le_of_lt later⟩

/-- The search of R153 along the sources in rising number, by one more source. -/
theorem picked_betterOf {best : Option Source} {c : Source} (h : Picked s l best) (rising : ∀ x ∈ l, x < c) :
    Picked s (l ++ [c]) (betterOf s best c) := by
  by_cases hc : eligible s c = true
  · cases best with
    | none =>
      simp only [betterOf, hc, ↓reduceIte]
      exact mostUrgent_append_new hc fun x hx he => absurd he (by simp [h x hx])
    | some b =>
      obtain ⟨mem, elig, first⟩ := id h
      by_cases above : priority s b < priority s c
      · simp only [betterOf, hc, above, decide_true, Bool.and_self, ↓reduceIte]
        exact mostUrgent_append_new hc fun x hx he => by have := first x hx he; omega
      · simp only [betterOf, above, decide_false, Bool.and_false, Bool.false_eq_true, ↓reduceIte]
        exact MostUrgent.append_below h (rising b mem) (Nat.not_lt.1 above)
  · rw [Bool.not_eq_true] at hc
    have same : betterOf s best c = best := by cases best <;> simp [betterOf, hc]
    exact same.symm ▸ h.skip hc

/-- The search, continued over `rest` from the pick of the sources before. -/
theorem foldl_betterOf_picked : ∀ (rest : List Source) {before : List Source} {best : Option Source},
    Picked s before best → (before ++ rest).Pairwise (· < ·) →
      Picked s (before ++ rest) (rest.foldl (betterOf s) best)
  | [], before, best, h, _ => (List.append_nil before).symm ▸ h
  | c :: rest, before, best, h, sorted => by
    have rising : ∀ x ∈ before, x < c := fun x hx =>
      (List.pairwise_append.1 sorted).2.2 x hx c (List.mem_cons_self ..)
    rw [List.append_cons] at sorted ⊢
    exact foldl_betterOf_picked rest (picked_betterOf h rising) sorted

end

/-- Of no source, nothing is picked. -/
theorem picked_nil (s : State) : Picked s [] none := fun _ mem => absurd mem List.not_mem_nil

theorem claimable_picked (s : State) : Picked s allSources (claimable s) :=
  foldl_betterOf_picked (before := []) allSources (picked_nil s) (List.pairwise_lt_finRange 115)

theorem claimable_of_mostUrgent {s : State} {src : Source} (h : MostUrgent s allSources src) :
    claimable s = some src := by
  have picked := claimable_picked s
  cases hb : claimable s with
  | none =>
    rw [hb] at picked
    exact absurd h.2.1 (by simp [picked src h.1])
  | some b =>
    rw [hb] at picked
    exact congrArg some (MostUrgent.unique picked h)

theorem claimable_of_none_eligible {s : State} (h : ∀ src, eligible s src = false) : claimable s = none := by
  have picked := claimable_picked s
  cases hb : claimable s with
  | none => rfl
  | some b =>
    rw [hb] at picked
    exact absurd picked.2.1 (by simp [h b])

/-! ## What a delivery leaves alone -/

/-- The in-service list, every recorded condition but the backlog's, and every pending flag but the backlog's are the
same. The backlog is the condition that a delivery can change, by the record of a test run that it ends (R175, R186); in
service even the backlog keeps its pending flag (R150). -/
structure KeepsFlags (s t : State) : Prop where
  inService : t.alarm.inService = s.alarm.inService
  pending : ∀ src, src ≠ Source.backlog ∨ src ∈ s.alarm.inService → t.alarm.pending[src] = s.alarm.pending[src]
  condition : ∀ src, src ≠ Source.backlog → t.alarm.condition[src] = s.alarm.condition[src]

theorem KeepsFlags.refl (s : State) : KeepsFlags s s := ⟨rfl, fun _ _ => rfl, fun _ _ => rfl⟩

theorem KeepsFlags.trans {s t u : State} (h1 : KeepsFlags s t) (h2 : KeepsFlags t u) : KeepsFlags s u where
  inService := h2.inService.trans h1.inService
  pending src h := (h2.pending src (by rwa [h1.inService])).trans (h1.pending src h)
  condition src h := (h2.condition src h).trans (h1.condition src h)

theorem modRun_keepsFlags (f : RunRecord → RunRecord) (s : State) : KeepsFlags s (s.modRun f) :=
  ⟨rfl, fun _ _ => rfl, fun _ _ => rfl⟩

theorem modOutput_keepsFlags (o : OutputNo) (f : Output → Output) (s : State) : KeepsFlags s (s.modOutput o f) :=
  ⟨rfl, fun _ _ => rfl, fun _ _ => rfl⟩

theorem suppress_keepsFlags (b : Bool) (s : State) :
    KeepsFlags s (s.modAlarm fun a => { a with suppressed := b }) :=
  ⟨rfl, fun _ _ => rfl, fun _ _ => rfl⟩

theorem pushRecord_keepsFlags (k : RecordKind) (a b : Nat) (d : Detail) (s : State) :
    KeepsFlags s (pushRecord k a b d s) := by
  unfold pushRecord
  split
  · exact ⟨rfl, fun _ _ => rfl, fun _ _ => rfl⟩
  · exact KeepsFlags.refl s

theorem backlogCondition_keepsFlags (b : Bool) (s : State) :
    KeepsFlags s (s.modAlarm fun a => { a with condition := upd a.condition Source.backlog fun _ => b }) :=
  ⟨rfl, fun _ _ => rfl, fun _ h => upd_other _ _ _ _ h.symm⟩

theorem backlogPending_keepsFlags {s : State} (b : Bool) (h : Source.backlog ∉ s.alarm.inService) :
    KeepsFlags s (s.modAlarm fun a => { a with pending := upd a.pending Source.backlog fun _ => b }) where
  inService := rfl
  pending _ hx := upd_other _ _ _ _ fun same => hx.elim (· same.symm) (same ▸ h)
  condition _ _ := rfl

theorem forEach_keepsFlags {α : Type} (f : α → State → State) (hf : ∀ a s, KeepsFlags s (f a s)) (l : List α)
    (s : State) : KeepsFlags s (forEach l f s) :=
  forEach_rel KeepsFlags.refl (fun _ _ _ => KeepsFlags.trans) f l s fun a _ => hf a

section
variable {react : CircuitNo → State → State}

theorem refreshOutputWith_keepsFlags (hr : ∀ c s, KeepsFlags s (react c s)) (o : OutputNo) (s : State) :
    KeepsFlags s (refreshOutputWith react o s) := by
  unfold refreshOutputWith
  split
  · exact KeepsFlags.refl s
  · split
    · exact (modOutput_keepsFlags o _ s).trans (hr _ _)
    · exact modOutput_keepsFlags o _ s

theorem deliverWith_keepsFlags (hr : ∀ c s, KeepsFlags s (react c s)) (src : Source) (s : State) :
    KeepsFlags s (deliverWith react src s) :=
  forEach_keepsFlags _ (refreshOutputWith_keepsFlags hr) _ s

theorem clearSilence_keepsFlags (src : Source) (s : State) : KeepsFlags s (clearSilence src s) :=
  forEach_keepsFlags _ (fun o s => modOutput_keepsFlags o _ s) _ s

/-- Setting a pending flag changes that flag, and delivers. -/
theorem setPendingWith_keepsFlags (hr : ∀ c s, KeepsFlags s (react c s)) (src : Source) (b : Bool) (s : State) :
    KeepsFlags (s.modAlarm fun a => { a with pending := upd a.pending src fun _ => b })
      (setPendingWith react src b s) := by
  unfold setPendingWith
  split
  · next same =>
    refine ⟨rfl, fun x _ => Eq.symm ((upd_get _ src x _).trans ?_), fun _ _ => rfl⟩
    split
    · next h => exact h ▸ same.symm
    · rfl
  · refine KeepsFlags.trans ?_ (deliverWith_keepsFlags hr src _)
    split <;> split
    · exact (clearSilence_keepsFlags src _).trans (suppress_keepsFlags false _)
    · exact suppress_keepsFlags false _
    · exact clearSilence_keepsFlags src _
    · exact KeepsFlags.refl _

/-- The backlog's pending flag follows its condition only out of service (R150). -/
theorem setConditionWith_backlog_keepsFlags (hr : ∀ c s, KeepsFlags s (react c s)) (b : Bool) (s : State) :
    KeepsFlags s (setConditionWith react Source.backlog b s) := by
  unfold setConditionWith
  split
  · exact KeepsFlags.refl s
  · have delivered := (backlogCondition_keepsFlags b s).trans (deliverWith_keepsFlags hr Source.backlog _)
    dsimp only
    split
    · exact delivered
    · next notServed =>
      rw [List.contains_iff_mem] at notServed
      exact (delivered.trans (backlogPending_keepsFlags _ notServed)).trans
        (setPendingWith_keepsFlags hr Source.backlog _ _)

end

theorem endRun_keepsFlags (s : State) : KeepsFlags s (endRun s) :=
  ((modRun_keepsFlags _ s).trans (pushRecord_keepsFlags _ _ _ _ _)).trans
    (setConditionWith_backlog_keepsFlags (fun _ s => KeepsFlags.refl s) _ _)

theorem passTurn_keepsFlags : ∀ (l : List CircuitNo) (s : State), KeepsFlags s (passTurn l s)
  | [], s => endRun_keepsFlags s
  | c :: l, s => by
    unfold passTurn
    split
    · split
      · exact (modRun_keepsFlags _ s).trans (passTurn_keepsFlags l _)
      · split
        · exact (modRun_keepsFlags _ s).trans (passTurn_keepsFlags l _)
        · exact modRun_keepsFlags _ s
    · exact passTurn_keepsFlags l s

theorem abandonCheck_keepsFlags (c : CircuitNo) (s : State) : KeepsFlags s (abandonCheck c s) := by
  unfold abandonCheck
  split
  · exact (modRun_keepsFlags _ s).trans (passTurn_keepsFlags _ _)
  · exact KeepsFlags.refl s

theorem deliver_keepsFlags (src : Source) (s : State) : KeepsFlags s (deliver src s) :=
  deliverWith_keepsFlags abandonCheck_keepsFlags src s

theorem setPending_keepsFlags (src : Source) (b : Bool) (s : State) :
    KeepsFlags (s.modAlarm fun a => { a with pending := upd a.pending src fun _ => b }) (setPending src b s) :=
  setPendingWith_keepsFlags abandonCheck_keepsFlags src b s

/-- A pending flag stands as it was set; only the backlog's may be set again, out of service. -/
theorem setPending_pending {src : Source} {s : State} (b : Bool)
    (h : src ≠ Source.backlog ∨ src ∈ s.alarm.inService) : (setPending src b s).alarm.pending[src] = b :=
  ((setPending_keepsFlags src b s).pending src h).trans (upd_same _ _ _)

theorem setPending_condition {src x : Source} (b : Bool) (s : State) (h : x ≠ Source.backlog) :
    (setPending src b s).alarm.condition[x] = s.alarm.condition[x] :=
  (setPending_keepsFlags src b s).condition x h

theorem liftSuppression_keepsFlags (before s : State) : KeepsFlags s (liftSuppression before s) := by
  unfold liftSuppression
  split
  · exact suppress_keepsFlags false s
  · exact KeepsFlags.refl s

/-! ## Into service and out of it (R153, R156) -/

theorem liftSuppression_affects (srcs : List Source) (before s : State) : Affects srcs s (liftSuppression before s) := by
  unfold liftSuppression
  split
  · exact suppress_affects srcs false s
  · exact Affects.refl srcs s

section
variable (src : Source) (s : State)

theorem takeIntoService_affects :
    Affects [src] (s.modAlarm fun a => { a with inService := a.inService ++ [src] }) (takeIntoService src s) :=
  ((deliver_affects src _).trans (setPending_affects src false _)).trans (suppress_affects [src] false _)

theorem takeIntoService_suppressed : (takeIntoService src s).alarm.suppressed = false := rfl

/-- The claimed source already stands in service when its flag is cleared, so not even the backlog is set again. -/
theorem takeIntoService_pending : (takeIntoService src s).alarm.pending[src] = false :=
  setPending_pending false (.inr (by simp [(deliver_keepsFlags src _).inService]))

/-- The state in which a source has left the in-service list and its pending flag is still to follow its condition. -/
def outOfService : State := deliver src (s.modAlarm fun a => { a with inService := a.inService.erase src })

theorem leaveService_affects :
    Affects [src] (s.modAlarm fun a => { a with inService := a.inService.erase src }) (leaveService src s) := by
  have out := deliver_affects src (s.modAlarm fun a => { a with inService := a.inService.erase src })
  refine Affects.trans ?_ (liftSuppression_affects [src] s _)
  split
  · exact out.trans (setPending_affects src true _)
  · exact out

variable {src}

theorem outOfService_condition (h : src ≠ Source.backlog) :
    (outOfService src s).alarm.condition[src] = s.alarm.condition[src] :=
  (deliver_keepsFlags src _).condition src h

theorem outOfService_pending (h : src ≠ Source.backlog) :
    (outOfService src s).alarm.pending[src] = s.alarm.pending[src] :=
  (deliver_keepsFlags src _).pending src (.inl h)

/-- What R156 does, read off the state before: the condition is still as it was. -/
theorem leaveService_eq (h : src ≠ Source.backlog) : leaveService src s = liftSuppression s
    (if Source.kind src = .level ∧ s.alarm.condition[src] = true then setPending src true (outOfService src s)
      else outOfService src s) := by
  rw [← outOfService_condition s h]
  rfl

theorem leaveService_condition (h : src ≠ Source.backlog) :
    (leaveService src s).alarm.condition[src] = s.alarm.condition[src] := by
  rw [leaveService_eq s h, (liftSuppression_keepsFlags s _).condition src h, ← outOfService_condition s h]
  split
  · exact setPending_condition true _ h
  · rfl

theorem leaveService_pending (h : src ≠ Source.backlog) : (leaveService src s).alarm.pending[src] =
    (s.alarm.pending[src] || (decide (Source.kind src = .level) && s.alarm.condition[src])) := by
  rw [leaveService_eq s h, (liftSuppression_keepsFlags s _).pending src (.inl h)]
  split
  · next follows => simp only [setPending_pending true (.inl h), follows, decide_true, Bool.and_self, Bool.or_true]
  · next stays =>
    have quiet : (decide (Source.kind src = .level) && s.alarm.condition[src]) = false := by
      rw [Bool.eq_false_iff, Ne, Bool.and_eq_true, decide_eq_true_eq]
      exact stays
    rw [quiet, Bool.or_false, outOfService_pending s h]

end

/-! ## The entry that COMPLETE names (R155) -/

section
variable {s : State} {source : Nat}

theorem completed_of_named {src : Source} (mem : src ∈ s.alarm.inService)
    (named : source = src.val + 1 ∨ (source = 0 ∧ s.alarm.inService.getLast? = some src)) :
    completed s source = some src := by
  rcases named with rfl | ⟨rfl, newest⟩
  · change s.alarm.inService.find? _ = some src
    cases found : s.alarm.inService.find? fun x => decide (Source.number x = src.val + 1) with
    | none => exact absurd (decide_eq_true rfl) (List.find?_eq_none.1 found src mem)
    | some x =>
      have named := List.find?_some found
      have number : x.val + 1 = src.val + 1 := of_decide_eq_true named
      rw [Fin.ext (Nat.succ.inj number)]
  · exact newest

theorem completed_of_not_named (newest : source = 0 → s.alarm.inService = [])
    (absent : ∀ src ∈ s.alarm.inService, source ≠ src.val + 1) : completed s source = none := by
  unfold completed
  split
  · next zero => rw [newest zero, List.getLast?_nil]
  · exact List.find?_eq_none.2 fun src mem named => absent src mem (of_decide_eq_true named).symm

end

/-! ## The three messages -/

section
variable {s : State}

theorem claim_of_claimable {src : Source} (h : claimable s = some src) :
    claim s = reply 0x58 .ok (.alarm (some (alarmReport s src))) (takeIntoService src s) := by
  unfold claim
  rw [h]

theorem claim_of_none (h : claimable s = none) :
    claim s = reply 0x58 .ok (.alarm none) (s.modAlarm fun a => { a with suppressed := false }) := by
  unfold claim
  rw [h]

theorem peek_of_claimable {best : Option Source} (h : claimable s = best) :
    peek s = reply 0x59 .ok (.alarm (best.map (alarmReport s))) (s.modAlarm fun a => { a with suppressed := false }) := by
  rw [← h, peek]

theorem complete_of_completed {source : Nat} {src : Source} (range : source ≤ 115) (h : completed s source = some src) :
    complete source s =
      reply 0x5A .ok (.completed src (notificationLevel (leaveService src s))) (leaveService src s) := by
  simp only [complete, Nat.not_lt.2 range, ↓reduceIte, h]

theorem complete_of_not_completed {source : Nat} (range : source ≤ 115) (h : completed s source = none) :
    complete source s = reply 0x5A .state .empty s := by
  simp only [complete, Nat.not_lt.2 range, ↓reduceIte, h, refuse]

theorem complete_of_out_of_range {source : Nat} (h : 115 < source) :
    complete source s = reply 0x5A .param .empty s :=
  if_pos h

/-- A reply changes the link alone. -/
theorem signals_reply {t : State} (h : Signals s t) (k : Nat) (st : Status) (b : ReplyBody) :
    Signals s ((reply k st b t).modLink fun _ => s.link) :=
  { h with link := rfl }

theorem notificationLevel_reply (k : Nat) (st : Status) (b : ReplyBody) :
    notificationLevel (reply k st b s) = notificationLevel s := rfl

theorem replied_reply {t : State} (h : t.link = s.link) (k : Nat) (st : Status) (b : ReplyBody) :
    Replied (BitVec.ofNat 8 k) st b s (reply k st b t) := by
  rw [Replied, reply_link, h]

/-- A change of the alarm controller's state leaves every other part as it is. -/
theorem modAlarm_signals (f : Alarm → Alarm) : Signals s (s.modAlarm f) := by constructor <;> rfl

/-- CLAIM with a source eligible (R153). -/
theorem claim_takes_mostUrgent {src : Source} (first : MostUrgent s allSources src) :
    ∃ t, exec .claim s = .next t ∧ t.alarm.inService = s.alarm.inService ++ [src] ∧
      t.alarm.pending[src] = false ∧ t.alarm.suppressed = false ∧ Signals s (t.modLink fun _ => s.link) ∧
      (∀ x : Source, x ≠ src → x ≠ Source.backlog → t.alarm.pending[x] = s.alarm.pending[x]) ∧
      Replied 0x58 .ok (.alarm (some (alarmReport s src))) s t := by
  have took := takeIntoService_affects src s
  have signals := (modAlarm_signals _).trans took.toSignals
  refine ⟨_, congrArg Host.Outcome.next (claim_of_claimable (claimable_of_mostUrgent first)), ?_⟩
  rw [reply_alarm]
  exact ⟨took.inService, takeIntoService_pending src s, takeIntoService_suppressed src s, signals_reply signals 0x58 _ _,
    fun x hx => took.pendingSame x (by simpa using hx), replied_reply signals.link 0x58 _ _⟩

/-- COMPLETE of an entry that stands in the in-service list (R155, R156). -/
theorem complete_removes_named {source : Nat} {src : Source} (mem : src ∈ s.alarm.inService)
    (named : source = src.val + 1 ∨ (source = 0 ∧ s.alarm.inService.getLast? = some src))
    (notBacklog : src ≠ Source.backlog) :
    ∃ t, exec (.complete source) s = .next t ∧ t.alarm.inService = s.alarm.inService.erase src ∧
      t.alarm.condition[src] = s.alarm.condition[src] ∧
      t.alarm.pending[src] =
        (s.alarm.pending[src] || (decide (Source.kind src = .level) && s.alarm.condition[src])) ∧
      Signals s (t.modLink fun _ => s.link) ∧
      (∀ x : Source, x ≠ src → x ≠ Source.backlog → t.alarm.pending[x] = s.alarm.pending[x]) ∧
      Replied 0x5A .ok (.completed src (notificationLevel t)) s t := by
  have left := leaveService_affects src s
  have signals := (modAlarm_signals _).trans left.toSignals
  have range : source ≤ 115 := by omega
  refine ⟨_, congrArg Host.Outcome.next (complete_of_completed range (completed_of_named mem named)), ?_⟩
  rw [notificationLevel_reply, reply_alarm]
  exact ⟨left.inService, leaveService_condition s notBacklog, leaveService_pending s notBacklog,
    signals_reply signals 0x5A _ _, fun x hx => left.pendingSame x (by simpa using hx),
    replied_reply signals.link 0x5A _ _⟩

end

end Sys2Proof.Machine

namespace Sys2Proof.Proofs

open Sys2Proof.Machine

/-- Settles O46: `claimable` picks the most urgent source by `claimable_picked`, and what CLAIM and COMPLETE do to the
flags is read off `KeepsFlags` and `Affects`. -/
theorem alarmsAreClaimedAndCompleted : Obligations.AlarmsAreClaimedAndCompleted := by
  constructor
  · refine fun s => ⟨fun src ⟨eligible, above⟩ => ?_, fun noneEligible => ?_⟩
    · have first : MostUrgent s allSources src := ⟨List.mem_finRange src, eligible, fun x _ => above x⟩
      have peeked := peek_of_claimable (claimable_of_mostUrgent first)
      exact ⟨claim_takes_mostUrgent first, congrArg Host.Outcome.next peeked⟩
    · have nothing := claimable_of_none_eligible noneEligible
      exact ⟨congrArg Host.Outcome.next (claim_of_none nothing), congrArg Host.Outcome.next (peek_of_claimable nothing)⟩
  · refine fun s source _ => ⟨fun src mem named notBacklog => complete_removes_named mem named notBacklog,
      fun range newest absent => ?_, fun range => ?_⟩
    · exact congrArg Host.Outcome.next (complete_of_not_completed range (completed_of_not_named newest absent))
    · exact congrArg Host.Outcome.next (complete_of_out_of_range range)

end Sys2Proof.Proofs
end

section
/-! JOURNAL_READ and JOURNAL_ACK (R184, R185): the sequences that the ring retains, which of them a read answers, what
moving the boundary does, and the statement about them. -/

namespace Sys2Proof.Machine

/-- The sequence of the first retained record; 1, the first to come, while the ring is empty (R182). -/
def firstRetained (s : State) : Nat := max 1 (s.journal.newest - 1023)

section
variable {s : State} {start count sequence : Nat}

/-! ## What the ring retains -/

/-- The two names of the oldest record differ on an empty ring alone, where nothing was overwritten. -/
theorem gap_eq (s : State) (start : Nat) :
    gap s start = decide (start < firstRetained s ∧ 1 < firstRetained s) := by
  unfold gap oldestRetained firstRetained
  split
  · next empty => simp [empty]
  · rfl

/-- The ring starts at the first retained sequence and ends at the newest. -/
theorem newest_sub_ring_length (h : JournalContiguous s) :
    s.journal.newest - s.journal.ring.length + 1 = firstRetained s := by
  obtain ⟨_, _, length, _⟩ := h
  unfold firstRetained
  omega

theorem ring_length_eq (h : JournalContiguous s) :
    s.journal.ring.length = s.journal.newest + 1 - firstRetained s := by
  obtain ⟨_, _, length, _⟩ := h
  unfold firstRetained
  omega

theorem ring_sequences (h : JournalContiguous s) :
    s.journal.ring.map Record.sequence =
      List.range' (firstRetained s) (s.journal.newest + 1 - firstRetained s) := by
  have first := newest_sub_ring_length h
  have length := ring_length_eq h
  obtain ⟨_, _, _, rising⟩ := h
  refine List.ext_getElem (by rw [List.length_map, List.length_range', length]) fun k hk _ => ?_
  rw [List.length_map] at hk
  have atK := rising k hk
  rw [List.getElem_map, List.getElem_range', atK]
  omega

/-! ## Consecutive numbers -/

/-- Of consecutive numbers, those from `start` on are consecutive. -/
theorem filter_le_range' (start : Nat) : ∀ n first : Nat,
    (List.range' first n).filter (fun q => decide (start ≤ q)) =
      List.range' (max start first) (first + n - max start first)
  | 0, first => by
    have none_left : first + 0 - max start first = 0 := by omega
    rw [none_left]
    rfl
  | n + 1, first => by
    rw [List.range'_succ]
    by_cases reached : start ≤ first
    · have more : first + (n + 1) - first = (first + 1 + n - (first + 1)) + 1 := by omega
      rw [List.filter_cons_of_pos (by simpa only [decide_eq_true_eq] using reached),
        filter_le_range' start n (first + 1), Nat.max_eq_right reached,
        Nat.max_eq_right (Nat.le_succ_of_le reached), more, List.range'_succ]
    · have before : first + 1 ≤ start := by omega
      have same : first + (n + 1) = first + 1 + n := by omega
      rw [List.filter_cons_of_neg (by simpa only [decide_eq_true_eq] using reached),
        filter_le_range' start n (first + 1), Nat.max_eq_left before, Nat.max_eq_left (Nat.le_of_succ_le before), same]

/-- The two cases of the library, `take_range'_of_length_le` and `_ge`, as one equation. -/
theorem take_range'_min (first n k : Nat) : (List.range' first n).take k = List.range' first (min k n) := by
  rcases Nat.le_total k n with fewer | all
  · rw [Nat.min_eq_left fewer, List.take_range'_of_length_ge fewer]
  · rw [Nat.min_eq_right all, List.take_range'_of_length_le all]

/-! ## JOURNAL_READ -/

/-- What a read of R184 answers: the retained records from the starting point, up to the count. -/
def recordsFrom (s : State) (start count : Nat) : List Record :=
  (s.journal.ring.filter fun r => decide (start ≤ r.sequence)).take count

theorem recordsFrom_retained : ∀ r ∈ recordsFrom s start count, r ∈ s.journal.ring := fun _ mem =>
  (List.mem_filter.1 (List.mem_of_mem_take mem)).1

theorem recordsFrom_sequences (h : JournalContiguous s) :
    (recordsFrom s start count).map Record.sequence =
      List.range' (max start (firstRetained s)) (min count (s.journal.newest + 1 - max start (firstRetained s))) := by
  have lastNext : firstRetained s + (s.journal.newest + 1 - firstRetained s) = s.journal.newest + 1 := by
    have := newest_sub_ring_length h
    omega
  have selected : (s.journal.ring.filter fun r => decide (start ≤ r.sequence)).map Record.sequence =
      List.range' (max start (firstRetained s)) (s.journal.newest + 1 - max start (firstRetained s)) :=
    calc (s.journal.ring.filter fun r => decide (start ≤ r.sequence)).map Record.sequence
      _ = (s.journal.ring.map Record.sequence).filter (fun q => decide (start ≤ q)) := by
        rw [List.filter_map]
        rfl
      _ = List.range' (max start (firstRetained s)) (s.journal.newest + 1 - max start (firstRetained s)) := by
          rw [ring_sequences h, filter_le_range', lastNext]
  rw [recordsFrom, List.map_take, selected, take_range'_min]

theorem journalRead_of_count (range : 1 ≤ count ∧ count ≤ 15) :
    journalRead start count s = reply 0x68 .ok (.journal (gap s start) (recordsFrom s start count)) s :=
  if_neg (by omega)

theorem journalRead_of_bad_count (range : count = 0 ∨ 15 < count) :
    journalRead start count s = reply 0x68 .param .empty s :=
  if_pos range

/-! ## JOURNAL_ACK -/

/-- The reply to a JOURNAL_ACK that leaves the journal as it stands in the state. -/
def acknowledged (s : State) : State :=
  reply 0x69 .ok (.journalPosition s.journal.newest (oldestRetained s) s.journal.boundary (backlog s)) s

theorem journalAck_of_above_newest (above : s.journal.newest < sequence) :
    journalAck sequence s = reply 0x69 .param .empty s :=
  if_pos above

theorem journalAck_of_not_above_newest (known : sequence ≤ s.journal.newest) :
    journalAck sequence s = acknowledged (acknowledge sequence s) :=
  if_neg (by omega)

theorem acknowledge_of_not_above (h : sequence ≤ s.journal.boundary) : acknowledge sequence s = s :=
  if_neg (by omega)

theorem acknowledge_of_above (h : s.journal.boundary < sequence) :
    acknowledge sequence s =
      setCondition Source.backlog (decide (896 ≤ s.journal.newest - sequence))
        { s with journal := { s.journal with boundary := sequence } } :=
  if_pos h

end

end Sys2Proof.Machine

namespace Sys2Proof.Proofs

open Sys2Proof.Machine

/-- Settles O54: the sequences a read answers are a piece of those that the ring retains (`ring_sequences`), and an
acknowledgement answers for the state that `acknowledge` leaves. -/
theorem journalIsReadAndAcknowledged : Obligations.JournalIsReadAndAcknowledged := by
  refine ⟨fun s start count contiguous => ⟨fun range => ?_, fun range => ?_⟩, fun s sequence =>
    ⟨fun above => ?_, fun known below => ?_, fun known above => ?_⟩⟩
  · refine ⟨recordsFrom s start count, congrArg Host.Outcome.next ?_, recordsFrom_sequences contiguous,
      recordsFrom_retained⟩
    rw [journalRead_of_count range, gap_eq]
    rfl
  · exact congrArg Host.Outcome.next (journalRead_of_bad_count range)
  · exact congrArg Host.Outcome.next (journalAck_of_above_newest above)
  · refine congrArg Host.Outcome.next ((journalAck_of_not_above_newest known).trans ?_)
    rw [acknowledge_of_not_above below]
    rfl
  · refine congrArg Host.Outcome.next ((journalAck_of_not_above_newest known).trans ?_)
    rw [acknowledge_of_above above]
    rfl

end Sys2Proof.Proofs
end

section
/-! What every command keeps, argued once. A property of states is `Closed` when the few kinds of change that the commands
are made of keep it; each kind says under what guard it comes. The lemmas of this part walk through the model's operations
once, for every property; an invariant is then a list of its own answers to the kinds of change. -/

namespace Sys2Proof.Machine

/-! ## The kinds of change -/

/-- Records and sources keep the property. -/
structure SignalClosed (P : State → Prop) : Prop where
  write : ∀ {s : State} (k : RecordKind) (a b : Nat) (d : Detail), P s → P (write k a b d s)
  setCondition : ∀ {s : State} (src : Source) (b : Bool), P s → P (setCondition src b s)
  edgeEvent : ∀ {s : State} (src : Source), Source.kind src = .edge → P s → P (edgeEvent src s)

/-- A change of one door's entry as the door controller makes it, its egress flag aside: a pass is taken only where the
egress override allows it (R25, R71), a secured door has lost its mark (R69), and an ORDINARY mark is set only while the
interlock is clear (R72). -/
structure DoorMove (s : State) (n : DoorNo) (d : Door) : Prop where
  egress : d.egress = s.doors[n].egress
  passes : ∀ p ∈ d.passes, p ∈ s.doors[n].passes ∨ (d.egress = true → p.dir = .exit)
  secured : d.state = .secured → d.mark = none ∨ (s.doors[n].state = .secured ∧ d.mark = s.doors[n].mark)
  mark : d.mark = some .ordinary → s.doors[n].mark = some .ordinary ∨ interlockClear s n = true

/-- The changes of the door controller keep the property (chapter 4). -/
structure DoorClosed (P : State → Prop) : Prop extends SignalClosed P where
  door : ∀ {s : State} {n : DoorNo} {d : Door}, DoorMove s n d → P s → P (s.modDoor n fun _ => d)
  queue : ∀ {s : State} (n : DoorNo) (r : Option BoltRequest), P s → P (s.setQueue n r)
  stop : ∀ {s : State} (n : DoorNo), P s → P (s.setMotion n none)
  start : ∀ {s : State} (n : DoorNo) (m : InMotion),
    motionsInProgress s < s.store.slots → P s → P (s.setMotion n (some m))

/-! ## One door -/

theorem forEach_closed {α : Type} {P : State → Prop} {f : α → State → State} (hf : ∀ a s, P s → P (f a s))
    (l : List α) {s : State} (h : P s) : P (forEach l f s) :=
  forEach_keeps f l s (fun a _ s => hf a s) h

section
variable {s : State} {n : DoorNo}

@[simp] theorem overridden_modDoor (f : Door → Door) :
    overridden (s.modDoor n f) n = ((f s.doors[n]).egress || (f s.doors[n]).free) := by
  simp only [overridden, State.modDoor_doors, upd_same]

/-- What a request or an override leaves of a door's mark (R69). -/
def markedAs (s : State) (n : DoorNo) : Option Mark :=
  some (s.doors[n].mark.getD (if overridden s n then .override else .ordinary))

theorem setMark_eq : setMark n s = s.modDoor n fun d => { d with mark := markedAs s n } := by
  simp only [setMark, State.modDoor, upd, markedAs]

theorem modDoor_modDoor (f g : Door → Door) : (s.modDoor n f).modDoor n g = s.modDoor n fun d => g (f d) := by
  simp only [State.modDoor, upd_upd]

/-- A release under way: the door may be marked ORDINARY, or it will not be (R69, R72). -/
def MayMark (s : State) (n : DoorNo) : Prop :=
  overridden s n = true ∨ interlockClear s n = true ∨ s.doors[n].mark.isSome = true

theorem markedAs_ordinary (may : MayMark s n) (h : markedAs s n = some .ordinary) :
    s.doors[n].mark = some .ordinary ∨ interlockClear s n = true := by
  cases hm : s.doors[n].mark with
  | some m =>
    rw [markedAs, hm] at h
    exact .inl h
  | none =>
    rcases may with under | clear | marked
    · rw [markedAs, hm, under] at h
      cases h
    · exact .inr clear
    · rw [hm] at marked
      cases marked

/-- The interlock of a door is a matter of the other doors. -/
@[simp] theorem interlockClear_modDoor (f : Door → Door) : interlockClear (s.modDoor n f) n = interlockClear s n := by
  unfold interlockClear
  refine congrArg _ (congrArg allDoors.all (funext fun m => ?_))
  by_cases same : m = n
  · simp only [same, true_or, decide_true, Bool.true_or]
  · simp only [overridden, State.modDoor_doors, State.modDoor_store, upd_other _ _ _ _ (Ne.symm same)]
    rfl

end

/-! ## The door controller -/

section
variable {P : State → Prop} {s : State} {n : DoorNo}

/-- A change of flags, timers or passes that takes no pass, and leaves state and mark, or takes the mark. -/
theorem DoorMove.of_same {d : Door} (egress : d.egress = s.doors[n].egress)
    (passes : ∀ p ∈ d.passes, p ∈ s.doors[n].passes) (state : d.state = s.doors[n].state ∨ d.state ≠ .secured)
    (mark : d.mark = s.doors[n].mark) : DoorMove s n d where
  egress := egress
  passes p hp := .inl (passes p hp)
  secured h := .inr ⟨state.elim (fun same => same ▸ h) (absurd h), mark⟩
  mark h := .inl (mark ▸ h)

theorem kind_forced (n : DoorNo) : Source.kind (Source.forced n) = .edge := by revert n; decide

namespace SignalClosed

theorem setHeldCondition (hP : SignalClosed P) (b : Bool) (h : P s) : P (setHeldCondition n b s) :=
  hP.setCondition _ b h

theorem setBoltCondition (hP : SignalClosed P) (b : Bool) (h : P s) : P (setBoltCondition n b s) :=
  hP.setCondition _ b h

theorem writeConfig (hP : SignalClosed P) (k : Nat) (d : Detail) (h : P s) : P (writeConfig k d s) :=
  hP.write _ _ _ _ h

end SignalClosed

namespace DoorClosed

/-- A change of a door's entry that leaves its egress flag, its passes, its state and its mark: its timers, and FREE. -/
theorem timers (hP : DoorClosed P) {f : Door → Door}
    (same : ∀ d : Door, (f d).egress = d.egress ∧ (f d).passes = d.passes ∧ (f d).state = d.state ∧ (f d).mark = d.mark)
    (h : P s) : P (s.modDoor n f) := by
  obtain ⟨egress, passes, state, mark⟩ := same s.doors[n]
  exact hP.door (.of_same egress (fun p hp => passes ▸ hp) (.inl state) mark) h

/-- The door goes to a state other than SECURED, with any timers. -/
theorem unsecured (hP : DoorClosed P) {f : Door → Door}
    (same : ∀ d : Door, (f d).egress = d.egress ∧ (f d).passes = d.passes ∧ (f d).mark = d.mark ∧ (f d).state ≠ .secured)
    (h : P s) : P (s.modDoor n f) := by
  obtain ⟨egress, passes, mark, state⟩ := same s.doors[n]
  exact hP.door (.of_same egress (fun p hp => passes ▸ hp) (.inr state) mark) h

/-- Passes leave the door's list. -/
theorem fewerPasses (hP : DoorClosed P) {f : Door → Door}
    (same : ∀ d : Door, (f d).egress = d.egress ∧ (∀ p ∈ (f d).passes, p ∈ d.passes) ∧ (f d).state = d.state ∧
      (f d).mark = d.mark) (h : P s) : P (s.modDoor n f) := by
  obtain ⟨egress, passes, state, mark⟩ := same s.doors[n]
  exact hP.door (.of_same egress passes (.inl state) mark) h

theorem setDoorState (hP : DoorClosed P) {st : DoorState} (hst : st ≠ .secured) (h : P s) :
    P (setDoorState n st s) :=
  hP.unsecured (fun _ => ⟨rfl, rfl, rfl, hst⟩) h

theorem secureDoor (hP : DoorClosed P) (h : P s) : P (secureDoor n s) :=
  hP.door ⟨rfl, fun _ hp => .inl hp, fun _ => .inl rfl, fun hm => by cases hm⟩ h

theorem setMark (hP : DoorClosed P) (may : MayMark s n) (state : s.doors[n].state ≠ .secured) (h : P s) :
    P (setMark n s) := by
  rw [setMark_eq]
  exact hP.door ⟨rfl, fun _ hp => .inl hp, fun hs => absurd hs state, markedAs_ordinary may⟩ h

theorem startWindow (hP : DoorClosed P) (h : P s) : P (startWindow n s) := by
  unfold Machine.startWindow
  split
  · exact h
  · exact hP.timers (fun _ => ⟨rfl, rfl, rfl, rfl⟩) h

theorem startHeld (hP : DoorClosed P) (h : P s) : P (startHeld n s) := by
  unfold Machine.startHeld
  split
  · exact h
  · exact hP.timers (fun _ => ⟨rfl, rfl, rfl, rfl⟩) h

theorem enterReleased (hP : DoorClosed P) (h : P s) : P (enterReleased n s) :=
  hP.startWindow (hP.setDoorState (by simp) h)

theorem enterOpen (hP : DoorClosed P) (h : P s) : P (enterOpen n s) :=
  hP.startHeld (hP.unsecured (fun _ => ⟨rfl, rfl, rfl, by simp⟩) h)

/-! ### Passes -/

theorem dropPasses (hP : DoorClosed P) (k : RecordKind) (which : Pass → Bool) (h : P s) :
    P (dropPasses k which n s) :=
  forEach_closed (fun _ _ h => hP.write _ _ _ _ h) _
    (hP.fewerPasses (fun _ => ⟨rfl, fun _ hp => (List.mem_filter.1 hp).1, rfl, rfl⟩) h)

theorem dropUnused (hP : DoorClosed P) (h : P s) : P (dropUnused n s) := hP.dropPasses _ _ h

/-! ### The bolt drive -/

theorem join (hP : DoorClosed P) (m : Motion) (c : BoltClass) (h : P s) : P (join n m c s) := by
  unfold Machine.join
  split
  · split <;> exact hP.queue _ _ h
  · split
    · exact h
    · exact hP.queue _ _ h
  · exact hP.queue _ _ h

theorem joinThrow (hP : DoorClosed P) (h : P s) : P (joinThrow n s) := hP.join _ _ h

theorem joinWithdraw (hP : DoorClosed P) (c : BoltClass) (may : MayMark s n) (state : s.doors[n].state ≠ .secured)
    (h : P s) : P (joinWithdraw n c s) :=
  hP.join _ _ (hP.setMark may state h)

end DoorClosed
end

/-! ### Facts of a door's own state along an operation -/

section
variable {s : State} {n : DoorNo}

theorem modDoor_state (f : Door → Door) : (s.modDoor n f).doors[n].state = (f s.doors[n]).state := by
  rw [State.modDoor_doors, upd_same]

theorem setDoorState_state (st : DoorState) : (setDoorState n st s).doors[n].state = st := modDoor_state _

theorem MayMark.modDoor {f : Door → Door}
    (same : ∀ d : Door, (f d).egress = d.egress ∧ (f d).free = d.free ∧ (f d).mark = d.mark) (may : MayMark s n) :
    MayMark (s.modDoor n f) n := by
  obtain ⟨egress, free, mark⟩ := same s.doors[n]
  rwa [MayMark, overridden_modDoor, interlockClear_modDoor, State.modDoor_doors, upd_same, egress, free, mark]

theorem MayMark.setDoorState (st : DoorState) (may : MayMark s n) : MayMark (setDoorState n st s) n :=
  may.modDoor fun _ => ⟨rfl, rfl, rfl⟩

theorem enterOpen_eq : enterOpen n s = s.modDoor n fun d => { d with
    state := .opened
    window := none
    heldTimer := if overridden s n then d.heldTimer else some s.store.doors[n].heldTime } := by
  unfold enterOpen startHeld
  rw [overridden_modDoor]
  change (if overridden s n = true then _ else _) = _
  split
  · rfl
  · rw [modDoor_modDoor]
    rfl

end

section
variable {P : State → Prop} {s : State} {n : DoorNo}

/-- Two properties at once. -/
def Both (P Q : State → Prop) (t : State) : Prop := P t ∧ Q t

/-- Two properties are kept together. -/
theorem SignalClosed.and {Q : State → Prop} (hP : SignalClosed P) (hQ : SignalClosed Q) : SignalClosed (Both P Q) where
  write k a b d h := ⟨hP.write k a b d h.1, hQ.write k a b d h.2⟩
  setCondition src b h := ⟨hP.setCondition src b h.1, hQ.setCondition src b h.2⟩
  edgeEvent src kind h := ⟨hP.edgeEvent src kind h.1, hQ.edgeEvent src kind h.2⟩

theorem DoorClosed.and {Q : State → Prop} (hP : DoorClosed P) (hQ : DoorClosed Q) : DoorClosed (Both P Q) where
  toSignalClosed := hP.toSignalClosed.and hQ.toSignalClosed
  door move h := ⟨hP.door move h.1, hQ.door move h.2⟩
  queue n r h := ⟨hP.queue n r h.1, hQ.queue n r h.2⟩
  stop n h := ⟨hP.stop n h.1, hQ.stop n h.2⟩
  start n m room h := ⟨hP.start n m room h.1, hQ.start n m room h.2⟩

/-- What depends on no signal is kept by the signals. -/
theorem SignalClosed.of_signals (h : ∀ s t, Signals s t → P s → P t) : SignalClosed P where
  write k a b d := h _ _ (write_signals k a b d _)
  setCondition src b := h _ _ (setCondition_signals src b _)
  edgeEvent src _ := h _ _ (edgeEvent_signals src _)

/-- The egress flag of a door. -/
def EgressFlag (m : DoorNo) (b : Bool) (t : State) : Prop := t.doors[m].egress = b

/-- The door controller leaves a door's egress flag to the override's own start and end. -/
theorem egressFlag_closed (m : DoorNo) (b : Bool) : DoorClosed (EgressFlag m b) where
  toSignalClosed := .of_signals fun s t same h => by rwa [EgressFlag, same.doors]
  door {s n d} move h := by
    rw [EgressFlag, State.modDoor_doors, upd_get]
    split
    · next same => rw [move.egress, same, h]
    · exact h
  queue _ _ h := h
  stop _ h := h
  start _ _ _ h := h

namespace DoorClosed

theorem addPass (hP : DoorClosed P) {p : Pass} (allowed : s.doors[n].egress = true → p.dir = .exit) (h : P s) :
    P (addPass n p s) := by
  have drop {Q : State → Prop} (hQ : DoorClosed Q) {t : State} (ht : Q t) :
      Q (forEach allDoors (Machine.dropPasses .passDropped fun q => decide (q.cred = p.cred)) t) :=
    forEach_closed (fun _ _ h => hQ.dropPasses _ _ h) _ ht
  have flag := drop (egressFlag_closed n s.doors[n].egress) (t := s) rfl
  have dropped := drop hP h
  unfold Machine.addPass
  generalize forEach allDoors _ s = t at flag dropped ⊢
  refine hP.door ⟨rfl, fun q hq => ?_, fun hs => .inr ⟨hs, rfl⟩, .inl⟩ dropped
  rcases List.mem_append.1 hq with old | new
  · exact .inl old
  · rw [List.mem_singleton.1 new]
    exact .inr fun under => allowed (flag ▸ under)

theorem settleDoor (hP : DoorClosed P) (h : P s) : P (settleDoor n s) := by
  have h0 : P (s.modDoor n fun d => { d with window := none, heldTimer := none }) :=
    hP.timers (fun _ => ⟨rfl, rfl, rfl, rfl⟩) h
  unfold Machine.settleDoor
  dsimp only
  generalize s.modDoor n (fun d => { d with window := none, heldTimer := none }) = s0 at h0 ⊢
  split
  · split
    · next under =>
      refine hP.joinWithdraw _ (.inl ?_) (by rw [enterOpen_eq, modDoor_state]; simp) (hP.enterOpen h0)
      rw [enterOpen_eq, overridden_modDoor]
      exact (Bool.and_eq_true_iff.1 under).1
    · exact hP.enterOpen h0
  · split
    · next under =>
      have may (st : DoorState) : MayMark (Machine.setDoorState n st s0) n := MayMark.setDoorState st (.inl under)
      split
      · exact hP.joinWithdraw _ (may _) (by rw [setDoorState_state]; simp) (hP.setDoorState (by simp) h0)
      · exact hP.setMark (may _) (by rw [setDoorState_state]; simp) (hP.setDoorState (by simp) h0)
    · split
      · exact hP.joinThrow (hP.setDoorState (by simp) h0)
      · exact hP.secureDoor h0

theorem motionEffect (hP : DoorClosed P) (m : Motion) (h : P s) : P (motionEffect n m s) := by
  unfold Machine.motionEffect
  split
  · exact hP.enterReleased h
  · split
    · exact h
    · exact hP.secureDoor h
  · exact hP.write _ _ _ _ (hP.setBoltCondition _ (hP.settleDoor h))
  · exact h

theorem completeMotion (hP : DoorClosed P) (m : Motion) (h : P s) : P (completeMotion n m s) :=
  hP.motionEffect _ (hP.stop _ h)

theorem startMotion (hP : DoorClosed P) (room : motionsInProgress s < s.store.slots) (h : P s) :
    P (startMotion n s) := by
  unfold Machine.startMotion
  split
  · exact h
  · next r _ =>
    have started (m : InMotion) : P ((s.setQueue n none).setMotion n (some m)) := hP.start _ _ room (hP.queue _ _ h)
    dsimp only
    split
    · exact hP.completeMotion _ (started _)
    · exact started _

theorem serveLoop (hP : DoorClosed P) : ∀ (fuel : Nat) {s : State}, P s → P (serveLoop fuel s)
  | 0, _, h => h
  | fuel + 1, s, h => by
    unfold Machine.serveLoop
    split
    · next room =>
      split
      · exact hP.serveLoop fuel (hP.startMotion room h)
      · exact h
    · exact h

theorem serve (hP : DoorClosed P) (h : P s) : P (serve s) := hP.serveLoop 16 h

theorem relock (hP : DoorClosed P) (h : P s) : P (relock n s) := by
  unfold Machine.relock
  split
  · exact hP.secureDoor h
  · split
    · exact hP.secureDoor h
    · exact hP.joinThrow h

/-! ### Requests and overrides -/

/-- A WITHDRAW with the mark, the door on its way out of SECURED. -/
theorem letWithdraw (hP : DoorClosed P) (c : BoltClass) (may : MayMark s n) (h : P s) :
    P (Machine.joinWithdraw n c (Machine.setDoorState n .releasing s)) :=
  hP.joinWithdraw _ (may.setDoorState _) (by rw [setDoorState_state]; simp) (hP.setDoorState (by simp) h)

theorem releaseLock (hP : DoorClosed P) (c : BoltClass) (may : MayMark s n) (h : P s) : P (releaseLock n c s) := by
  unfold Machine.releaseLock
  split
  · split
    · exact hP.letWithdraw _ may h
    · unfold Machine.enterReleased Machine.setDoorState
      rw [setMark_eq, modDoor_modDoor]
      exact hP.startWindow (hP.door ⟨rfl, fun _ hp => .inl hp, fun hs => absurd hs (by simp), markedAs_ordinary may⟩ h)
  · exact hP.join _ _ h
  · exact hP.startWindow h
  · exact hP.letWithdraw _ may h
  · exact h

theorem releaseRequest (hP : DoorClosed P) (c : BoltClass) {passes : List Pass} (may : MayMark s n)
    (allowed : s.doors[n].egress = true → ∀ p ∈ passes, p.dir = .exit) (h : P s) : P (release n c passes s) := by
  have hQ := hP.and (egressFlag_closed n s.doors[n].egress)
  have locked : Both P (EgressFlag n s.doors[n].egress) (Machine.releaseLock n c s) := hQ.releaseLock c may ⟨h, rfl⟩
  refine hP.serve (forEach_keeps _ _ _ (fun p hp t ht => ?_) locked).1
  exact hQ.addPass (fun under => allowed (ht.2 ▸ under) p hp) ht

theorem turnRetry (hP : DoorClosed P) (m : Motion) (c : BoltClass) (h : P s) : P (turnRetry n m c s) := by
  unfold Machine.turnRetry
  split
  · exact hP.join _ _ h
  · exact h

/-- The mark of an override (R79) at a door that leaves SECURED with it. -/
theorem markOverride (hP : DoorClosed P) {f : Door → Door}
    (same : ∀ d : Door, (f d).egress = d.egress ∧ (f d).passes = d.passes ∧ (f d).mark = some .override)
    (state : (f s.doors[n]).state ≠ .secured) (h : P s) : P (s.modDoor n f) := by
  obtain ⟨egress, passes, mark⟩ := same s.doors[n]
  exact hP.door ⟨egress, fun _ hp => .inl (passes ▸ hp), fun hs => absurd hs state,
    fun hm => by rw [mark] at hm; cases hm⟩ h

theorem overrideStart (hP : DoorClosed P) (h : P s) : P (overrideStart n s) := by
  unfold Machine.overrideStart
  refine hP.serve ?_
  have state : (s.modDoor n fun d => { d with mark := some .override }).doors[n].state = s.doors[n].state :=
    modDoor_state _
  have may : MayMark (s.modDoor n fun d => { d with mark := some .override }) n := by
    rw [MayMark, State.modDoor_doors, upd_same]
    exact .inr (.inr rfl)
  -- the mark and the state that the door goes to, as one change
  have moved (st : DoorState) (hst : st ≠ .secured) :
      P (Machine.setDoorState n st (s.modDoor n fun d => { d with mark := some .override })) := by
    unfold Machine.setDoorState
    rw [modDoor_modDoor]
    exact hP.markOverride (fun _ => ⟨rfl, rfl, rfl⟩) hst h
  have withdrawn (st : DoorState) (hst : st ≠ .secured) := hP.joinWithdraw .egress (may.setDoorState st)
    (by rwa [setDoorState_state]) (moved st hst)
  have marked (hs : s.doors[n].state ≠ .secured) : P (s.modDoor n fun d => { d with mark := some .override }) :=
    hP.markOverride (fun _ => ⟨rfl, rfl, rfl⟩) hs h
  generalize s.modDoor n (fun d => { d with mark := some .override }) = s0 at state moved withdrawn marked ⊢
  rw [state]
  cases hs : s.doors[n].state <;> dsimp only
  case secured =>
    split
    · exact withdrawn _ (by simp)
    · exact moved _ (by simp)
  case releasing => exact hP.join _ _ (marked (by rw [hs]; nofun))
  case released => exact hP.timers (fun _ => ⟨rfl, rfl, rfl, rfl⟩) (marked (by rw [hs]; nofun))
  case opened => exact hP.timers (fun _ => ⟨rfl, rfl, rfl, rfl⟩) (marked (by rw [hs]; nofun))
  case held => exact hP.setHeldCondition _ (moved _ (by simp))
  case forced =>
    split
    · exact withdrawn _ (by simp)
    · exact moved _ (by simp)
  case securing => exact withdrawn _ (by simp)
  case boltFault => exact hP.turnRetry _ _ (marked (by rw [hs]; nofun))
  case starting => exact marked (by rw [hs]; nofun)

theorem overrideEnd (hP : DoorClosed P) (h : P s) : P (overrideEnd n s) := by
  unfold Machine.overrideEnd
  refine hP.serve ?_
  have secures : P (Machine.relock n (Machine.dropUnused n (Machine.setDoorState n .securing s))) :=
    hP.relock (hP.dropUnused (hP.setDoorState (by simp) h))
  split
  · exact secures
  · exact secures
  · exact hP.startHeld h
  · exact hP.turnRetry _ _ h
  · exact h

/-! ### Contact, bolt sense, timers, messages -/

theorem removeThrow (hP : DoorClosed P) (h : P s) : P (removeThrow n s) := by
  unfold Machine.removeThrow
  split
  · exact hP.queue _ _ h
  · exact h

theorem openDoor (hP : DoorClosed P) (h : P s) : P (openDoor n s) := by
  have emptied : P (s.modDoor n fun d => { d with passes := [] }) :=
    hP.fewerPasses (fun _ => ⟨rfl, fun _ hp => absurd hp List.not_mem_nil, rfl, rfl⟩) h
  unfold Machine.openDoor
  split
  · exact hP.enterOpen emptied
  · exact hP.enterOpen emptied
  · exact hP.write _ _ _ _ (hP.edgeEvent _ (kind_forced n) (hP.setDoorState (by simp) h))
  · exact hP.enterOpen (hP.removeThrow h)
  · exact h

theorem closeDoor (hP : DoorClosed P) (h : P s) : P (closeDoor n s) := by
  unfold Machine.closeDoor
  split
  · have h1 := hP.setHeldCondition (n := n) false
      (hP.timers (n := n) (f := fun d => { d with heldTimer := none }) (fun _ => ⟨rfl, rfl, rfl, rfl⟩) h)
    dsimp only
    split
    · exact hP.setDoorState (by simp) h1
    · exact hP.serve (hP.relock (hP.setDoorState (by simp) h1))
  · exact h

theorem boltChange (hP : DoorClosed P) (h : P s) : P (boltChange n s) := by
  unfold Machine.boltChange
  split
  · split
    · exact hP.serve (hP.completeMotion _ h)
    · exact h
  · split
    · exact hP.serve (hP.joinThrow (hP.setDoorState (by simp) h))
    · exact h

theorem expireWindow (hP : DoorClosed P) (h : P s) : P (expireWindow n s) := by
  unfold Machine.expireWindow
  split
  · have h1 := hP.dropUnused (n := n) (hP.unsecured (n := n)
      (f := fun d => { d with state := .securing, window := none }) (fun _ => ⟨rfl, rfl, rfl, by simp⟩) h)
    dsimp only
    split
    · exact hP.serve (hP.joinThrow h1)
    · exact hP.secureDoor h1
  · exact h

theorem expireHeld (hP : DoorClosed P) (h : P s) : P (expireHeld n s) := by
  unfold Machine.expireHeld
  split
  · exact hP.write _ _ _ _ (hP.setHeldCondition _ (hP.unsecured (fun _ => ⟨rfl, rfl, rfl, by simp⟩) h))
  · exact h

theorem expireBolt (hP : DoorClosed P) (m : Motion) (h : P s) : P (expireBolt n m s) := by
  unfold Machine.expireBolt
  split
  · refine hP.serve (hP.write _ _ _ _ (hP.setBoltCondition _ (hP.setHeldCondition _ ?_)))
    exact hP.unsecured (fun _ => ⟨rfl, rfl, rfl, by simp⟩) (hP.dropUnused (hP.queue _ _ (hP.stop _ h)))
  · exact h

end DoorClosed
end

end Sys2Proof.Machine
end

section
/-! What every command keeps, continued: the egress override, the release sequencer, the estimator, the line supervisor's
part of a firing and the watch unit. -/

namespace Sys2Proof.Machine

/-! ## The egress override (R25) -/

section
variable {P : State → Prop} {s : State} {n : DoorNo}

/-- A fold of records leaves the doors as they are. -/
theorem forEach_write_doors {α : Type} (f : α → State → State) (hf : ∀ a s, Signals s (f a s)) (l : List α) (s : State) :
    (forEach l f s).doors = s.doors :=
  (forEach_rel Signals.refl (fun _ _ _ => Signals.trans) f l s fun a _ => hf a).doors

theorem dropPasses_doors (k : RecordKind) (which : Pass → Bool) :
    (dropPasses k which n s).doors = upd s.doors n fun d => { d with passes := d.passes.filter fun p => !which p } :=
  forEach_write_doors _ (fun _ _ => write_signals _ _ _ _ _) _ _

/-- The override's flag, too, may change: to set it no ENTRY pass may be left (R25). -/
structure OverrideClosed (P : State → Prop) : Prop extends DoorClosed P where
  egress : ∀ {s : State} {n : DoorNo} {b : Bool}, (b = true → ∀ p ∈ s.doors[n].passes, p.dir = .exit) → P s →
    P (s.modDoor n fun d => { d with egress := b })

namespace OverrideClosed

theorem egressDoor (hP : OverrideClosed P) (h : P s) : P (egressDoor n s) := by
  unfold Machine.egressDoor
  have dropped := hP.dropPasses (n := n) .passDropped (fun p => decide (p.dir = .entry)) h
  have flagged := hP.egress (n := n) (b := true) (fun _ p hp => ?_) dropped
  · dsimp only
    split
    · exact flagged
    · exact hP.overrideStart flagged
  · rw [dropPasses_doors, upd_same] at hp
    have kept := (List.mem_filter.1 hp).2
    cases hd : p.dir <;> simp_all

theorem egressEndDoor (hP : OverrideClosed P) (h : P s) : P (egressEndDoor n s) := by
  unfold Machine.egressEndDoor
  have flagged := hP.egress (n := n) (b := false) (fun hb => by cases hb) h
  dsimp only
  split
  · exact hP.overrideEnd flagged
  · exact flagged

theorem egressMove (hP : OverrideClosed P) (old new : ReleaseState) (z : Zone) (h : P s) : P (egressMove old new z s) := by
  unfold Machine.egressMove
  split
  · exact forEach_closed (fun _ _ h => hP.egressDoor h) _ h
  · split
    · exact forEach_closed (fun _ _ h => hP.egressEndDoor h) _ h
    · exact h

end OverrideClosed
end

/-! ## The release sequencer and the estimator -/

/-- The detail of the record that a change of release state writes: the new state, or the mark of a forced VENT (R41, R44). -/
def Told (d : Detail) (st : ReleaseState) : Prop := d = .state st ∨ (st = .vent ∧ d = .ventForced)

/-- The changes of the release sequencer, of the estimator and of the timers keep the property. `fires` says whether a
firing may begin or end. The guard of a change of release state is the one that the egress override goes by: an egress
state is entered from a quiet state or another egress state (R20, R25). -/
structure ZoneClosed (fires : Prop) (P : State → Prop) : Prop extends DoorClosed P where
  line : ∀ {s : State} {l : Line}, l.run = s.line.run → P s → P (s.modLine fun _ => l)
  abortRun : ∀ {s : State}, P s → P (abortRun s)
  release : ∀ {s : State} {z : Zone} {r : Release}, r.state = s.release[z].state → r.firing = s.release[z].firing →
    P s → P (s.modRelease z fun _ => r)
  firing : fires → ∀ {s : State} {z : Zone} {r : Release}, r.state = s.release[z].state →
    P s → P (s.modRelease z fun _ => r)
  record : ∀ {s : State} {z : Zone} {r : ZoneRecord}, r.state = s.store.records[z].state →
    P s → P (s.modRecord z fun _ => r)
  storeRecord : ∀ {s : State} {z : Zone}, ReleaseState.isStored s.release[z].state = true → P s → P (storeRecord z s)
  enterStateAs : ∀ {s : State} (d : Detail) (z : Zone) (st : ReleaseState), Told d st →
    (ReleaseState.isQuiet s.release[z].state = true ∨ ReleaseState.isEgress s.release[z].state = true ∨
      ReleaseState.isEgress st = false) → P s → P (enterStateAs d z st s)
  estimate : ∀ {s : State} {z : Zone} {e : Estimate}, e.level ≤ s.estimate[z].level ∨ e.level ≤ 10000 →
    e.steps ≤ s.estimate[z].steps ∨ e.steps ≤ 65535 → P s → P (s.modEstimate z fun _ => e)
  others : ∀ {s : State} (free : Nat) (inputs : Vector InputState 48) (detection : Vector Detection 4)
    (period : Vector Period 4) (readers : Vector Reader 8) (custody : Vector (Option CustodyWindow) 8)
    (loneTimer : Vector (Option Nat) 4) (loneOutrun : Vector Bool 4) (link : Link), P s →
    P { s with free := free, inputs := inputs, detection := detection, period := period, readers := readers
               custody := custody, loneTimer := loneTimer, loneOutrun := loneOutrun, link := link }

/-- The zone stands in a state from which the sequencer may go on to an egress state. -/
def Movable (s : State) (z : Zone) : Prop :=
  ReleaseState.isQuiet s.release[z].state = true ∨ ReleaseState.isEgress s.release[z].state = true

section
variable {fires : Prop} {P : State → Prop} {s : State} {z : Zone}

theorem Movable.of_state {st : ReleaseState} (h : s.release[z].state = st)
    (hst : (ReleaseState.isQuiet st || ReleaseState.isEgress st) = true) : Movable s z := by
  rw [Movable, h]
  exact Bool.or_eq_true_iff.1 hst

theorem modRelease_state (f : Release → Release) (hf : ∀ r, (f r).state = r.state) :
    (s.modRelease z f).release[z].state = s.release[z].state := by
  rw [State.modRelease_release, upd_same, hf]

theorem Movable.modRelease {f : Release → Release} (hf : ∀ r, (f r).state = r.state) (h : Movable s z) :
    Movable (s.modRelease z f) z := by
  rwa [Movable, modRelease_state f hf]

theorem Movable.setManual (h : Movable s z) : Movable (setManual z s) z := h.modRelease fun _ => rfl

/-- What a change of release state leaves of the zones' entries. -/
theorem enterStateAs_release (d : Detail) (st : ReleaseState) :
    (enterStateAs d z st s).release =
      upd s.release z fun r => { r with state := st, interval := false, doorHold := none, occupancyHold := none } := by
  have moved {a b : ReleaseState} {t : State} : (egressMove a b z t).release = t.release := by
    unfold egressMove
    split
    · exact (egressRequest_frame z t).release (by decide)
    · split
      · exact (egressEnd_frame z t).release (by decide)
      · rfl
  unfold enterStateAs reOccupant reImpaired
  rw [moved, (setCondition_signals _ _ _).release, (setCondition_signals _ _ _).release, (write_signals _ _ _ _ _).release]
  split <;> rfl

theorem enterState_state (st : ReleaseState) : (enterState z st s).release[z].state = st := by
  rw [enterState, enterStateAs_release, upd_same]

namespace ZoneClosed

theorem reImpaired (hP : ZoneClosed fires P) (h : P s) : P (reImpaired z s) := hP.setCondition _ _ h
theorem reOccupant (hP : ZoneClosed fires P) (h : P s) : P (reOccupant z s) := hP.setCondition _ _ h
theorem reEscort (hP : ZoneClosed fires P) (h : P s) : P (reEscort z s) := hP.setCondition _ _ h

theorem enterState (hP : ZoneClosed fires P) {st : ReleaseState} (may : Movable s z ∨ ReleaseState.isEgress st = false)
    (h : P s) : P (enterState z st s) :=
  hP.enterStateAs _ _ _ (.inl rfl) (or_assoc.1 may) h

/-- A change of the sequencer's own data. -/
theorem data (hP : ZoneClosed fires P) {f : Release → Release}
    (same : ∀ r : Release, (f r).state = r.state ∧ (f r).firing = r.firing) (h : P s) : P (s.modRelease z f) :=
  hP.release (same _).1 (same _).2 h

theorem enterAbortHeld (hP : ZoneClosed fires P) (k : Nat) (may : Movable s z) (h : P s) : P (enterAbortHeld z k s) :=
  hP.enterState (.inl (may.modRelease fun _ => rfl)) (hP.data (fun _ => ⟨rfl, rfl⟩) h)

/-! ### Flags and firing -/

theorem changeFlags (hP : ZoneClosed fires P) (c : CircuitNo) (f : CircuitFlags → CircuitFlags) (h : P s) :
    P (changeFlags c f s) := by
  have h1 := hP.setCondition (Source.circuit c) (circuitFlagged (s.modLine fun l => { l with flags := upd l.flags c f }) c)
    (hP.line (l := { s.line with flags := upd s.line.flags c f }) rfl h)
  unfold Machine.changeFlags
  dsimp only
  split
  · exact hP.reImpaired h1
  · exact h1

theorem changeSupply (hP : ZoneClosed fires P) (b : Bool) (h : P s) : P (changeSupply b s) := by
  unfold Machine.changeSupply
  exact forEach_closed (fun _ _ h => hP.reImpaired h) _
    (hP.setCondition _ _ (hP.line (l := { s.line with supply := b }) rfl h))

theorem beginFiring (hP : ZoneClosed fires P) (c : Fin 8) (h : P s) : P (beginFiring c s) :=
  hP.line rfl (hP.abortRun h)

theorem endFiring (hP : ZoneClosed fires P) (c : Fin 8) (h : P s) : P (endFiring c s) := by
  have h1 := hP.line (l := { s.line with checks := upd s.line.checks c fun _ => none }) rfl h
  unfold Machine.endFiring
  dsimp only
  split
  · exact h1
  · exact hP.changeFlags _ _ h1

theorem fireBank (hP : ZoneClosed fires P) (hf : fires) (b : Bank)
    (state : ReleaseState.isStored s.release[z].state = true) (h : P s) : P (fireBank z b s) := by
  unfold Machine.fireBank
  refine hP.beginFiring _ (hP.write _ _ _ _ (hP.firing hf rfl (hP.storeRecord state (hP.record ?_ h))))
  cases b <;> rfl

theorem occupantRecords (hP : ZoneClosed fires P) (h : P s) : P (occupantRecords z s) := by
  unfold Machine.occupantRecords
  dsimp only
  split
  · split
    · exact h
    · exact hP.write _ _ _ _ h
  · exact forEach_closed (fun _ _ h => hP.write _ _ _ _ h) _ h

theorem kind_discharge (z : Zone) : Source.kind (Source.discharge z) = .edge := by revert z; decide
theorem kind_soakLoss (z : Zone) : Source.kind (Source.soakLoss z) = .edge := by revert z; decide

theorem enterDischarge (hP : ZoneClosed fires P) (hf : fires) (may : Movable s z) (h : P s) : P (enterDischarge z s) := by
  unfold Machine.enterDischarge
  refine hP.occupantRecords (hP.edgeEvent _ (kind_discharge z) (hP.fireBank hf _ ?_ (hP.enterState (.inl may) h)))
  rw [enterState_state]
  rfl

theorem goDischarge (hP : ZoneClosed fires P) (hf : fires) (may : Movable s z) (h : P s) : P (goDischarge z s) := by
  unfold Machine.goDischarge
  split
  · exact hP.enterAbortHeld _ may h
  · exact hP.enterDischarge hf may h

theorem occupancyCheck (hP : ZoneClosed fires P) (hf : fires) (may : Movable s z) (h : P s) : P (occupancyCheck z s) := by
  unfold Machine.occupancyCheck
  split
  · exact hP.goDischarge hf may h
  · exact hP.data (fun _ => ⟨rfl, rfl⟩) (hP.enterState (.inl may) h)

theorem endCountdown (hP : ZoneClosed fires P) (hf : fires) (may : Movable s z) (h : P s) : P (endCountdown z s) := by
  unfold Machine.endCountdown
  split
  · exact hP.goDischarge hf may h
  · split
    · exact hP.data (fun _ => ⟨rfl, rfl⟩) (hP.enterState (.inl may) h)
    · exact hP.occupancyCheck hf may h

theorem enterCountdown (hP : ZoneClosed fires P) (hf : fires) (k : Nat) (may : Movable s z) (h : P s) :
    P (enterCountdown z k s) := by
  have h1 := hP.enterState (z := z) (st := .countdown)
    (.inl (may.modRelease (f := fun r => { r with remaining := k }) fun _ => rfl)) (hP.data (fun _ => ⟨rfl, rfl⟩) h)
  unfold Machine.enterCountdown
  dsimp only
  split
  · exact hP.endCountdown hf (.of_state (enterState_state _) rfl) h1
  · exact hP.data (fun _ => ⟨rfl, rfl⟩) h1

theorem beginCountdown (hP : ZoneClosed fires P) (hf : fires) (k : Nat) (may : Movable s z) (h : P s) :
    P (beginCountdown z k s) := by
  unfold Machine.beginCountdown
  split
  · exact hP.enterAbortHeld _ may h
  · exact hP.enterCountdown hf _ may h

/-! ### What reaches the sequencer -/

theorem detectionRise (hP : ZoneClosed fires P) (hf : fires) (d : Detection) (h : P s) : P (detectionRise z d s) := by
  unfold Machine.detectionRise
  split
  · next hs => exact hP.enterState (.inl (.of_state hs rfl)) h
  · next hs => exact hP.beginCountdown hf _ (.of_state hs rfl) h
  · next hs => exact hP.beginCountdown hf _ (.of_state hs rfl) h
  · exact h

theorem setManual (hP : ZoneClosed fires P) (h : P s) : P (setManual z s) := hP.data (fun _ => ⟨rfl, rfl⟩) h

theorem manualStart (hP : ZoneClosed fires P) (hf : fires) (may : Movable s z) (h : P s) : P (manualStart z s) := by
  unfold Machine.manualStart
  split
  · exact hP.goDischarge hf may.setManual (hP.setManual h)
  · exact hP.beginCountdown hf _ may.setManual (hP.setManual h)

theorem manualShorten (hP : ZoneClosed fires P) (hf : fires) (may : Movable s z) (h : P s) : P (manualShorten z s) := by
  unfold Machine.manualShorten
  dsimp only
  split
  · exact hP.endCountdown hf ((Movable.setManual may).modRelease fun _ => rfl)
      (hP.data (fun _ => ⟨rfl, rfl⟩) (hP.setManual h))
  · exact hP.data (fun _ => ⟨rfl, rfl⟩) (hP.setManual h)

theorem manualActivation (hP : ZoneClosed fires P) (hf : fires) (h : P s) : P (manualActivation z s) := by
  unfold Machine.manualActivation
  split
  · next hs => exact hP.manualStart hf (.of_state hs rfl) h
  · next hs => exact hP.manualStart hf (.of_state hs rfl) h
  · next hs => exact hP.manualShorten hf (.of_state hs rfl) h
  · exact hP.setManual h
  · next hs => exact hP.goDischarge hf (Movable.of_state hs rfl).setManual (hP.setManual h)
  · next hs => exact hP.goDischarge hf (Movable.of_state hs rfl).setManual (hP.setManual h)
  · exact hP.write _ _ _ _ h

theorem abortActivation (hP : ZoneClosed fires P) (h : P s) : P (abortActivation z s) := by
  unfold Machine.abortActivation
  split
  · next hs => exact hP.enterAbortHeld _ (.of_state hs rfl) h
  · next hs => exact hP.enterAbortHeld _ (.of_state hs rfl) h
  · next hs => exact hP.enterAbortHeld _ (.of_state hs rfl) h
  · exact h

theorem abortRelease (hP : ZoneClosed fires P) (hf : fires) (h : P s) : P (abortRelease z s) := by
  unfold Machine.abortRelease
  split
  · next hs => exact hP.enterCountdown hf _ (.of_state hs rfl) h
  · exact h

theorem doorClosing (hP : ZoneClosed fires P) (hf : fires) (h : P s) : P (doorClosing z s) := by
  unfold Machine.doorClosing
  split
  · next hs => exact hP.occupancyCheck hf (.of_state hs.1 rfl) h
  · exact h

theorem occupancyReport (hP : ZoneClosed fires P) (hf : fires) (h : P s) : P (occupancyReport z s) := by
  unfold Machine.occupancyReport
  split
  · next hs => exact hP.goDischarge hf (.of_state hs.1 rfl) h
  · exact h

/-! ### The estimator -/

/-- A change of the estimate that keeps to its bounds, or does not raise it. -/
theorem estimates (hP : ZoneClosed fires P) {f : Estimate → Estimate}
    (bound : ∀ e : Estimate, ((f e).level ≤ e.level ∨ (f e).level ≤ 10000) ∧ ((f e).steps ≤ e.steps ∨ (f e).steps ≤ 65535))
    (h : P s) : P (s.modEstimate z f) :=
  hP.estimate (bound _).1 (bound _).2 h

/-- A change that raises neither the estimate nor its steps. -/
theorem lowered (hP : ZoneClosed fires P) {f : Estimate → Estimate}
    (low : ∀ e : Estimate, (f e).level ≤ e.level ∧ (f e).steps ≤ e.steps) (h : P s) : P (s.modEstimate z f) :=
  hP.estimate (.inl (low _).1) (.inl (low _).2) h

theorem noteOpening (hP : ZoneClosed fires P) (h : P s) : P (noteOpening z s) := by
  unfold Machine.noteOpening
  split
  · exact hP.lowered (fun _ => ⟨Nat.le_refl _, Nat.le_refl _⟩) h
  · exact h

theorem reduce_le (level base door : Nat) (b : Bool) : reduce level base door b ≤ level := by
  unfold reduce
  dsimp only
  split <;> omega

theorem stepEstimate (hP : ZoneClosed fires P) (h : P s) : P (stepEstimate z s) :=
  hP.estimates (fun _ => ⟨.inl (reduce_le _ _ _ _), .inr (Nat.min_le_left _ _)⟩) h

theorem releaseReserve (hP : ZoneClosed fires P) (hf : fires)
    (state : ReleaseState.isStored s.release[z].state = true) (h : P s) : P (releaseReserve z s) :=
  hP.estimates (fun _ => ⟨.inr (Nat.min_le_left _ _), .inl (Nat.le_refl _)⟩) (hP.fireBank hf _ state h)

theorem soakLoss (hP : ZoneClosed fires P) (h : P s) : P (soakLoss z s) := by
  unfold Machine.soakLoss
  split
  · exact h
  · exact hP.write _ _ _ _ (hP.edgeEvent _ (kind_soakLoss z)
      (hP.lowered (fun _ => ⟨Nat.le_refl _, Nat.le_refl _⟩) h))

theorem holdCheck (hP : ZoneClosed fires P) (hf : fires) (state : ReleaseState.isStored s.release[z].state = true)
    (h : P s) : P (holdCheck z s) := by
  unfold Machine.holdCheck
  dsimp only
  split
  · split
    · exact hP.releaseReserve hf state h
    · exact hP.soakLoss h
  · exact h

theorem minimumSoak (hP : ZoneClosed fires P) (h : P s) : P (minimumSoak z s) := by
  unfold Machine.minimumSoak
  split
  · exact hP.enterState (.inr rfl) h
  · exact h

theorem reentryCheck (hP : ZoneClosed fires P) (h : P s) : P (reentryCheck z s) := by
  unfold Machine.reentryCheck
  split
  · exact hP.enterState (.inr rfl) (hP.lowered (fun _ => ⟨Nat.le_refl _, Nat.le_refl _⟩) h)
  · exact h

theorem estimateStep (hP : ZoneClosed fires P) (hf : fires) (h : P s) : P (estimateStep z s) := by
  unfold Machine.estimateStep
  dsimp only
  split
  · split
    · next hs =>
      refine hP.minimumSoak (hP.holdCheck hf ?_ (hP.stepEstimate h))
      change ReleaseState.isStored s.release[z].state = true
      rw [hs]
      rfl
    · exact hP.reentryCheck (hP.stepEstimate h)
    · exact hP.stepEstimate h
  · exact h

/-! ### The sequencer's timers -/

theorem expireInterval (hP : ZoneClosed fires P) (hf : fires) (h : P s) : P (expireInterval z s) := by
  unfold Machine.expireInterval
  dsimp only
  split
  · next hs =>
    split
    · exact hP.endCountdown hf ((Movable.of_state hs.1 rfl).modRelease fun _ => rfl) (hP.data (fun _ => ⟨rfl, rfl⟩) h)
    · exact hP.data (fun _ => ⟨rfl, rfl⟩) h
  · exact h

theorem expireDoorHold (hP : ZoneClosed fires P) (hf : fires) (h : P s) : P (expireDoorHold z s) := by
  unfold Machine.expireDoorHold
  split
  · next hs => exact hP.occupancyCheck hf (.of_state hs.1 rfl) h
  · exact h

theorem expireOccupancyHold (hP : ZoneClosed fires P) (hf : fires) (h : P s) : P (expireOccupancyHold z s) := by
  unfold Machine.expireOccupancyHold
  split
  · next hs =>
    split
    · exact hP.goDischarge hf (.of_state hs.1 rfl) h
    · exact hP.data (fun _ => ⟨rfl, rfl⟩) h
  · exact h

theorem enterSoak (hP : ZoneClosed fires P) (h : P s) : P (enterSoak z s) :=
  hP.estimates (fun _ => ⟨.inr (Nat.le_refl _), .inr (Nat.zero_le _)⟩) (hP.enterState (.inr rfl) h)

theorem firingEnds (hP : ZoneClosed fires P) (hf : fires) (b : Bank) (h : P s) : P (firingEnds z b s) := by
  have h1 := hP.firing hf (s := s) (z := z) (r := { s.release[z] with firing := none }) rfl h
  unfold Machine.firingEnds
  dsimp only
  refine hP.endFiring _ ?_
  split
  · exact h1
  · exact hP.write _ _ _ _ h1

theorem afterFiring (hP : ZoneClosed fires P) (hf : fires) (b : Bank) (seen : Bool) (h : P s) :
    P (afterFiring z b seen s) := by
  unfold Machine.afterFiring
  split
  · next hs =>
    split
    · exact hP.fireBank hf _ (by rw [hs]; rfl) h
    · exact hP.enterSoak h
  · exact h

theorem expireFiring (hP : ZoneClosed fires P) (hf : fires) (h : P s) : P (expireFiring z s) := by
  unfold Machine.expireFiring
  split
  · exact h
  · exact hP.afterFiring hf _ _ (hP.firingEnds hf _ h)

/-! ### The watch unit -/

theorem setLone (hP : ZoneClosed fires P) (t : Option Nat) (h : P s) : P (s.setLone z t) :=
  hP.others _ _ _ _ _ _ _ _ _ h
theorem setOutrun (hP : ZoneClosed fires P) (b : Bool) (h : P s) : P (s.setOutrun z b) :=
  hP.others _ _ _ _ _ _ _ _ _ h
theorem startLone (hP : ZoneClosed fires P) (h : P s) : P (startLone z s) := hP.setLone _ h

theorem stopLone (hP : ZoneClosed fires P) (h : P s) : P (stopLone z s) := by
  unfold Machine.stopLone
  split
  · exact hP.setOutrun _ (hP.setLone _ h)
  · exact h

theorem reLone (hP : ZoneClosed fires P) (h : P s) : P (reLone z s) := by
  unfold Machine.reLone
  split
  · split
    · exact h
    · exact hP.startLone h
  · exact hP.stopLone h

theorem watchOccupancy (hP : ZoneClosed fires P) (h : P s) : P (watchOccupancy z s) := by
  unfold Machine.watchOccupancy
  exact hP.reOccupant (forEach_closed (fun _ _ h => hP.reEscort h) _ (hP.reLone h))

theorem kind_lone (z : Zone) : Source.kind (Source.lone z) = .edge := by revert z; decide
theorem kind_staff (n : StaffNo) : Source.kind (Source.staff n) = .edge := by revert n; decide

theorem expireLone (hP : ZoneClosed fires P) (h : P s) : P (expireLone z s) := by
  unfold Machine.expireLone
  split
  · exact hP.setOutrun _ h
  · split
    · exact hP.startLone (hP.write _ _ _ _ (hP.edgeEvent _ (kind_lone z) h))
    · exact h

theorem restartLone (hP : ZoneClosed fires P) (h : P s) : P (restartLone z s) := by
  unfold Machine.restartLone
  split
  · exact hP.startLone (hP.stopLone h)
  · exact h

theorem staffActivation (hP : ZoneClosed fires P) (n : StaffNo) (h : P s) : P (staffActivation n s) := by
  unfold Machine.staffActivation
  dsimp only
  split
  · split
    · exact hP.restartLone (hP.write _ _ _ _ h)
    · exact hP.write _ _ _ _ h
  · exact hP.write _ _ _ _ (hP.edgeEvent _ (kind_staff n) h)

theorem occupancyChanged (hP : ZoneClosed fires P) (hf : fires) (h : P s) : P (occupancyChanged z s) :=
  hP.watchOccupancy (hP.occupancyReport hf h)

end ZoneClosed
end

end Sys2Proof.Machine
end

section
/-! What every command keeps, continued: the kinds of change that remain, with their guards, and the operations of the
blocks that the commands call. -/

namespace Sys2Proof.Machine

/-! ## The kinds of change that remain -/

/-- A channel of a zone setting is as R10 to R12 let one be. -/
abbrev ChannelSound (zone : Option Zone) (c : Channel) : Prop :=
  c.arming ≤ 2 ∧ c.outRun ≤ 3 ∧ c.inRun ≤ 3 ∧ (c.latch = true ↔ c.arming = 2) ∧
  (zone = none → c.arming = 0 ∧ c.outRun = 0 ∧ c.inRun = 0 ∧ c.fault = .clear)

/-- Settings that stand by themselves are changed within their ranges: what other state follows from is left, the
detectors', the doors', the outputs' and the sources' settings and the zones' stored records. -/
structure StoreMove (ranged : Prop) (s : State) (st : Store) : Prop where
  detectors : st.detectors = s.store.detectors
  records : st.records = s.store.records
  doors : st.doors = s.store.doors
  slots : st.slots = s.store.slots
  outputs : st.outputs = s.store.outputs
  sources : st.sources = s.store.sources
  range : ranged → SettingsInRange s → SettingsInRange { s with store := st }

/-- A channel takes new settings (R9): what `applyDetector` begins with. -/
def assignDetector (c : ChannelNo) (v : DetectorSettings) (s : State) : State :=
  (writeConfig c.val (.kind 0x11)
    (s.modStore fun st => { st with detectors := upd st.detectors c fun _ => v })).modChannel c
      (Channel.reassign s.store.detectors[c] v)

/-- A door takes new settings, and its override where they call for one (R66, R25): what `applyDoor` begins with. -/
def reseatDoor (n : DoorNo) (v : DoorSettings) (slots : Nat) (s : State) : State :=
  let old := s.store.doors[n]
  let s1 := s.modStore fun st => { st with doors := upd st.doors n fun _ => v, slots := slots }
  let s2 := writeConfig n.val (.kind 0x13) s1
  let s3 := if old.custody = v.custody ∧ old.inside = v.inside then s2 else closeCustody n s2
  if joinsEgress s old v then egressDoor n s3 else s3

/-- A door's settings as R66 lets them be. -/
abbrev DoorInRange (v : DoorSettings) : Prop :=
  (1 ≤ v.unlockWindow ∧ v.unlockWindow ≤ 30) ∧ (5 ≤ v.heldTime ∧ v.heldTime ≤ 600) ∧
  (2 ≤ v.boltTime ∧ v.boltTime ≤ 20) ∧ v.group ≤ 4 ∧ (v.inside = v.outside → v.inside = none) ∧
  (v.lock = .motorBolt → v.fail = .secure)

/-- What SET_DOOR asks of the door and of the settings it takes (R66). -/
structure Reseatable (s : State) (n : DoorNo) (v : DoorSettings) (slots : Nat) : Prop where
  secured : s.doors[n].state = .secured
  free : overridden s n = false
  motions : motionsInProgress s ≤ slots
  slots : 1 ≤ slots ∧ slots ≤ 3
  range : DoorInRange v

/-- An output takes new settings (R140): what `applyOutput` begins with. -/
def assignOutput (o : OutputNo) (v : OutputSettings) (s : State) : State :=
  refreshOutput o ((s.modStore fun st => { st with outputs := upd st.outputs o fun _ => v }).modOutput o
    fun w => { w with silenced := false })

/-- Every command's changes keep the property: those of the doors and the zones, and these. `fires` says whether a firing
may begin or end, `ranged` whether what a message carries fits its field. -/
structure Closed (fires ranged boots : Prop) (P : State → Prop) : Prop extends ZoneClosed fires P where
  gate : fires → ∀ {s : State} {b : Bool}, P s → P { s with gateClosed := b }
  channel : ∀ {s : State} {c : ChannelNo} {ch : Channel},
    (ChannelSound s.store.detectors[c].zone s.channels[c] → ChannelSound s.store.detectors[c].zone ch) →
    P s → P (s.modChannel c fun _ => ch)
  fewerListed : ∀ {s : State} {z : Zone} {o : Occupancy}, o.list.Sublist s.occupancy[z].list →
    P s → P (s.modOccupancy z fun _ => o)
  applyPass : fires → ∀ {s : State} (n : DoorNo) (p : Pass), P s → P (applyPass n p s)
  takeIntoService : ∀ {s : State} {src : Source}, claimable s = some src → P s → P (takeIntoService src s)
  leaveService : ∀ {s : State} (src : Source), P s → P (leaveService src s)
  reLevel : ∀ {s : State} (src : Source), P s → P (reLevel src s)
  suppress : ∀ {s : State} (b : Bool), P s → P (s.modAlarm fun a => { a with suppressed := b })
  silence : ∀ {s : State} (o : OutputNo) (b : Bool), P s →
    P (refreshOutput o (s.modOutput o fun v => { v with silenced := b }))
  output : ∀ {s : State} (o : OutputNo) {v : OutputSettings}, v.sources.length ≤ 16 → v.sources.Nodup → P s →
    P (assignOutput o v s)
  acknowledge : ∀ {s : State} {sequence : Nat}, sequence ≤ s.journal.newest → P s → P (acknowledge sequence s)
  startRun : ∀ {s : State} (kind : RunKind) (set : CircuitNo → Bool), P s → P (startRun kind set s)
  takeResult : ∀ {s : State} {check : CheckInProgress} (faulty : Bool), checkInProgress s = some check → P s →
    P (takeResult check faulty s)
  passSeconds : ∀ {s : State} (n : Nat), P s → P (passSeconds n s)
  coldStart : ∀ {s : State} (straps : BitVec 5) (levels : BitVec 48), boots → P s → P (coldStart straps levels s)
  store : ∀ {s : State} {st : Store}, StoreMove ranged s st → P s → P { s with store := st }
  detector : ∀ {s : State} (c : ChannelNo) {v : DetectorSettings}, v.threshold ≤ 4095 → v.hysteresis ≤ v.threshold →
    P s → P (assignDetector c v s)
  sources : ∀ {s : State} {table : Vector SourceSettings 115},
    (∀ src : Source, table[src].priority ≤ 7 ∨ table[src] = s.store.sources[src]) →
    (∀ src ∈ s.alarm.inService, table[src].priority = priority s src) → P s →
    P (s.modStore fun st => { st with sources := table })
  reseatDoor : ∀ {s : State} {n : DoorNo} {v : DoorSettings} {slots : Nat}, Reseatable s n v slots → P s →
    P (reseatDoor n v slots s)
  clock : ∀ {s : State} {c : Clock},
    (s.clock.second ≤ 86399 ∧ s.clock.day ≤ 65535 → c.second ≤ 86399 ∧ c.day ≤ 65535) → P s → P (s.setClock c)

section
variable {fires ranged boots : Prop} {P : State → Prop} {s : State}

namespace Closed

theorem link (hP : Closed fires ranged boots P) (f : Link → Link) (h : P s) : P (s.modLink f) :=
  hP.others _ _ _ _ _ _ _ _ _ h

theorem reply (hP : Closed fires ranged boots P) (k : Nat) (st : Status) (b : ReplyBody) (h : P s) : P (reply k st b s) :=
  hP.link _ (hP.link _ h)

theorem refuse (hP : Closed fires ranged boots P) (k : Nat) (st : Status) (h : P s) : P (refuse k st s) :=
  hP.reply _ _ _ h

theorem heardActivity (hP : Closed fires ranged boots P) (h : P s) : P (heardActivity s) := hP.link _ h

theorem liftSuppression (hP : Closed fires ranged boots P) (before : State) (h : P s) : P (liftSuppression before s) := by
  unfold Machine.liftSuppression
  split
  · exact hP.suppress _ h
  · exact h

theorem settleGate (hP : Closed fires ranged boots P) (hf : fires) (h : P s) : P (settleGate s) := by
  unfold Machine.settleGate
  split
  · exact h
  · split
    · exact hP.gate hf h
    · exact hP.serve (hP.gate hf h)

/-! ## Detection -/

theorem fireConditions (hP : Closed fires ranged boots P) (z : Zone) (h : P s) : P (fireConditions z s) :=
  hP.setCondition _ _ (hP.setCondition _ _ h)

theorem setDetection (hP : Closed fires ranged boots P) (z : Zone) (d : Detection) (h : P s) : P (s.setDetection z d) :=
  hP.others _ _ _ _ _ _ _ _ _ h

theorem redetect (hP : Closed fires ranged boots P) (hf : fires) (z : Zone) (h : P s) : P (redetect z s) := by
  unfold Machine.redetect
  dsimp only
  split
  · exact hP.fireConditions _ (hP.detectionRise hf _ (hP.setDetection _ _ h))
  · exact h

theorem redetectSetting (hP : Closed fires ranged boots P) (hf : fires) (z : Option Zone) (h : P s) :
    P (redetectSetting z s) := by
  cases z with
  | none => exact h
  | some z => exact hP.redetect hf z h

theorem faultCondition (hP : Closed fires ranged boots P) (c : ChannelNo) (h : P s) : P (faultCondition c s) :=
  hP.setCondition _ _ h

theorem armingAfter_sound {v : DetectorSettings} {value : Nat} {c : Channel} (sound : c.latch = true ↔ c.arming = 2)
    (bound : c.arming ≤ 2) : armingAfter v value c ≤ 2 ∧ (c.latch = true → armingAfter v value c = 2) := by
  unfold armingAfter
  split
  · next latched => exact ⟨bound, fun _ => sound.1 latched⟩
  · next unlatched =>
    refine ⟨?_, fun latched => absurd latched unlatched⟩
    split
    · exact Nat.min_le_left _ _
    · split
      · exact Nat.zero_le _
      · exact bound

theorem runUp_le (n : Nat) : runUp n ≤ 3 := Nat.min_le_left _ _

/-- A sample leaves a sound channel sound (R10 to R12). -/
theorem sampleChannel_sound (v : DetectorSettings) (value : Nat) {c : Channel} (sound : ChannelSound v.zone c) :
    ChannelSound v.zone (sampleChannel v value c) := by
  obtain ⟨arming, outRun, inRun, latch, rest⟩ := sound
  unfold sampleChannel
  dsimp only
  split
  · exact ⟨arming, outRun, inRun, latch, rest⟩
  · next zoned =>
    have zoned : v.zone ≠ none := fun none => zoned (by simp [none])
    split
    · obtain ⟨bound, latched⟩ := armingAfter_sound (v := v) (value := value) (c := { c with last := value }) latch arming
      refine ⟨bound, Nat.zero_le _, runUp_le _, ?_, fun none => absurd none zoned⟩
      simp only [withinRange, Bool.or_eq_true, decide_eq_true_eq, or_iff_right_iff_imp]
      exact latched
    · exact ⟨arming, runUp_le _, Nat.zero_le _, latch, fun none => absurd none zoned⟩

theorem sample (hP : Closed fires ranged boots P) (hf : fires) (c : ChannelNo) (value : Nat) (h : P s) :
    P (sample c value s) := by
  have sampled := hP.faultCondition c (hP.channel (c := c) (sampleChannel_sound s.store.detectors[c] value) h)
  unfold Machine.sample
  dsimp only
  split
  · exact sampled
  · split
    · exact sampled
    · exact hP.redetect hf _ sampled

theorem detectorRead (hP : Closed fires ranged boots P) (channel : Nat) (clear : Bool) (h : P s) :
    P (detectorRead channel clear s) := by
  unfold Machine.detectorRead
  split
  · exact hP.refuse _ _ h
  · dsimp only
    split
    · exact hP.reply _ _ _ (hP.channel (fun sound => sound) h)
    · exact hP.reply _ _ _ h

/-! ## The sequencer's messages -/

theorem zoneDisable (hP : Closed fires ranged boots P) (zone : Nat) (h : P s) : P (zoneDisable zone s) := by
  unfold Machine.zoneDisable
  split
  · exact hP.refuse _ _ h
  · split
    · exact hP.reply _ _ _ (hP.enterState (.inr rfl) h)
    · exact hP.refuse _ _ h

theorem zoneEnable (hP : Closed fires ranged boots P) (hf : fires) (zone : Nat) (h : P s) : P (zoneEnable zone s) := by
  unfold Machine.zoneEnable
  split
  · exact hP.refuse _ _ h
  · split
    · next disabled =>
      refine hP.reply _ _ _ ?_
      unfold enableZone
      split
      · exact hP.enterState (.inr rfl) h
      · exact hP.enterState (.inr rfl) h
      · exact hP.beginCountdown hf _ (.of_state disabled rfl) h
    · exact hP.refuse _ _ h

theorem vent (hP : Closed fires ranged boots P) (zone : Nat) (force : Bool) (h : P s) : P (vent zone force s) := by
  unfold Machine.vent
  split
  · exact hP.refuse _ _ h
  · split
    · exact hP.refuse _ _ h
    · split
      · exact hP.reply _ _ _ (hP.enterState (.inr rfl) h)
      · split
        · exact hP.reply _ _ _ (hP.enterStateAs _ _ _ (.inr ⟨rfl, rfl⟩) (.inr (.inr rfl)) h)
        · exact hP.refuse _ _ h

theorem reserveRelease (hP : Closed fires ranged boots P) (hf : fires) (zone : Nat) (h : P s) :
    P (reserveRelease zone s) := by
  unfold Machine.reserveRelease
  split
  · exact hP.refuse _ _ h
  · split
    · next ready =>
      refine hP.reply _ _ _ (hP.releaseReserve hf ?_ h)
      rcases ready.1 with hs | hs <;> rw [hs] <;> rfl
    · exact hP.refuse _ _ h

theorem resetDetection (hP : Closed fires ranged boots P) (z : Zone) (h : P s) : P (resetDetection z s) := by
  unfold Machine.resetDetection
  refine hP.setCondition _ _ (hP.setCondition _ _ (hP.setDetection _ _ (forEach_closed (fun c s h => ?_) _ h)))
  split
  · exact hP.channel (fun ⟨_, outRun, inRun, _, rest⟩ => ⟨Nat.zero_le _, outRun, inRun, by simp,
      fun none => ⟨rfl, (rest none).2⟩⟩) h
  · exact h

theorem zoneReset (hP : Closed fires ranged boots P) (zone : Nat) (h : P s) : P (zoneReset zone s) := by
  have reset (z : Zone) : P (resetZone z s) :=
    hP.estimates (fun _ => ⟨.inr (Nat.zero_le _), .inr (Nat.zero_le _)⟩) (hP.resetDetection _ (hP.enterState (.inr rfl)
      (hP.record rfl (hP.data (fun _ => ⟨rfl, rfl⟩) h))))
  unfold Machine.zoneReset
  split
  · exact hP.refuse _ _ h
  · split
    · exact hP.reply _ _ _ (reset _)
    · exact hP.reply _ _ _ (reset _)
    · exact hP.reply _ _ _ (reset _)
    · exact hP.refuse _ _ h

/-! ## Occupancy and the doors' inputs -/

theorem removeEntry (hP : Closed fires ranged boots P) (hf : fires) (cred : Nat) (z : Zone) (h : P s) :
    P (removeEntry cred z s) := by
  unfold Machine.removeEntry
  split
  · exact hP.occupancyChanged hf (hP.fewerListed List.erase_sublist h)
  · exact h

theorem setCertain (hP : Closed fires ranged boots P) (hf : fires) (z : Zone) (b : Bool) (h : P s) :
    P (setCertain z b s) := by
  unfold Machine.setCertain
  split
  · exact h
  · exact hP.occupancyChanged hf (hP.fewerListed (List.Sublist.refl _) h)

theorem reportOpening (hP : Closed fires ranged boots P) (n : DoorNo) (h : P s) : P (reportOpening n s) := by
  unfold Machine.reportOpening
  split
  · exact hP.noteOpening h
  · exact h

theorem contactOpened (hP : Closed fires ranged boots P) (hf : fires) (n : DoorNo) (h : P s) : P (contactOpened n s) :=
  hP.reportOpening _ (forEach_closed (fun _ _ h => hP.applyPass hf _ _ h) _ (hP.openDoor h))

theorem contactClosed (hP : Closed fires ranged boots P) (hf : fires) (n : DoorNo) (h : P s) : P (contactClosed n s) := by
  unfold Machine.contactClosed
  dsimp only
  split
  · exact hP.doorClosing hf (hP.closeDoor h)
  · exact hP.closeDoor h

theorem rexActivation (hP : Closed fires ranged boots P) (hf : fires) (n : DoorNo) (h : P s) : P (rexActivation n s) := by
  unfold Machine.rexActivation
  split
  · split
    · next may =>
      have may : MayMark s n := (Bool.or_eq_true_iff.1 may).elim (fun clear => .inr (.inl clear)) .inl
      have released := hP.write .rexExit n.val 0 .blank
        (hP.releaseRequest (n := n) .egress may (fun _ _ hp => absurd hp List.not_mem_nil) h)
      unfold rexReport
      split
      · split
        · exact released
        · exact hP.setCertain hf _ _ released
      · exact released
    · exact hP.write _ _ _ _ h
  · split
    · exact h
    · exact hP.write _ _ _ _ h

theorem trySettle (hP : Closed fires ranged boots P) (n : DoorNo) (h : P s) : P (trySettle n s) := by
  unfold Machine.trySettle
  split
  · dsimp only
    split
    · exact hP.reportOpening _ (hP.serve (hP.settleDoor h))
    · exact hP.serve (hP.settleDoor h)
  · exact h

theorem occupancyConfirm (hP : Closed fires ranged boots P) (hf : fires) (zone : Nat) (h : P s) :
    P (occupancyConfirm zone s) := by
  unfold Machine.occupancyConfirm
  split
  · exact hP.refuse _ _ h
  · exact hP.reply _ _ _ (hP.writeConfig _ _ (hP.setCertain hf _ _ h))

theorem occupancyRemove (hP : Closed fires ranged boots P) (hf : fires) (zone cred : Nat) (h : P s) :
    P (occupancyRemove zone cred s) := by
  unfold Machine.occupancyRemove
  split
  · exact hP.refuse _ _ h
  · split
    · exact hP.refuse _ _ h
    · split
      · exact hP.reply _ _ _ (hP.write _ _ _ _ (hP.removeEntry hf _ _ h))
      · exact hP.refuse _ _ h

/-! ## Entry decisions -/

theorem readers (hP : Closed fires ranged boots P) (r : ReaderNo) (f : Reader → Reader) (h : P s) : P (s.modReader r f) :=
  hP.others _ _ _ _ _ _ _ _ _ h
theorem setCustody (hP : Closed fires ranged boots P) (n : DoorNo) (w : Option CustodyWindow) (h : P s) :
    P (s.setCustody n w) :=
  hP.others _ _ _ _ _ _ _ _ _ h

theorem refuseEntry (hP : Closed fires ranged boots P) (r : ReaderNo) (code : RefusalCode) (cred : Nat) (h : P s) :
    P (refuseEntry r code cred s) :=
  hP.write _ _ _ _ h

theorem badPin (hP : Closed fires ranged boots P) (r : ReaderNo) (cred : Nat) (h : P s) : P (badPin r cred s) := by
  unfold Machine.badPin
  dsimp only
  split
  · exact hP.refuseEntry _ _ _ (hP.readers _ _ (hP.readers _ _ (hP.refuseEntry _ _ _ h)))
  · exact hP.readers _ _ (hP.refuseEntry _ _ _ h)

theorem closeCustody (hP : Closed fires ranged boots P) (n : DoorNo) (h : P s) : P (closeCustody n s) := by
  unfold Machine.closeCustody
  split
  · exact hP.write _ _ _ _ (hP.setCustody _ _ h)
  · exact h

/-- A request that passes its checks carries no ENTRY pass to a door under egress override (R71). -/
theorem allowed_of_not_refused {n : DoorNo} {passes : List Pass} (ok : requestRefusal s n passes = none) :
    s.doors[n].egress = true → ∀ p ∈ passes, p.dir = .exit := by
  intro under p hp
  have notEntry : ¬ (passes.any (fun p => decide (p.dir = .entry)) = true ∧ s.doors[n].egress = true) := by
    intro entry
    unfold requestRefusal at ok
    dsimp only at ok
    rw [if_pos entry] at ok
    split at ok <;> cases ok
  cases hd : p.dir with
  | exit => rfl
  | entry => exact absurd ⟨List.any_eq_true.2 ⟨p, hp, decide_eq_true hd⟩, under⟩ notEntry

theorem grant (hP : Closed fires ranged boots P) (hf : fires) (r : ReaderNo) (detail : Detail) (creds : List Nat) (h : P s) :
    P (grant r detail creds s) := by
  have refused (code : RefusalCode) : P (forEach creds (Machine.refuseEntry r code) s) :=
    forEach_closed (fun _ _ h => hP.refuseEntry _ _ _ h) _ h
  unfold Machine.grant
  dsimp only
  split
  · exact refused _
  · next clear =>
    split
    · exact refused _
    · next ok =>
      unfold serveGrant
      dsimp only
      split
      · exact forEach_closed (fun _ _ h => hP.applyPass hf _ _ h) _
          (hP.readers _ _ (forEach_closed (fun _ _ h => hP.write _ _ _ _ h) _ h))
      · exact hP.readers _ _ (forEach_closed (fun _ _ h => hP.write _ _ _ _ h) _
          (hP.releaseRequest _ (.inr (.inl (by simpa using clear))) (allowed_of_not_refused ok) h))

theorem custodyOrGrant (hP : Closed fires ranged boots P) (hf : fires) (r : ReaderNo) (c : Credential) (h : P s) :
    P (custodyOrGrant r c s) := by
  unfold Machine.custodyOrGrant
  dsimp only
  split
  · exact hP.grant hf _ _ _ h
  · split
    · split
      · exact hP.write _ _ _ _ (hP.setCustody _ _ h)
      · unfold secondPresenter
        split
        · exact hP.refuseEntry _ _ _ h
        · split
          · exact hP.closeCustody _ (hP.refuseEntry _ _ _ h)
          · exact hP.grant hf _ _ _ (hP.setCustody _ _ h)
    · exact hP.grant hf _ _ _ h

theorem afterPin (hP : Closed fires ranged boots P) (hf : fires) (r : ReaderNo) (c : Credential) (h : P s) :
    P (afterPin r c s) := by
  have room {t : State} (ht : P t) : P (roomChecks r c t) := by
    unfold roomChecks
    split
    · exact hP.refuseEntry _ _ _ ht
    · exact hP.custodyOrGrant hf _ _ ht
  unfold Machine.afterPin
  split
  · exact hP.refuseEntry _ _ _ h
  · split
    · exact room (hP.refuseEntry _ _ _ h)
    · exact room h

theorem kind_duress (r : ReaderNo) : Source.kind (Source.duress r) = .edge := by revert r; decide

theorem present (hP : Closed fires ranged boots P) (hf : fires) (r : ReaderNo) (cred : Nat) (digits : List Nat) (h : P s) :
    P (present r cred digits s) := by
  unfold Machine.present
  split
  · exact hP.refuseEntry _ _ _ h
  · split
    · exact hP.refuseEntry _ _ _ h
    · split
      · exact hP.refuseEntry _ _ _ h
      · unfold pinStage
        split
        · exact hP.afterPin hf _ _ h
        · exact hP.afterPin hf _ _ (hP.write _ _ _ _ (hP.edgeEvent _ (kind_duress r) h))
        · exact hP.badPin _ _ h
        · exact hP.refuseEntry _ _ _ h

theorem expireLockout (hP : Closed fires ranged boots P) (r : ReaderNo) (h : P s) : P (expireLockout r s) := by
  unfold Machine.expireLockout
  split
  · exact hP.readers _ _ h
  · exact h

end Closed
end

end Sys2Proof.Machine
end

section
/-! Stored settings stay in range: one lemma per table that a message changes (R194), and the tables that are kept in
order. -/

namespace Sys2Proof.Machine

/-! ## Tables in order (R94, R102) -/

section
variable {c x : Credential} {l : List Credential}

theorem mem_insertCredential (h : x ∈ insertCredential c l) : x = c ∨ x ∈ l := by
  induction l with
  | nil => exact .inl (List.mem_singleton.1 h)
  | cons y l ih =>
    unfold insertCredential at h
    split at h
    · exact List.mem_cons.1 h
    · split at h
      · exact (List.mem_cons.1 h).imp id (List.mem_cons_of_mem _)
      · rcases List.mem_cons.1 h with rfl | rest
        · exact .inr (List.mem_cons_self ..)
        · exact (ih rest).imp id (List.mem_cons_of_mem _)

theorem insertCredential_rising (h : l.Pairwise fun a b => a.number < b.number) :
    (insertCredential c l).Pairwise fun a b => a.number < b.number := by
  induction l with
  | nil => exact List.pairwise_singleton _ _
  | cons y l ih =>
    obtain ⟨above, rest⟩ := List.pairwise_cons.1 h
    unfold insertCredential
    split
    · next before =>
      refine List.pairwise_cons.2 ⟨fun z hz => ?_, h⟩
      rcases List.mem_cons.1 hz with rfl | hz
      · exact before
      · exact Nat.lt_trans before (above z hz)
    · split
      · next same => exact List.pairwise_cons.2 ⟨fun z hz => same ▸ above z hz, rest⟩
      · next notBefore other =>
        refine List.pairwise_cons.2 ⟨fun z hz => ?_, ih rest⟩
        rcases mem_insertCredential hz with rfl | hz
        · omega
        · exact above z hz

theorem insertCredential_length_le : (insertCredential c l).length ≤ l.length + 1 := by
  induction l with
  | nil => exact Nat.le_refl _
  | cons y l ih =>
    unfold insertCredential
    split
    · exact Nat.le_refl _
    · split
      · exact Nat.le_succ _
      · exact Nat.succ_le_succ ih

theorem insertCredential_length_of_listed (h : l.Pairwise fun a b => a.number < b.number)
    (listed : ∃ x ∈ l, x.number = c.number) : (insertCredential c l).length = l.length := by
  induction l with
  | nil => obtain ⟨_, hx, _⟩ := listed; cases hx
  | cons y l ih =>
    obtain ⟨above, rest⟩ := List.pairwise_cons.1 h
    obtain ⟨x, hx, same⟩ := listed
    unfold insertCredential
    split
    · next before =>
      rcases List.mem_cons.1 hx with rfl | hx
      · omega
      · have := above x hx
        omega
    · split
      · rfl
      · next other =>
        rcases List.mem_cons.1 hx with rfl | hx
        · exact absurd same.symm other
        · exact congrArg (· + 1) (ih rest ⟨x, hx, same⟩)

end

section
variable {d x : Nat} {l : List Nat}

theorem mem_insertDay : x ∈ insertDay d l ↔ x = d ∨ x ∈ l := by
  induction l with
  | nil => simp [insertDay]
  | cons y l ih =>
    unfold insertDay
    split
    · exact List.mem_cons
    · split
      · next same => simp [same]
      · rw [List.mem_cons, ih, List.mem_cons, or_left_comm]

theorem insertDay_rising (h : l.Pairwise (· < ·)) : (insertDay d l).Pairwise (· < ·) := by
  induction l with
  | nil => exact List.pairwise_singleton _ _
  | cons y l ih =>
    obtain ⟨above, rest⟩ := List.pairwise_cons.1 h
    unfold insertDay
    split
    · next before =>
      refine List.pairwise_cons.2 ⟨fun z hz => ?_, h⟩
      rcases List.mem_cons.1 hz with rfl | hz
      · exact before
      · exact Nat.lt_trans before (above z hz)
    · split
      · exact h
      · refine List.pairwise_cons.2 ⟨fun z hz => ?_, ih rest⟩
        rcases mem_insertDay.1 hz with rfl | hz
        · omega
        · exact above z hz

theorem insertDay_length_le : (insertDay d l).length ≤ l.length + 1 := by
  induction l with
  | nil => exact Nat.le_refl _
  | cons y l ih =>
    unfold insertDay
    split
    · exact Nat.le_refl _
    · split
      · exact Nat.le_succ _
      · exact Nat.succ_le_succ ih

end

/-- The days of a request, sorted and each once (R102). -/
def sortedDays (days : List Nat) : List Nat := days.foldl (fun l d => insertDay d l) []

/-- The days of a request put into a rising table. -/
theorem foldl_insertDay : ∀ (days : List Nat) {l : List Nat}, l.Pairwise (· < ·) →
    (days.foldl (fun l d => insertDay d l) l).Pairwise (· < ·) ∧
    (days.foldl (fun l d => insertDay d l) l).length ≤ l.length + days.length ∧
    ∀ x, x ∈ days.foldl (fun l d => insertDay d l) l ↔ x ∈ days ∨ x ∈ l
  | [], l, h => ⟨h, Nat.le_refl _, by simp⟩
  | d :: days, l, h => by
    obtain ⟨rising, length, mem⟩ := foldl_insertDay days (insertDay_rising (d := d) h)
    have longer : (insertDay d l).length ≤ l.length + 1 := insertDay_length_le
    refine ⟨rising, ?_, fun x => ?_⟩
    · rw [List.foldl_cons, List.length_cons]
      omega
    · rw [List.foldl_cons, mem, mem_insertDay, List.mem_cons, or_left_comm, or_assoc]

theorem sortedDays_spec (days : List Nat) : (sortedDays days).Pairwise (· < ·) ∧
    (sortedDays days).length ≤ days.length ∧ ∀ x, x ∈ sortedDays days ↔ x ∈ days := by
  obtain ⟨rising, length, mem⟩ := foldl_insertDay days List.Pairwise.nil
  refine ⟨rising, Nat.zero_add days.length ▸ length, fun x => (mem x).trans ?_⟩
  exact or_iff_left List.not_mem_nil

/-! ## One table changed -/

/-- An updated table has what the old one and the new entry have. -/
theorem forall_upd {α : Type} {n : Nat} {v : Vector α n} {i : Fin n} {f : α → α} {p : α → Prop} (h : ∀ j : Fin n, p v[j])
    (hf : p (f v[i])) (j : Fin n) : p (upd v i f)[j] := by
  rw [upd_get]
  split
  · exact hf
  · exact h j

/-- A zone's settings as R19, R48, R110 and R136 let them be. -/
abbrev ZoneInRange (v : ZoneSettings) : Prop :=
  (10 ≤ v.countdown ∧ v.countdown ≤ 60) ∧ v.manualDelay ≤ 30 ∧ v.doorHoldMax ≤ 120 ∧
  (30 ≤ v.occupancyHoldMax ∧ v.occupancyHoldMax ≤ 600) ∧ (1 ≤ v.firingTime ∧ v.firingTime ≤ 10) ∧
  v.soakConstant ≤ 65535 ∧ v.ventConstant ≤ 65535 ∧ v.doorConstant ≤ 65535 ∧
  (1000 ≤ v.holdThreshold ∧ v.holdThreshold ≤ 10000) ∧ v.reentryThreshold < v.holdThreshold ∧
  (6 ≤ v.minimumSoak ∧ v.minimumSoak ≤ 360) ∧ v.reserveFraction ≤ 10000 ∧
  (5 ≤ v.custodyWindow ∧ v.custodyWindow ≤ 60) ∧ (1 ≤ v.loneTime ∧ v.loneTime ≤ 120)

section
variable {s : State}

theorem SettingsInRange.inputs (h : SettingsInRange s) (i : InputNo) {v : InputSettings}
    (hv : v.debounce ≤ 63 ∧ v.validation ≤ 63) :
    SettingsInRange (s.modStore fun st => { st with inputs := upd st.inputs i fun _ => v }) := by
  obtain ⟨second, day, rising, many, creds, daysRising, daysMany, days, intervals, inputs, rest⟩ := h
  exact ⟨second, day, rising, many, creds, daysRising, daysMany, days, intervals,
    forall_upd (p := fun v : InputSettings => v.debounce ≤ 63 ∧ v.validation ≤ 63) inputs hv, rest⟩

theorem SettingsInRange.detectors (h : SettingsInRange s) (c : ChannelNo) {v : DetectorSettings}
    (hv : v.threshold ≤ 4095 ∧ v.hysteresis ≤ v.threshold) :
    SettingsInRange (s.modStore fun st => { st with detectors := upd st.detectors c fun _ => v }) := by
  obtain ⟨second, day, rising, many, creds, daysRising, daysMany, days, intervals, inputs, detectors, rest⟩ := h
  exact ⟨second, day, rising, many, creds, daysRising, daysMany, days, intervals, inputs,
    forall_upd (p := fun v : DetectorSettings => v.threshold ≤ 4095 ∧ v.hysteresis ≤ v.threshold) detectors hv, rest⟩

theorem SettingsInRange.zones (h : SettingsInRange s) (z : Zone) {v : ZoneSettings} (hv : ZoneInRange v) :
    SettingsInRange (s.modStore fun st => { st with zones := upd st.zones z fun _ => v }) := by
  obtain ⟨second, day, rising, many, creds, daysRising, daysMany, days, intervals, inputs, detectors, zones, rest⟩ := h
  exact ⟨second, day, rising, many, creds, daysRising, daysMany, days, intervals, inputs, detectors,
    forall_upd (p := ZoneInRange) zones hv, rest⟩

theorem SettingsInRange.doors (h : SettingsInRange s) (n : DoorNo) {v : DoorSettings} {slots : Nat}
    (hv : DoorInRange v) (hs : 1 ≤ slots ∧ slots ≤ 3) :
    SettingsInRange (s.modStore fun st => { st with doors := upd st.doors n fun _ => v, slots := slots }) := by
  obtain ⟨second, day, rising, many, creds, daysRising, daysMany, days, intervals, inputs, detectors, zones, doors, _,
    rest⟩ := h
  exact ⟨second, day, rising, many, creds, daysRising, daysMany, days, intervals, inputs, detectors, zones,
    forall_upd (p := DoorInRange) doors hv, hs, rest⟩

theorem SettingsInRange.outputs (h : SettingsInRange s) (o : OutputNo) {v : OutputSettings}
    (hv : v.sources.length ≤ 16 ∧ v.sources.Nodup) :
    SettingsInRange (s.modStore fun st => { st with outputs := upd st.outputs o fun _ => v }) := by
  obtain ⟨second, day, rising, many, creds, daysRising, daysMany, days, intervals, inputs, detectors, zones, doors, slots,
    outputs, rest⟩ := h
  exact ⟨second, day, rising, many, creds, daysRising, daysMany, days, intervals, inputs, detectors, zones, doors, slots,
    forall_upd (p := fun v : OutputSettings => v.sources.length ≤ 16 ∧ v.sources.Nodup) outputs hv, rest⟩

theorem SettingsInRange.sources (h : SettingsInRange s) {table : Vector SourceSettings 115}
    (ht : ∀ src : Source, table[src].priority ≤ 7 ∨ table[src] = s.store.sources[src]) :
    SettingsInRange (s.modStore fun st => { st with sources := table }) := by
  obtain ⟨second, day, rising, many, creds, daysRising, daysMany, days, intervals, inputs, detectors, zones, doors, slots,
    outputs, sources, rest⟩ := h
  exact ⟨second, day, rising, many, creds, daysRising, daysMany, days, intervals, inputs, detectors, zones, doors, slots,
    outputs, fun src => (ht src).elim id fun same => same ▸ sources src, rest⟩

theorem SettingsInRange.threshold (h : SettingsInRange s) {t : Nat} (ht : t ≤ 7) :
    SettingsInRange (s.modStore fun st => { st with threshold := t }) := by
  obtain ⟨second, day, rising, many, creds, daysRising, daysMany, days, intervals, inputs, detectors, zones, doors, slots,
    outputs, sources, _, rest⟩ := h
  exact ⟨second, day, rising, many, creds, daysRising, daysMany, days, intervals, inputs, detectors, zones, doors, slots,
    outputs, sources, ht, rest⟩

theorem SettingsInRange.linkSettings (h : SettingsInRange s) {t i : Nat} (ht : t ≤ 255) (hi : i ≤ 240) :
    SettingsInRange (s.modStore fun st => { st with receiveTimeout := t, testInterval := i }) := by
  obtain ⟨second, day, rising, many, creds, daysRising, daysMany, days, intervals, inputs, detectors, zones, doors, slots,
    outputs, sources, threshold, _, _⟩ := h
  exact ⟨second, day, rising, many, creds, daysRising, daysMany, days, intervals, inputs, detectors, zones, doors, slots,
    outputs, sources, threshold, ht, hi⟩

theorem SettingsInRange.credentials (h : SettingsInRange s) {table : List Credential}
    (rising : table.Pairwise fun a b => a.number < b.number) (many : table.length ≤ 4096)
    (each : ∀ c ∈ table, CredentialInRange c) :
    SettingsInRange (s.modStore fun st => { st with credentials := table }) := by
  obtain ⟨second, day, _, _, _, rest⟩ := h
  exact ⟨second, day, rising, many, each, rest⟩

theorem SettingsInRange.holidays (h : SettingsInRange s) {days : List Nat} (rising : days.Pairwise (· < ·))
    (many : days.length ≤ 32) (each : ∀ d ∈ days, 1 ≤ d ∧ d ≤ 65535) :
    SettingsInRange (s.modStore fun st => { st with holidays := days }) := by
  obtain ⟨second, day, credsRising, credsMany, creds, _, _, _, rest⟩ := h
  exact ⟨second, day, credsRising, credsMany, creds, rising, many, each, rest⟩

theorem SettingsInRange.schedules (h : SettingsInRange s) (k : ScheduleNo) {v : List Interval}
    (hv : v.length ≤ 6 ∧ ∀ i ∈ v, IntervalInRange i) :
    SettingsInRange (s.modStore fun st => { st with schedules := upd st.schedules k fun _ => v }) := by
  obtain ⟨second, day, rising, many, creds, daysRising, daysMany, days, intervals, rest⟩ := h
  exact ⟨second, day, rising, many, creds, daysRising, daysMany, days,
    forall_upd (p := fun v : List Interval => v.length ≤ 6 ∧ ∀ i ∈ v, IntervalInRange i) intervals hv, rest⟩

/-- What R93 accepts is a credential in range, if its fields fit their bytes. -/
theorem CredentialRequest.accept_inRange {r : CredentialRequest} {c : Credential}
    (accepted : CredentialRequest.accept r = some c) (number : r.number ≤ 4294967295) (holder : r.holder ≤ 65535)
    (digits : r.digits.length = 6) (dates : r.validFrom ≤ 65535 ∧ r.validUntil ≤ 65535) : CredentialInRange c := by
  unfold CredentialRequest.accept at accepted
  split at accepted
  · next role schedule _ _ =>
    dsimp only at accepted
    split at accepted
    · cases accepted
    · next ok =>
      obtain ⟨hasNumber, ok⟩ := not_or.1 ok
      obtain ⟨hasHolder, ok⟩ := not_or.1 ok
      obtain ⟨length, ok⟩ := not_or.1 ok
      obtain ⟨decimal, ordered⟩ := not_or.1 ok
      simp only [Bool.not_eq_false, List.all_eq_true, decide_eq_true_eq] at decimal
      cases accepted
      refine ⟨⟨Nat.pos_of_ne_zero hasNumber, number⟩, ⟨Nat.pos_of_ne_zero hasHolder, holder⟩, ?_, decimal, dates.1,
        dates.2, fun from_ until_ => ?_⟩
      · dsimp only
        rcases Classical.not_not.1 length with h | h | h | h
        · left; rw [h, List.take_zero]
        all_goals right; rw [List.length_take, digits, h]; decide
      · dsimp only at from_ until_ ⊢
        exact Nat.le_of_not_lt fun late => ordered ⟨from_, until_, late⟩
  · cases accepted

end

end Sys2Proof.Machine
end

section
/-! What every command keeps, concluded: the clock, the inputs, the messages, the link and POWER_ON; then every command. -/

namespace Sys2Proof.Machine

section
variable {fires ranged boots : Prop} {P : State → Prop} {s : State}

namespace Closed

/-! ## Periods and the clock -/

theorem closeZoneWindows (hP : Closed fires ranged boots P) (which : DoorNo → Bool) (z : Zone) (h : P s) :
    P (closeZoneWindows which z s) := by
  unfold Machine.closeZoneWindows
  refine forEach_closed (fun n s h => ?_) _ h
  split
  · exact hP.closeCustody _ h
  · exact h

theorem setPeriod (hP : Closed fires ranged boots P) (z : Zone) (p : Period) (h : P s) : P (s.setPeriod z p) :=
  hP.others _ _ _ _ _ _ _ _ _ h

theorem rePeriod (hP : Closed fires ranged boots P) (z : Zone) (h : P s) : P (rePeriod z s) := by
  unfold Machine.rePeriod
  dsimp only
  split
  · exact h
  · split
    · exact hP.reLone (hP.closeZoneWindows _ _ (hP.setPeriod _ _ h))
    · exact hP.reLone (hP.setPeriod _ _ h)

theorem rePeriods (hP : Closed fires ranged boots P) (h : P s) : P (rePeriods s) := by
  unfold Machine.rePeriods
  exact forEach_closed (fun _ _ h => hP.rePeriod _ h) _ h

theorem clockCondition (hP : Closed fires ranged boots P) (h : P s) : P (clockCondition s) := hP.setCondition _ _ h

/-- The clock goes on within the day, and no further than its last day (R98). -/
theorem advance_inRange {n : Nat} {c : Clock} (n_le : n ≤ 60) (h : c.second ≤ 86399 ∧ c.day ≤ 65535) :
    (Clock.advance n c).second ≤ 86399 ∧ (Clock.advance n c).day ≤ 65535 := by
  unfold Clock.advance
  split
  · exact ⟨by dsimp only; omega, h.2⟩
  · split
    · exact ⟨by dsimp only; omega, by dsimp only; omega⟩
    · exact ⟨Nat.zero_le _, Nat.zero_le _⟩

theorem advanceClock (hP : Closed fires ranged boots P) {n : Nat} (n_le : n ≤ 60) (h : P s) : P (advanceClock n s) := by
  unfold Machine.advanceClock
  split
  · have advanced := hP.clockCondition (hP.clock (advance_inRange n_le) h)
    dsimp only
    split
    · exact hP.rePeriods advanced
    · exact advanced
  · exact h

theorem clockSecond (hP : Closed fires ranged boots P) (h : P s) : P (clockSecond s) :=
  hP.advanceClock (by omega) (hP.passSeconds _ h)

theorem minuteBoundary (hP : Closed fires ranged boots P) (h : P s) : P (minuteBoundary s) := by
  unfold Machine.minuteBoundary
  split
  · exact hP.advanceClock (by unfold toBoundary; omega) (hP.passSeconds _ h)
  · exact h

theorem setTime (hP : Closed fires ranged boots P) (broadcast : Bool) (day second : Nat) (h : P s) :
    P (setTime broadcast day second s) := by
  unfold Machine.setTime
  split
  · split
    · exact hP.heardActivity h
    · exact hP.refuse _ _ h
  · next ok =>
    have applied : P (applyTime day second s) :=
      hP.clockCondition (hP.rePeriods (hP.write _ _ _ _ (hP.clock (fun _ => ⟨by dsimp only; omega, by dsimp only; omega⟩) h)))
    split
    · exact hP.heardActivity applied
    · exact hP.reply _ _ _ applied

theorem setSchedule (hP : Closed fires ranged boots P) (schedule : Nat) (intervals : List IntervalRequest) (h : P s) :
    P (setSchedule schedule intervals s) := by
  unfold Machine.setSchedule
  split
  · exact hP.refuse _ _ h
  · next k _ =>
    split
    · exact hP.refuse _ _ h
    · next ok =>
      obtain ⟨_, ok⟩ := not_or.1 ok
      obtain ⟨many, each⟩ := not_or.1 ok
      simp only [Bool.not_eq_false, List.all_eq_true, IntervalRequest.ok, decide_eq_true_eq] at each
      refine hP.reply _ _ _ (hP.rePeriods (hP.writeConfig _ _ (hP.store ⟨rfl, rfl, rfl, rfl, rfl, rfl, fun _ range => ?_⟩ h)))
      refine range.schedules k ⟨by simpa using Nat.le_of_not_lt many, fun i hi => ?_⟩
      obtain ⟨r, hr, rfl⟩ := List.mem_map.1 hi
      obtain ⟨days, _, _, stop, before⟩ := each r hr
      exact ⟨days, before, stop⟩

theorem setHolidays (hP : Closed fires ranged boots P) (days : List Nat) (h : P s) : P (setHolidays days s) := by
  unfold Machine.setHolidays
  split
  · exact hP.refuse _ _ h
  · next ok =>
    obtain ⟨many, each⟩ := not_or.1 ok
    simp only [Bool.not_eq_false, List.all_eq_true, decide_eq_true_eq] at each
    obtain ⟨rising, length, mem⟩ := sortedDays_spec days
    exact hP.reply _ _ _ (hP.rePeriods (hP.writeConfig _ _ (hP.store ⟨rfl, rfl, rfl, rfl, rfl, rfl, fun _ range =>
      range.holidays rising (Nat.le_trans length (Nat.le_of_not_lt many)) fun d hd => each d ((mem d).1 hd)⟩ h)))

theorem zoneMode (hP : Closed fires ranged boots P) (zone mode : Nat) (h : P s) : P (zoneMode zone mode s) := by
  unfold Machine.zoneMode
  split
  · next z m _ _ =>
    have moded : P (writeConfig (Zone.number z) (.mode m)
        (s.modStore fun st => { st with modes := upd st.modes z fun _ => m })) :=
      hP.writeConfig _ _ (hP.store ⟨rfl, rfl, rfl, rfl, rfl, rfl, fun _ range => range⟩ h)
    refine hP.reply _ _ _ ?_
    unfold applyMode
    dsimp only
    split
    · exact hP.rePeriod _ (hP.closeZoneWindows _ _ moded)
    · exact hP.rePeriod _ moded
  · exact hP.refuse _ _ h

/-! ## Credentials -/

theorem changeTable (hP : Closed fires ranged boots P) {table : List Credential} (number : Nat) (detail : Detail)
    (range : ranged → SettingsInRange s → SettingsInRange (s.modStore fun st => { st with credentials := table }))
    (h : P s) : P (changeTable table number detail s) := by
  unfold Machine.changeTable
  exact forEach_closed (fun _ _ h => hP.reEscort h) _
    (hP.write _ _ _ _ (hP.store ⟨rfl, rfl, rfl, rfl, rfl, rfl, range⟩ h))

/-- The record of an ENROL fits its fields (R200). -/
structure Fits (r : CredentialRequest) : Prop where
  number : r.number ≤ 4294967295
  holder : r.holder ≤ 65535
  digits : r.digits.length = 6
  dates : r.validFrom ≤ 65535 ∧ r.validUntil ≤ 65535

theorem lookup_isSome {number : Nat} (h : (lookup s number).isSome = true) :
    ∃ c ∈ s.store.credentials, c.number = number := by
  obtain ⟨c, hc⟩ := Option.isSome_iff_exists.1 h
  have found := List.find?_some (p := fun c : Credential => decide (c.number = number)) hc
  exact ⟨c, List.mem_of_find?_eq_some hc, of_decide_eq_true found⟩

theorem enrol (hP : Closed fires ranged boots P) {r : CredentialRequest} (fits : ranged → Fits r) (h : P s) :
    P (enrol r s) := by
  unfold Machine.enrol
  split
  · exact hP.refuse _ _ h
  · next c accepted =>
    -- the table with the record at its place, once its length is known to be in range
    have inserted (detail : Detail)
        (length : SettingsInRange s → (insertCredential c s.store.credentials).length ≤ 4096) :
        P (Machine.changeTable (insertCredential c s.store.credentials) c.number detail s) := by
      refine hP.changeTable _ _ (fun hr range => range.credentials ?_ (length range) fun x hx => ?_) h
      · obtain ⟨_, _, rising, _⟩ := range
        exact insertCredential_rising rising
      · obtain ⟨number, holder, digits, dates⟩ := fits hr
        obtain ⟨_, _, _, _, creds, _⟩ := range
        rcases mem_insertCredential hx with rfl | old
        · exact CredentialRequest.accept_inRange accepted number holder digits dates
        · exact creds x old
    split
    · next listed =>
      refine hP.reply _ _ _ (inserted _ fun ⟨_, _, rising, many, _⟩ => ?_)
      rw [insertCredential_length_of_listed rising (lookup_isSome listed)]
      exact many
    · split
      · next room =>
        exact hP.reply _ _ _ (inserted _ fun _ => Nat.le_trans insertCredential_length_le room)
      · exact hP.refuse _ _ h

theorem revoke (hP : Closed fires ranged boots P) (number : Nat) (h : P s) : P (revoke number s) := by
  unfold Machine.revoke
  split
  · exact hP.refuse _ _ h
  · split
    · refine hP.reply _ _ _ (hP.changeTable _ _ (fun _ range => ?_) h)
      obtain ⟨_, _, rising, many, creds, _⟩ := id range
      exact range.credentials (rising.filter _) (Nat.le_trans (List.length_filter_le _ _) many)
        fun c hc => creds c ((List.mem_filter.1 hc).1)
    · exact hP.refuse _ _ h

theorem lookupExact (hP : Closed fires ranged boots P) (number : Nat) (h : P s) : P (lookupExact number s) := by
  unfold Machine.lookupExact
  split
  · exact hP.refuse _ _ h
  · split
    · exact hP.reply _ _ _ h
    · exact hP.refuse _ _ h

theorem lookupNext (hP : Closed fires ranged boots P) (number : Nat) (h : P s) : P (lookupNext number s) := by
  unfold Machine.lookupNext
  split
  · exact hP.reply _ _ _ h
  · exact hP.refuse _ _ h

/-! ## Inputs -/

/-- What an input sets going begins a firing only where it is no staff input (R1, R132). -/
def MayDeliver (fires : Prop) (i : InputNo) : Prop := fires ∨ ∃ n, inputRole i = .staff n

theorem deliverActivation (hP : Closed fires ranged boots P) {i : InputNo} (may : MayDeliver fires i) (h : P s) :
    P (deliverActivation i s) := by
  unfold Machine.deliverActivation
  cases role : inputRole i with
  | staff n => exact hP.staffActivation _ h
  | contact n =>
    have hf : fires := may.elim id fun ⟨_, hn⟩ => nomatch role.symm.trans hn
    exact hP.contactOpened hf _ h
  | bolt n => exact hP.boltChange h
  | rex n =>
    have hf : fires := may.elim id fun ⟨_, hn⟩ => nomatch role.symm.trans hn
    exact hP.rexActivation hf _ h
  | manual z =>
    have hf : fires := may.elim id fun ⟨_, hn⟩ => nomatch role.symm.trans hn
    exact hP.manualActivation hf h
  | abort z => exact hP.abortActivation h

theorem deliverRelease (hP : Closed fires ranged boots P) {i : InputNo} (may : MayDeliver fires i) (h : P s) :
    P (deliverRelease i s) := by
  unfold Machine.deliverRelease
  cases role : inputRole i with
  | contact n =>
    have hf : fires := may.elim id fun ⟨_, hn⟩ => nomatch role.symm.trans hn
    exact hP.contactClosed hf _ h
  | abort z =>
    have hf : fires := may.elim id fun ⟨_, hn⟩ => nomatch role.symm.trans hn
    exact hP.abortRelease hf h
  | bolt n => exact hP.boltChange h
  | rex n => exact h
  | manual z => exact h
  | staff n => exact h

theorem modInput (hP : Closed fires ranged boots P) (i : InputNo) (f : InputState → InputState) (h : P s) :
    P (s.modInput i f) :=
  hP.others _ _ _ _ _ _ _ _ _ h

theorem setPhase (hP : Closed fires ranged boots P) (i : InputNo) (p : Phase) (h : P s) : P (setPhase i p s) :=
  hP.modInput _ _ h

theorem activate (hP : Closed fires ranged boots P) {i : InputNo} (may : MayDeliver fires i) (h : P s) : P (activate i s) :=
  hP.deliverActivation may (hP.setPhase _ _ h)

theorem deactivate (hP : Closed fires ranged boots P) {i : InputNo} (may : MayDeliver fires i) (h : P s) :
    P (deactivate i s) :=
  hP.deliverRelease may (hP.setPhase _ _ h)

theorem endDebounceOn (hP : Closed fires ranged boots P) {i : InputNo} (may : MayDeliver fires i) (h : P s) :
    P (endDebounceOn i s) := by
  unfold Machine.endDebounceOn enterValidate
  split
  · split
    · exact hP.activate may h
    · exact hP.setPhase _ _ h
  · exact hP.setPhase _ _ h

theorem judgeRaw (hP : Closed fires ranged boots P) {i : InputNo} (may : MayDeliver fires i) (h : P s) : P (judgeRaw i s) := by
  unfold Machine.judgeRaw
  split
  · unfold beginAttempt
    split
    · exact hP.endDebounceOn may h
    · exact hP.setPhase _ _ h
  · exact hP.setPhase _ _ h
  · unfold beginRelease
    split
    · exact hP.deactivate may h
    · exact hP.setPhase _ _ h
  · exact hP.setPhase _ _ h
  · exact h

theorem noteFirst (hP : Closed fires ranged boots P) (i : InputNo) (h : P s) : P (noteFirst i s) := by
  have noted : P (if Phase.atRest s.inputs[i].phase then s.modInput i fun v => { v with first := true } else s) := by
    split
    · exact hP.modInput _ _ h
    · exact h
  unfold Machine.noteFirst
  dsimp only
  split
  · exact hP.trySettle _ noted
  · exact noted

theorem rawChange (hP : Closed fires ranged boots P) (hf : fires) (i : InputNo) (level : Level) (h : P s) :
    P (rawChange i level s) := by
  unfold Machine.rawChange
  split
  · exact h
  · exact hP.noteFirst _ (hP.judgeRaw (.inl hf) (hP.modInput _ _ h))

theorem expireDebounce (hP : Closed fires ranged boots P) (hf : fires) (i : InputNo) (h : P s) : P (expireDebounce i s) := by
  unfold Machine.expireDebounce
  split
  · exact hP.noteFirst _ (hP.endDebounceOn (.inl hf) h)
  · exact hP.noteFirst _ (hP.deactivate (.inl hf) h)
  · exact h

theorem expireValidation (hP : Closed fires ranged boots P) (hf : fires) (i : InputNo) (h : P s) :
    P (expireValidation i s) := by
  unfold Machine.expireValidation
  split
  · exact hP.noteFirst _ (hP.activate (.inl hf) h)
  · exact h

theorem inputClear (hP : Closed fires ranged boots P) (hf : fires) (selection : Nat) (h : P s) :
    P (inputClear selection s) := by
  unfold Machine.inputClear
  split
  · exact hP.refuse _ _ h
  · refine hP.reply _ _ _ (forEach_closed (fun i s h => ?_) _ h)
    unfold clearInput
    split
    · exact hP.deactivate (.inl hf) h
    · exact h

/-! ## The SET_ messages -/

theorem setInput (hP : Closed fires ranged boots P) (hf : fires) (input level debounce validation : Nat) (h : P s) :
    P (setInput input level debounce validation s) := by
  unfold Machine.setInput
  split
  · next i l _ _ =>
    have assigned := hP.writeConfig i.val (.kind 0x10) (hP.store (st := { s.store with
      inputs := upd s.store.inputs i fun _ => ⟨l, min 63 debounce, min 63 validation⟩ }) ⟨rfl, rfl, rfl, rfl, rfl, rfl,
        fun _ range => range.inputs i ⟨Nat.min_le_left _ _, Nat.min_le_left _ _⟩⟩ h)
    exact hP.reply _ _ _ (hP.noteFirst _ (hP.judgeRaw (.inl hf) (hP.modInput _ _ assigned)))
  · exact hP.refuse _ _ h

theorem setDetector (hP : Closed fires ranged boots P) (hf : fires) (channel zone loop threshold hysteresis : Nat) (h : P s) :
    P (setDetector channel zone loop threshold hysteresis s) := by
  unfold Machine.setDetector
  split
  · next c z l _ _ _ =>
    dsimp only
    split
    · exact hP.refuse _ _ h
    · have assigned := hP.faultCondition c (hP.detector c (v := ⟨z, l, min 4095 threshold, min (min 4095 threshold) hysteresis⟩)
        (Nat.min_le_left _ _) (Nat.min_le_left _ _) h)
      refine hP.reply _ _ _ ?_
      unfold applyDetector
      dsimp only
      split
      · exact assigned
      · split
        · exact hP.redetectSetting hf _ assigned
        · exact hP.redetectSetting hf _ (hP.redetectSetting hf _ assigned)
  · exact hP.refuse _ _ h

theorem clamp_between {lo hi : Nat} (h : lo ≤ hi) (x : Nat) : lo ≤ clamp lo hi x ∧ clamp lo hi x ≤ hi := by
  unfold clamp
  split
  · exact ⟨Nat.le_refl _, h⟩
  · split
    · exact ⟨h, Nat.le_refl _⟩
    · omega

theorem clamp_le {lo hi : Nat} (h : lo ≤ hi) (x : Nat) : clamp lo hi x ≤ hi := (clamp_between h x).2

/-- What SET_ZONE stores is in range (R19, R48). -/
theorem zoneRequest_inRange {r : ZoneRequest} {v : ZoneSettings} (h : ZoneRequest.clamped r = some v) :
    ZoneInRange v := by
  unfold ZoneRequest.clamped at h
  split at h
  · cases h
    have hold := clamp_between (lo := 1000) (hi := 10000) (by omega) r.holdThreshold
    have reentry := clamp_between (lo := 0) (hi := clamp 1000 10000 r.holdThreshold - 1) (by omega) r.reentryThreshold
    exact ⟨clamp_between (by omega) _, clamp_le (Nat.zero_le 30) _, clamp_le (Nat.zero_le 120) _,
      clamp_between (by omega) _, clamp_between (by omega) _, clamp_le (Nat.zero_le 65535) _,
      clamp_le (Nat.zero_le 65535) _, clamp_le (Nat.zero_le 65535) _, hold, by dsimp only; omega,
      clamp_between (by omega) _, clamp_le (Nat.zero_le 10000) _, clamp_between (by omega) _,
      clamp_between (by omega) _⟩
  · cases h

theorem setZone (hP : Closed fires ranged boots P) (hf : fires) (r : ZoneRequest) (h : P s) : P (setZone r s) := by
  unfold Machine.setZone
  split
  · next z v _ clamped =>
    split
    · exact hP.refuse _ _ h
    · refine hP.reply _ _ _ ?_
      unfold applyZone
      dsimp only
      have assigned := hP.writeConfig (Zone.number z) (.kind 0x12) (hP.store (st := { s.store with
        zones := upd s.store.zones z fun _ => v }) ⟨rfl, rfl, rfl, rfl, rfl, rfl, fun _ range => range.zones z (zoneRequest_inRange clamped)⟩ h)
      have detected {b : Prop} [Decidable b] {t : State} (ht : P t) : P (if b then t else Machine.redetect z t) := by
        split
        · exact ht
        · exact hP.redetect hf _ ht
      have reserved {b : Prop} [Decidable b] {t : State} (ht : P t) : P (if b then t else Machine.reImpaired z t) := by
        split
        · exact ht
        · exact hP.reImpaired ht
      split
      · exact reserved (detected assigned)
      · exact hP.rePeriods (reserved (detected assigned))
  · exact hP.refuse _ _ h

/-- What SET_DOOR stores is in range (R66). -/
theorem doorRequest_inRange {r : DoorRequest} {v : DoorSettings} (h : DoorRequest.clamped r = some v) :
    DoorInRange v := by
  unfold DoorRequest.clamped at h
  split at h
  · split at h
    · cases h
    · next ok =>
      obtain ⟨sides, group⟩ := not_or.1 ok
      cases h
      refine ⟨clamp_between (by omega) _, clamp_between (by omega) _, clamp_between (by omega) _, Nat.le_of_not_lt group,
        fun same => ?_, fun bolt => if_pos bolt⟩
      exact Classical.byContradiction fun inside => sides ⟨same, inside⟩
  · cases h

/-- A door newly a bolt that is found withdrawn is secured by a THROW (R66). -/
theorem applyDoor_eq (n : DoorNo) (v : DoorSettings) (slots : Nat) (s : State) :
    applyDoor n v slots s = Machine.serve
      (if s.store.doors[n].lock ≠ .motorBolt ∧ v.lock = .motorBolt ∧
          (Machine.reseatDoor n v slots s).doors[n].state = .secured ∧
          boltThrown (Machine.reseatDoor n v slots s) n = false then
        Machine.joinThrow n (Machine.setDoorState n .securing (Machine.reseatDoor n v slots s))
      else Machine.reseatDoor n v slots s) := rfl

theorem setDoor (hP : Closed fires ranged boots P) (r : DoorRequest) (h : P s) : P (setDoor r s) := by
  unfold Machine.setDoor
  split
  · next n v _ clamped =>
    split
    · exact hP.refuse _ _ h
    · next ok =>
      obtain ⟨secured, ok⟩ := not_or.1 ok
      obtain ⟨free, motions⟩ := not_or.1 ok
      have reseated := hP.reseatDoor (s := s) ⟨Classical.byContradiction secured, Bool.eq_false_iff.2 free, Nat.le_of_not_lt motions,
        clamp_between (by omega) _, doorRequest_inRange clamped⟩ h
      refine hP.reply _ _ _ ?_
      rw [applyDoor_eq]
      refine hP.serve ?_
      split
      · exact hP.joinThrow (hP.setDoorState (by simp) reseated)
      · exact reseated
  · exact hP.refuse _ _ h

theorem setReader (hP : Closed fires ranged boots P) (reader door direction policy : Nat) (h : P s) :
    P (setReader reader door direction policy s) := by
  unfold Machine.setReader
  split
  · exact hP.reply _ _ _ (hP.writeConfig _ _ (hP.store ⟨rfl, rfl, rfl, rfl, rfl, rfl, fun _ range => range⟩ h))
  · exact hP.refuse _ _ h

theorem inputRole_staff (n : StaffNo) : inputRole (staffInput n) = .staff n := by revert n; decide

theorem changeMode (hP : Closed fires ranged boots P) (n : StaffNo) (mode : InputMode) (h : P s) :
    P (changeMode (staffInput n) mode s) := by
  unfold Machine.changeMode
  split
  · exact hP.judgeRaw (.inr ⟨n, inputRole_staff n⟩) (hP.setPhase _ _ h)
  · exact hP.setPhase _ _ h
  · exact hP.setPhase _ _ h
  · exact h

theorem setStaff (hP : Closed fires ranged boots P) (channel zone kind : Nat) (h : P s) : P (setStaff channel zone kind s) := by
  unfold Machine.setStaff
  split
  · next n z k _ _ _ =>
    have assigned := hP.writeConfig n.val (.staff k) (hP.store (st := { s.store with
      staff := upd s.store.staff n fun _ => ⟨z, k⟩ }) ⟨rfl, rfl, rfl, rfl, rfl, rfl, fun _ range => range⟩ h)
    refine hP.reply _ _ _ ?_
    unfold applyStaff
    dsimp only
    split
    · exact assigned
    · exact hP.changeMode _ _ assigned
  · exact hP.refuse _ _ h

/-- Different numbers name different sources. -/
theorem sourceNumbered_injective {a b : Nat} {src : Source} (ha : sourceNumbered a = some src)
    (hb : sourceNumbered b = some src) : a = b := by
  have number {x : Nat} (hx : sourceNumbered x = some src) : x = src.val + 1 := by
    unfold sourceNumbered item at hx
    split at hx
    · cases hx
    · split at hx
      · cases hx
        dsimp only
        omega
      · cases hx
  rw [number ha, number hb]

theorem mapM_sourceNumbered : ∀ {numbers : List Nat} {l : List Source}, numbers.mapM sourceNumbered = some l →
    l.length = numbers.length ∧ ∀ src ∈ l, ∃ x ∈ numbers, sourceNumbered x = some src
  | [], l, h => by
    cases h
    exact ⟨rfl, fun _ hs => absurd hs List.not_mem_nil⟩
  | x :: numbers, l, h => by
    rw [List.mapM_cons] at h
    obtain ⟨src, hsrc, h⟩ := Option.bind_eq_some_iff.1 h
    obtain ⟨rest, hrest, h⟩ := Option.bind_eq_some_iff.1 h
    cases h
    obtain ⟨length, named⟩ := mapM_sourceNumbered hrest
    refine ⟨congrArg (· + 1) length, fun y hy => ?_⟩
    rcases List.mem_cons.1 hy with rfl | hy
    · exact ⟨x, List.mem_cons_self .., hsrc⟩
    · obtain ⟨z, hz, hzy⟩ := named y hy
      exact ⟨z, List.mem_cons_of_mem _ hz, hzy⟩

theorem mapM_sourceNumbered_nodup : ∀ {numbers : List Nat} {l : List Source}, numbers.Nodup →
    numbers.mapM sourceNumbered = some l → l.Nodup
  | [], l, _, h => by cases h; exact List.nodup_nil
  | x :: numbers, l, nodup, h => by
    obtain ⟨fresh, nodup⟩ := List.nodup_cons.1 nodup
    rw [List.mapM_cons] at h
    obtain ⟨src, hsrc, h⟩ := Option.bind_eq_some_iff.1 h
    obtain ⟨rest, hrest, h⟩ := Option.bind_eq_some_iff.1 h
    cases h
    refine List.nodup_cons.2 ⟨fun mem => ?_, mapM_sourceNumbered_nodup nodup hrest⟩
    obtain ⟨y, hy, hysrc⟩ := (mapM_sourceNumbered hrest).2 src mem
    exact fresh (sourceNumbered_injective hsrc hysrc ▸ hy)

theorem setOutput (hP : Closed fires ranged boots P) (output : Nat) (sources : List Nat) (mode silenceable : Nat) (h : P s) :
    P (setOutput output sources mode silenceable s) := by
  unfold Machine.setOutput
  split
  · next o l m b _ listed _ _ =>
    unfold sourceList at listed
    split at listed
    · cases listed
    · next ok =>
      obtain ⟨many, nodup⟩ := not_or.1 ok
      have length := (mapM_sourceNumbered listed).1
      exact hP.reply _ _ _ (hP.writeConfig _ _ (hP.output o (v := ⟨l, m, b⟩) (by dsimp only; omega)
        (mapM_sourceNumbered_nodup (Classical.byContradiction nodup) listed) h))
  · exact hP.refuse _ _ h

theorem setSource (hP : Closed fires ranged boots P) (first last prio enable : Nat) (h : P s) :
    P (setSource first last prio enable s) := by
  unfold Machine.setSource
  split
  · next a b e _ _ _ =>
    dsimp only
    split
    · exact hP.refuse _ _ h
    · split
      · exact hP.refuse _ _ h
      · next free =>
        refine hP.reply _ _ _ (hP.liftSuppression _ (hP.writeConfig _ _ (hP.sources (fun src => ?_) (fun src hs => ?_) h)))
        · simp only [Fin.getElem_fin, Vector.getElem_ofFn]
          split
          · exact .inl (Nat.min_le_left _ _)
          · exact .inr rfl
        · simp only [Bool.not_eq_true, List.any_eq_false, Bool.and_eq_true, decide_eq_true_eq, not_and, Classical.not_not] at free
          simp only [Fin.getElem_fin, Vector.getElem_ofFn]
          split
          · next inRange => exact (free src hs inRange).symm
          · rfl
  · exact hP.refuse _ _ h

theorem setThreshold (hP : Closed fires ranged boots P) (threshold : Nat) (h : P s) : P (setThreshold threshold s) :=
  hP.reply _ _ _ (hP.liftSuppression _ (hP.writeConfig _ _ (hP.store ⟨rfl, rfl, rfl, rfl, rfl, rfl, fun _ range =>
    range.threshold (Nat.min_le_left _ _)⟩ h)))

theorem setLink (hP : Closed fires ranged boots P) {timeout : Nat} (interval : Nat) (fits : ranged → timeout ≤ 255) (h : P s) :
    P (setLink timeout interval s) := by
  have assigned := hP.writeConfig 0 (.kind 0x07) (hP.store (st := { s.store with
    receiveTimeout := timeout, testInterval := min 240 interval }) ⟨rfl, rfl, rfl, rfl, rfl, rfl,
      fun hr range => range.linkSettings (fits hr) (Nat.min_le_left _ _)⟩ h)
  refine hP.reply _ _ _ ?_
  unfold applyLink
  dsimp only
  split
  · exact assigned
  · exact hP.line rfl assigned

theorem getConfig (hP : Closed fires ranged boots P) (kind number : Nat) (h : P s) : P (getConfig kind number s) := by
  unfold Machine.getConfig
  split
  · exact hP.reply _ _ _ h
  · exact hP.refuse _ _ h

/-! ## Alarms, line supervision, journal -/

theorem claim (hP : Closed fires ranged boots P) (h : P s) : P (claim s) := by
  unfold Machine.claim
  split
  · exact hP.reply _ _ _ (hP.suppress _ h)
  · next claimable => exact hP.reply _ _ _ (hP.takeIntoService claimable h)

theorem complete (hP : Closed fires ranged boots P) (source : Nat) (h : P s) : P (complete source s) := by
  unfold Machine.complete
  split
  · exact hP.refuse _ _ h
  · split
    · exact hP.refuse _ _ h
    · exact hP.reply _ _ _ (hP.leaveService _ h)

theorem silences (hP : Closed fires ranged boots P) (selection : Nat) (h : P s) : P (Machine.silence selection s) := by
  unfold Machine.silence
  split
  · exact hP.refuse _ _ h
  · refine hP.reply _ _ _ (forEach_closed (fun o s h => ?_) _ h)
    unfold silenceOutput
    split
    · exact hP.writeConfig _ _ (hP.silence _ _ h)
    · exact h

theorem lineTest (hP : Closed fires ranged boots P) (selection : Nat) (h : P s) : P (lineTest selection s) := by
  unfold Machine.lineTest
  split
  · exact hP.refuse _ _ h
  · split
    · exact hP.refuse _ _ h
    · exact hP.reply _ _ _ (hP.startRun _ _ h)

theorem lineClear (hP : Closed fires ranged boots P) (selection : Nat) (h : P s) : P (lineClear selection s) := by
  have cleared := forEach_closed (P := P) (fun c _ h => hP.changeFlags c (fun _ => ⟨false, false⟩) h)
    (allCircuits.filter fun c => selected selection c) h
  unfold Machine.lineClear
  split
  · exact hP.refuse _ _ h
  · dsimp only
    split
    · exact hP.reply _ _ _ (hP.writeConfig _ _ (hP.changeSupply _ cleared))
    · exact hP.reply _ _ _ (hP.writeConfig _ _ cleared)

theorem lineStatus (hP : Closed fires ranged boots P) (h : P s) : P (lineStatus s) :=
  hP.others (s.free + 1) _ _ _ _ _ _ _ _ (hP.reply 0x61 .ok (.lineReport (lineReport s)) h)

theorem endStep (hP : Closed fires ranged boots P) (check : CheckInProgress) (faulty : Bool) (h : P s) :
    P (endStep check faulty s) := by
  unfold Machine.endStep
  split
  · next now => exact hP.takeResult _ now h
  · exact h

theorem expirePeriodic (hP : Closed fires ranged boots P) (h : P s) : P (expirePeriodic s) := by
  have restarted := hP.line (l := { s.line with periodic := periodicStart s.store.testInterval }) rfl h
  unfold Machine.expirePeriodic
  split
  · dsimp only
    split
    · exact restarted
    · exact hP.startRun _ _ restarted
  · exact h

theorem arriveCurrent (hP : Closed fires ranged boots P) (c : Fin 8) (h : P s) : P (arriveCurrent c s) := by
  unfold Machine.arriveCurrent
  split
  · exact hP.line rfl h
  · exact h

theorem journalRead (hP : Closed fires ranged boots P) (start count : Nat) (h : P s) : P (journalRead start count s) := by
  unfold Machine.journalRead
  split
  · exact hP.refuse _ _ h
  · exact hP.reply _ _ _ h

theorem journalAck (hP : Closed fires ranged boots P) (sequence : Nat) (h : P s) : P (journalAck sequence s) := by
  unfold Machine.journalAck
  split
  · exact hP.refuse _ _ h
  · next known => exact hP.reply _ _ _ (hP.acknowledge (Nat.le_of_not_lt known) h)

/-! ## The doors' messages -/

theorem doorFree (hP : Closed fires ranged boots P) (door : Nat) (h : P s) : P (doorFree door s) := by
  unfold Machine.doorFree
  split
  · exact hP.refuse _ _ h
  · next n _ =>
    split
    · exact hP.refuse _ _ h
    · have freed := hP.timers (n := n) (f := fun d => { d with free := true }) (fun _ => ⟨rfl, rfl, rfl, rfl⟩)
        (hP.writeConfig n.val (.door .free) h)
      refine hP.reply _ _ _ ?_
      split
      · exact freed
      · exact hP.overrideStart freed

theorem doorAuto (hP : Closed fires ranged boots P) (door : Nat) (h : P s) : P (doorAuto door s) := by
  unfold Machine.doorAuto
  split
  · exact hP.refuse _ _ h
  · next n _ =>
    split
    · exact hP.refuse _ _ h
    · have bound := hP.timers (n := n) (f := fun d => { d with free := false }) (fun _ => ⟨rfl, rfl, rfl, rfl⟩)
        (hP.writeConfig n.val (.door .auto) h)
      refine hP.reply _ _ _ ?_
      split
      · exact hP.overrideEnd bound
      · exact bound

/-- A record leaves what a mark goes by as it is. -/
theorem mayMark_signals {t : State} {n : DoorNo} (same : Signals s t) (may : MayMark s n) : MayMark t n := by
  rwa [MayMark, overridden, interlockClear, same.doors, same.store, show (fun m => decide (m = n ∨
    s.store.doors[m].group ≠ s.store.doors[n].group) || (decide (s.doors[m].state = .secured) && !overridden t m)) =
    fun m => decide (m = n ∨ s.store.doors[m].group ≠ s.store.doors[n].group) ||
      (decide (s.doors[m].state = .secured) && !overridden s m) by simp only [overridden, same.doors]]

theorem doorPulse (hP : Closed fires ranged boots P) (door : Nat) (h : P s) : P (doorPulse door s) := by
  unfold Machine.doorPulse
  split
  · exact hP.refuse _ _ h
  · split
    · exact hP.refuse _ _ h
    · split
      · exact hP.refuse _ _ (hP.write _ _ _ _ h)
      · next clear =>
        refine hP.reply _ _ _ (hP.releaseRequest _ (mayMark_signals (write_signals _ _ _ _ _) (.inr (.inl ?_)))
          (fun _ _ hp => absurd hp List.not_mem_nil) (hP.writeConfig _ _ h))
        simpa using clear

theorem doorRetry (hP : Closed fires ranged boots P) (door : Nat) (h : P s) : P (doorRetry door s) := by
  unfold Machine.doorRetry
  split
  · exact hP.refuse _ _ h
  · next n _ =>
    split
    · exact hP.refuse _ _ h
    · next ok =>
      have fault : s.doors[n].state = .boltFault := Classical.byContradiction (not_or.1 ok).1
      have written := write_signals .config n.val 0 (.door .retry) s
      refine hP.reply _ _ _ (hP.serve ?_)
      split
      · next under =>
        refine hP.joinWithdraw _ (mayMark_signals written (.inl under)) ?_ (hP.writeConfig _ _ h)
        rw [writeConfig, written.doors, fault]
        simp
      · exact hP.joinThrow (hP.writeConfig _ _ h)

/-! ## RESTART -/

theorem restart (hP : Closed fires ranged boots P) (h : P s) : P (restart s) := by
  have alarm {t : State} (ht : P t) : P (restartAlarm t) := by
    unfold restartAlarm
    exact hP.suppress _ (forEach_closed (fun _ _ h => hP.reLevel _ h) _ (forEach_closed (fun _ _ h => hP.leaveService _ h) _ ht))
  unfold Machine.restart
  dsimp only
  refine hP.reply _ _ _ (forEach_closed (fun _ _ h => hP.closeCustody _ h) _ (hP.write _ _ _ _ ?_))
  exact hP.others _ _ _ _ _ _ _ _ _ (forEach_closed (fun _ _ h => hP.silence _ _ h) _ (alarm (hP.link _ h)))

/-! ## The link -/

theorem whoCalls (hP : Closed fires ranged boots P) (h : P s) : P (whoCalls s) := hP.link _ h

theorem slotAnswer (hP : Closed fires ranged boots P) (h : P s) : P (slotAnswer s) := by
  unfold Machine.slotAnswer
  split
  · exact h
  · dsimp only
    split
    · exact hP.link _ h
    · split
      · exact hP.suppress _ (hP.link _ (hP.link _ h))
      · exact hP.link _ h

theorem sendReply (hP : Closed fires ranged boots P) (h : P s) : P (sendReply s) := by
  unfold Machine.sendReply
  split
  · exact h
  · exact hP.link _ (hP.heardActivity h)

theorem expireReceive (hP : Closed fires ranged boots P) (h : P s) : P (expireReceive s) := by
  unfold Machine.expireReceive
  split
  · exact hP.link _ h
  · exact h

theorem echo (hP : Closed fires ranged boots P) (payload : List Byte) (h : P s) : P (echo payload s) := by
  unfold Machine.echo
  split
  · exact hP.refuse _ _ h
  · split
    · exact hP.refuse _ _ h
    · exact hP.reply _ _ _ h

theorem whoCallsAddressed (hP : Closed fires ranged boots P) (h : P s) : P (whoCallsAddressed s) := hP.reply _ _ _ h

theorem peek (hP : Closed fires ranged boots P) (h : P s) : P (peek s) := hP.reply _ _ _ (hP.suppress _ h)

theorem doorStatus (hP : Closed fires ranged boots P) (door : Nat) (h : P s) : P (doorStatus door s) := by
  unfold Machine.doorStatus
  split
  · exact hP.refuse _ _ h
  · exact hP.reply _ _ _ h

theorem zoneStatus (hP : Closed fires ranged boots P) (zone : Nat) (h : P s) : P (zoneStatus zone s) := by
  unfold Machine.zoneStatus
  split
  · exact hP.refuse _ _ h
  · exact hP.reply _ _ _ h

theorem occupancyRead (hP : Closed fires ranged boots P) (zone : Nat) (h : P s) : P (occupancyRead zone s) := by
  unfold Machine.occupancyRead
  split
  · exact hP.refuse _ _ h
  · exact hP.reply _ _ _ h

/-- Every message's meaning keeps the property. -/
def Meant (P : State → Prop) (f : State → State) : Prop := ∀ s, P s → P (f s)

theorem emptyMessage_meant (hP : Closed fires ranged boots P) {kind : Nat} {f : State → State}
    (h : emptyMessage kind = some f) : Meant P f := by
  unfold emptyMessage at h
  split at h
  case h_1 => exact Option.some.inj h ▸ fun s h => hP.reply _ _ _ h
  case h_2 => exact Option.some.inj h ▸ fun s h => hP.restart h
  case h_3 => exact Option.some.inj h ▸ fun s h => hP.whoCallsAddressed h
  case h_4 => exact Option.some.inj h ▸ fun s h => hP.reply _ _ _ h
  case h_5 => exact Option.some.inj h ▸ fun s h => hP.reply _ _ _ h
  case h_6 => exact Option.some.inj h ▸ fun s h => hP.reply _ _ _ h
  case h_7 => exact Option.some.inj h ▸ fun s h => hP.claim h
  case h_8 => exact Option.some.inj h ▸ fun s h => hP.peek h
  case h_9 => exact Option.some.inj h ▸ fun s h => hP.reply _ _ _ h
  case h_10 => exact Option.some.inj h ▸ fun s h => hP.lineStatus h
  case h_11 => cases h

theorem settingsMessage_meant (hP : Closed fires ranged boots P) (hf : fires) {kind : Nat} {p : List Nat}
    {f : State → State} (bytes : ∀ b ∈ p, b < 256) (h : settingsMessage kind p = some f) : Meant P f := by
  unfold settingsMessage at h
  split at h
  case h_1 => cases h; exact fun s h => hP.setTime _ _ _ h
  case h_2 t i =>
    cases h
    exact fun s h => hP.setLink _ (fun _ => Nat.le_of_lt_succ (bytes t (by simp))) h
  case h_3 => cases h; exact fun s h => hP.setInput hf _ _ _ _ h
  case h_4 => cases h; exact fun s h => hP.setDetector hf _ _ _ _ _ h
  case h_5 => obtain ⟨r, _, rfl⟩ := Option.map_eq_some_iff.1 h; exact fun s h => hP.setZone hf _ h
  case h_6 => obtain ⟨r, _, rfl⟩ := Option.map_eq_some_iff.1 h; exact fun s h => hP.setDoor _ h
  case h_7 => cases h; exact fun s h => hP.setReader _ _ _ _ h
  case h_8 => cases h; exact fun s h => hP.setStaff _ _ _ h
  case h_9 =>
    unfold readOutput at h
    split at h
    · split at h
      · cases h; exact fun s h => hP.setOutput _ _ _ _ h
      · cases h
    · cases h
  case h_10 => cases h; exact fun s h => hP.setSource _ _ _ _ h
  case h_11 => cases h; exact fun s h => hP.setThreshold _ h
  case h_12 => obtain ⟨r, _, rfl⟩ := Option.map_eq_some_iff.1 h; exact fun s h => hP.setSchedule _ _ h
  case h_13 => obtain ⟨r, _, rfl⟩ := Option.map_eq_some_iff.1 h; exact fun s h => hP.setHolidays _ h
  case h_14 => cases h; exact fun s h => hP.getConfig _ _ h
  case h_15 => cases h

/-- A number of two or four bytes. -/
theorem number_two {a b : Nat} (ha : a < 256) (hb : b < 256) : number [a, b] ≤ 65535 := by
  simp only [number, List.foldl]
  omega

theorem number_four {a b c d : Nat} (ha : a < 256) (hb : b < 256) (hc : c < 256) (hd : d < 256) :
    number [a, b, c, d] ≤ 4294967295 := by
  simp only [number, List.foldl]
  omega

theorem readCredential_fits {p : List Nat} {r : CredentialRequest} (bytes : ∀ b ∈ p, b < 256)
    (h : readCredential p = some r) : Fits r := by
  unfold readCredential at h
  split at h
  · cases h
    exact ⟨number_four (bytes _ (by simp)) (bytes _ (by simp)) (bytes _ (by simp)) (bytes _ (by simp)),
      number_two (bytes _ (by simp)) (bytes _ (by simp)), rfl,
      number_two (bytes _ (by simp)) (bytes _ (by simp)), number_two (bytes _ (by simp)) (bytes _ (by simp))⟩
  · cases h

theorem doorCommand (hP : Closed fires ranged boots P) (door action : Nat) (h : P s) : P (doorCommand door action s) := by
  unfold Machine.doorCommand
  split
  · exact hP.doorFree _ h
  · exact hP.doorAuto _ h
  · exact hP.doorPulse _ h
  · exact hP.doorRetry _ h
  · exact hP.refuse _ _ h

theorem lookupMessage (hP : Closed fires ranged boots P) (credential mode : Nat) (h : P s) :
    P (lookupMessage credential mode s) := by
  unfold Machine.lookupMessage
  split
  · exact hP.lookupExact _ h
  · exact hP.lookupNext _ h
  · exact hP.refuse _ _ h

theorem orderMessage_meant (hP : Closed fires ranged boots P) (hf : fires) {kind : Nat} {p : List Nat}
    {f : State → State} (bytes : ∀ b ∈ p, b < 256) (h : orderMessage kind p = some f) : Meant P f := by
  unfold orderMessage at h
  split at h
  case h_1 =>
    obtain ⟨r, read, rfl⟩ := Option.map_eq_some_iff.1 h
    exact fun s h => hP.enrol (fun _ => readCredential_fits bytes read) h
  all_goals cases h
  case h_2 => exact fun s h => hP.revoke _ h
  case h_3 => exact fun s h => hP.lookupMessage _ _ h
  case h_4 => exact fun s h => hP.zoneMode _ _ h
  case h_5 => exact fun s h => hP.zoneDisable _ h
  case h_6 => exact fun s h => hP.zoneEnable hf _ h
  case h_7 => exact fun s h => hP.vent _ _ h
  case h_8 => exact fun s h => hP.reserveRelease hf _ h
  case h_9 => exact fun s h => hP.zoneReset _ h
  case h_10 => exact fun s h => hP.zoneStatus _ h
  case h_11 => exact fun s h => hP.detectorRead _ _ h
  case h_12 => exact fun s h => hP.doorCommand _ _ h
  case h_13 => exact fun s h => hP.doorStatus _ h
  case h_14 => exact fun s h => hP.occupancyRead _ h
  case h_15 => exact fun s h => hP.occupancyConfirm hf _ h
  case h_16 => exact fun s h => hP.occupancyRemove hf _ _ h
  case h_17 => exact fun s h => hP.inputClear hf _ h
  case h_18 => exact fun s h => hP.complete _ h
  case h_19 => exact fun s h => hP.silences _ h
  case h_20 => exact fun s h => hP.lineTest _ h
  case h_21 => exact fun s h => hP.lineClear _ h
  case h_22 => exact fun s h => hP.journalRead _ _ h
  case h_23 => exact fun s h => hP.journalAck _ h

theorem message_meant (hP : Closed fires ranged boots P) (hf : fires) {kind : Nat} {payload : List Byte} {f : State → State}
    (h : message kind payload = some f) : Meant P f := by
  have bytes : ∀ b ∈ payload.map fun b => b.toNat, b < 256 := fun b hb => by
    obtain ⟨x, _, rfl⟩ := List.mem_map.1 hb
    exact x.isLt
  unfold message at h
  dsimp only at h
  split at h
  · cases h
    exact fun s h => hP.echo _ h
  · split at h
    · split at h
      · exact hP.emptyMessage_meant h
      · cases h
    · split at h
      · exact hP.settingsMessage_meant hf bytes h
      · exact hP.orderMessage_meant hf bytes h

theorem accept (hP : Closed fires ranged boots P) (hf : fires) (addr kind : Byte) (payload : List Byte) (h : P s) :
    P (accept addr kind payload s) := by
  unfold Machine.accept
  split
  · unfold broadcast
    split
    · exact hP.whoCalls h
    · exact hP.setTime _ _ _ h
    · exact h
  · split
    · unfold request
      split
      · split
        · next meaning => exact hP.message_meant hf meaning _ h
        · exact hP.refuse _ _ h
      · exact hP.refuse _ _ h
    · exact h

theorem receiveByte (hP : Closed fires ranged boots P) (hf : fires) (b : Byte) (h : P s) : P (receiveByte b s) := by
  have framed (f : Framer) {t : State} (ht : P t) : P (setFramer f t) := hP.link _ ht
  unfold Machine.receiveByte
  dsimp only
  split
  · exact framed _ (hP.link _ (hP.heardActivity h))
  · unfold takeLength
    split
    · exact framed _ (hP.heardActivity h)
    · exact framed _ (hP.heardActivity h)
  · unfold takeBody
    dsimp only
    split
    · have waiting := framed .waiting (hP.heardActivity h)
      unfold completeFrame
      dsimp only
      split
      · exact waiting
      · split
        · exact waiting
        · split
          · exact hP.accept hf _ _ _ waiting
          · exact waiting
    · exact framed _ (hP.heardActivity h)

/-! ## POWER_ON -/

theorem powerOn (hP : Closed fires ranged boots P) (hf : fires) (hb : boots) (straps : BitVec 5)
    (levels : BitVec 48) (h : P s) : P (powerOn straps levels s) := by
  unfold Machine.powerOn
  refine forEach_closed (fun i s h => hP.noteFirst i (hP.judgeRaw (.inl hf) h)) _ (hP.clockCondition ?_)
  refine forEach_closed (fun z s h => hP.reOccupant (hP.reImpaired (hP.setPeriod _ _ h))) _ ?_
  exact forEach_closed (fun z s h => hP.write _ _ _ _ h) _ (hP.write _ _ _ _ (hP.coldStart _ _ hb h))

/-! ## Every command -/

/-- The commands that may begin or end a firing: at their end the firing gate follows (R38). -/
def Finishing : Instr → Bool
  | .powerOn .. | .rawLevelChange .. | .debounceExpiry .. | .validationExpiry .. | .detectorSample ..
  | .countdownIntervalExpiry .. | .doorHoldExpiry .. | .occupancyHoldExpiry .. | .firingTimerExpiry ..
  | .estimatorStep .. | .presentation .. | .receiveByte .. | .zoneEnable .. | .reserveRelease .. | .occupancyConfirm ..
  | .occupancyRemove .. | .inputClear .. | .setInput .. | .setDetector .. | .setZone .. => true
  | _ => false

theorem fits_of_wellFormed {r : CredentialRequest} (h : r.wellFormed = true) : Fits r := by
  simp only [CredentialRequest.wellFormed, fits, Bool.and_eq_true, decide_eq_true_eq, beq_iff_eq] at h
  obtain ⟨⟨⟨⟨⟨⟨⟨⟨number, holder⟩, _⟩, _⟩, _⟩, digits⟩, _⟩, validFrom⟩, validUntil⟩ := h
  exact ⟨by omega, by omega, digits, by omega, by omega⟩

/-- A finishing command ends with the gate that follows a state which keeps the property. -/
theorem exec_finishing (hP : Closed fires ranged boots P) (hf : fires) {c : Instr}
    (hb : (∃ straps levels, c = .powerOn straps levels) → boots) (kind : Finishing c = true) (h : P s) :
    ∃ t, exec c s = finish t ∧ P t := by
  cases c <;> try cases kind
  case powerOn => exact ⟨_, rfl, hP.powerOn hf (hb ⟨_, _, rfl⟩) _ _ h⟩
  case rawLevelChange => exact ⟨_, rfl, hP.rawChange hf _ _ h⟩
  case debounceExpiry => exact ⟨_, rfl, hP.expireDebounce hf _ h⟩
  case validationExpiry => exact ⟨_, rfl, hP.expireValidation hf _ h⟩
  case detectorSample => exact ⟨_, rfl, hP.sample hf _ _ h⟩
  case countdownIntervalExpiry => exact ⟨_, rfl, hP.expireInterval hf h⟩
  case doorHoldExpiry => exact ⟨_, rfl, hP.expireDoorHold hf h⟩
  case occupancyHoldExpiry => exact ⟨_, rfl, hP.expireOccupancyHold hf h⟩
  case firingTimerExpiry => exact ⟨_, rfl, hP.expireFiring hf h⟩
  case estimatorStep => exact ⟨_, rfl, hP.estimateStep hf h⟩
  case presentation => exact ⟨_, rfl, hP.present hf _ _ _ h⟩
  case receiveByte => exact ⟨_, rfl, hP.receiveByte hf _ h⟩
  case zoneEnable => exact ⟨_, rfl, hP.zoneEnable hf _ h⟩
  case reserveRelease => exact ⟨_, rfl, hP.reserveRelease hf _ h⟩
  case occupancyConfirm => exact ⟨_, rfl, hP.occupancyConfirm hf _ h⟩
  case occupancyRemove => exact ⟨_, rfl, hP.occupancyRemove hf _ _ h⟩
  case inputClear => exact ⟨_, rfl, hP.inputClear hf _ h⟩
  case setInput => exact ⟨_, rfl, hP.setInput hf _ _ _ _ h⟩
  case setDetector => exact ⟨_, rfl, hP.setDetector hf _ _ _ _ _ h⟩
  case setZone => exact ⟨_, rfl, hP.setZone hf _ h⟩

/-- Any other command keeps the property without a firing. -/
theorem exec_quiet (hP : Closed fires ranged boots P) {c : Instr} (kind : Finishing c = false)
    (fits : ranged → c.wellFormed = true) (h : P s) : ∃ t, exec c s = .next t ∧ P t := by
  cases c <;> try cases kind
  case unlockWindowExpiry => exact ⟨_, rfl, hP.expireWindow h⟩
  case heldTimerExpiry => exact ⟨_, rfl, hP.expireHeld h⟩
  case boltTimeExpiry => exact ⟨_, rfl, hP.expireBolt _ h⟩
  case lockoutExpiry => exact ⟨_, rfl, hP.expireLockout _ h⟩
  case custodyWindowExpiry => exact ⟨_, rfl, hP.closeCustody _ h⟩
  case minuteBoundary => exact ⟨_, rfl, hP.minuteBoundary h⟩
  case loneTimerExpiry => exact ⟨_, rfl, hP.expireLone h⟩
  case testStepEnd => exact ⟨_, rfl, hP.endStep _ _ h⟩
  case periodicTimerExpiry => exact ⟨_, rfl, hP.expirePeriodic h⟩
  case currentArrival => exact ⟨_, rfl, hP.arriveCurrent _ h⟩
  case receiveTimeoutExpiry => exact ⟨_, rfl, hP.expireReceive h⟩
  case sendReply => exact ⟨_, rfl, hP.sendReply h⟩
  case slotAnswer => exact ⟨_, rfl, hP.slotAnswer h⟩
  case unknownKind => exact ⟨_, rfl, hP.refuse _ _ h⟩
  case echo => exact ⟨_, rfl, hP.echo _ h⟩
  case identify => exact ⟨_, rfl, hP.reply _ _ _ h⟩
  case restart => exact ⟨_, rfl, hP.restart h⟩
  case whoCalls => exact ⟨_, rfl, hP.whoCalls h⟩
  case whoCallsAddressed => exact ⟨_, rfl, hP.whoCallsAddressed h⟩
  case setTime => exact ⟨_, rfl, hP.setTime _ _ _ h⟩
  case getTime => exact ⟨_, rfl, hP.reply _ _ _ h⟩
  case setLink timeout interval =>
    refine ⟨_, rfl, hP.setLink _ (fun hr => ?_) h⟩
    have := fits hr
    simp only [Instr.wellFormed, Sys2Proof.fits, Bool.and_eq_true, decide_eq_true_eq] at this
    omega
  case setDoor => exact ⟨_, rfl, hP.setDoor _ h⟩
  case setReader => exact ⟨_, rfl, hP.setReader _ _ _ _ h⟩
  case setStaff => exact ⟨_, rfl, hP.setStaff _ _ _ h⟩
  case setOutput => exact ⟨_, rfl, hP.setOutput _ _ _ _ h⟩
  case setSource => exact ⟨_, rfl, hP.setSource _ _ _ _ h⟩
  case setThreshold => exact ⟨_, rfl, hP.setThreshold _ h⟩
  case setSchedule => exact ⟨_, rfl, hP.setSchedule _ _ h⟩
  case setHolidays => exact ⟨_, rfl, hP.setHolidays _ h⟩
  case getConfig => exact ⟨_, rfl, hP.getConfig _ _ h⟩
  case enrol r => exact ⟨_, rfl, hP.enrol (fun hr => fits_of_wellFormed (fits hr)) h⟩
  case revoke => exact ⟨_, rfl, hP.revoke _ h⟩
  case lookupExact => exact ⟨_, rfl, hP.lookupExact _ h⟩
  case lookupNext => exact ⟨_, rfl, hP.lookupNext _ h⟩
  case credentialCount => exact ⟨_, rfl, hP.reply _ _ _ h⟩
  case zoneMode => exact ⟨_, rfl, hP.zoneMode _ _ h⟩
  case zoneDisable => exact ⟨_, rfl, hP.zoneDisable _ h⟩
  case vent => exact ⟨_, rfl, hP.vent _ _ h⟩
  case zoneReset => exact ⟨_, rfl, hP.zoneReset _ h⟩
  case zoneStatus => exact ⟨_, rfl, hP.zoneStatus _ h⟩
  case detectorRead => exact ⟨_, rfl, hP.detectorRead _ _ h⟩
  case doorCommandFree => exact ⟨_, rfl, hP.doorFree _ h⟩
  case doorCommandAuto => exact ⟨_, rfl, hP.doorAuto _ h⟩
  case doorCommandPulse => exact ⟨_, rfl, hP.doorPulse _ h⟩
  case doorCommandRetry => exact ⟨_, rfl, hP.doorRetry _ h⟩
  case doorStatus => exact ⟨_, rfl, hP.doorStatus _ h⟩
  case occupancyRead => exact ⟨_, rfl, hP.occupancyRead _ h⟩
  case inputStatus => exact ⟨_, rfl, hP.reply _ _ _ h⟩
  case claim => exact ⟨_, rfl, hP.claim h⟩
  case peek => exact ⟨_, rfl, hP.peek h⟩
  case complete => exact ⟨_, rfl, hP.complete _ h⟩
  case alarmStatus => exact ⟨_, rfl, hP.reply _ _ _ h⟩
  case silence => exact ⟨_, rfl, hP.silences _ h⟩
  case lineTest => exact ⟨_, rfl, hP.lineTest _ h⟩
  case lineStatus => exact ⟨_, rfl, hP.lineStatus h⟩
  case lineClear => exact ⟨_, rfl, hP.lineClear _ h⟩
  case journalRead => exact ⟨_, rfl, hP.journalRead _ _ h⟩
  case journalAck => exact ⟨_, rfl, hP.journalAck _ h⟩
  case clockSecond => exact ⟨_, rfl, hP.clockSecond h⟩

/-- Every command answers a next state, which keeps the property. -/
theorem exec (hP : Closed fires ranged boots P) (hf : fires) (c : Instr)
    (hb : (∃ straps levels, c = .powerOn straps levels) → boots) (fits : ranged → c.wellFormed = true) (h : P s) :
    ∃ t, Machine.exec c s = .next t ∧ P t := by
  cases kind : Finishing c with
  | true =>
    obtain ⟨t, ht, keeps⟩ := hP.exec_finishing hf hb kind h
    exact ⟨_, ht, hP.settleGate hf keeps⟩
  | false => exact hP.exec_quiet kind fits h

/-- So does every step, if the queue of waiting commands is nothing to the property. -/
theorem step (hP : Closed True False True P) (queue : ∀ {s : State} (q : List Instr), P s → P { s with pending := q })
    (h : P s) : ∃ t, Machine.step s = .next t ∧ P t := by
  unfold Machine.step
  split
  · exact ⟨s, rfl, h⟩
  · exact hP.exec trivial _ (fun _ => trivial) (fun no => no.elim) (queue _ h)

end Closed
end

end Sys2Proof.Machine
end

section
/-! How a property comes to be `Closed`: what it needs to answer where it ignores the signals (journal, alarm, outputs,
line), where it ignores all else, and how the composed changes follow from their parts. -/

namespace Sys2Proof.Machine

section
variable {P : State → Prop} {s t : State}

/-! ## Properties that ignore the signals -/

/-- What records and sources leave as it is, as one equation. -/
theorem Signals.eq (h : Signals s t) :
    t = { s with journal := t.journal, alarm := t.alarm, outputs := t.outputs, line := t.line } := by
  cases s
  cases t
  obtain ⟨pending, free, store, inputs, channels, detection, release, estimate, doors, queue, motions, gateClosed, clock,
    period, readers, custody, occupancy, loneTimer, loneOutrun, link, _, _, _, _⟩ := h
  dsimp only at *
  subst_vars
  rfl

/-- The property says nothing of the journal, of alarms, outputs and line supervision. -/
def Unsignalled (P : State → Prop) : Prop :=
  ∀ (s : State) (journal : Journal) (alarm : Alarm) (outputs : Vector Output 8) (line : Line), P s →
    P { s with journal := journal, alarm := alarm, outputs := outputs, line := line }

namespace Unsignalled

theorem of_signals (hP : Unsignalled P) (same : Signals s t) (h : P s) : P t := by
  rw [same.eq]
  exact hP _ _ _ _ _ h

theorem signals (hP : Unsignalled P) : SignalClosed P := .of_signals fun _ _ => hP.of_signals

theorem line (hP : Unsignalled P) (f : Line → Line) (h : P s) : P (s.modLine f) := hP s s.journal s.alarm s.outputs _ h

theorem run (hP : Unsignalled P) (f : RunRecord → RunRecord) (h : P s) : P (s.modRun f) :=
  hP s s.journal s.alarm s.outputs { s.line with run := f s.line.run } h

theorem alarm (hP : Unsignalled P) (f : Alarm → Alarm) (h : P s) : P (s.modAlarm f) :=
  hP s s.journal (f s.alarm) s.outputs s.line h

theorem abortRun (hP : Unsignalled P) (h : P s) : P (abortRun s) := by
  unfold Machine.abortRun
  split
  · exact hP.signals.write _ _ _ _ (hP.run _ (hP.run _ h))
  · exact h

theorem takeIntoService (hP : Unsignalled P) (src : Source) (h : P s) : P (takeIntoService src s) :=
  hP.of_signals (takeIntoService_affects src s).toSignals (hP.alarm _ h)

theorem leaveService (hP : Unsignalled P) (src : Source) (h : P s) : P (leaveService src s) :=
  hP.of_signals (leaveService_affects src s).toSignals (hP.alarm _ h)

theorem reLevel (hP : Unsignalled P) (src : Source) (h : P s) : P (reLevel src s) := by
  unfold Machine.reLevel
  split
  · exact hP.of_signals (setPending_signals _ _ _) h
  · exact h

theorem silence (hP : Unsignalled P) (o : OutputNo) (f : Output → Output) (h : P s) :
    P (refreshOutput o (s.modOutput o f)) :=
  hP.of_signals (refreshOutput_signals _ _) (hP s s.journal s.alarm (upd s.outputs o f) s.line h)

theorem acknowledge (hP : Unsignalled P) (sequence : Nat) (h : P s) : P (acknowledge sequence s) := by
  unfold Machine.acknowledge
  split
  · exact hP.signals.setCondition Source.backlog _
      (hP s { s.journal with boundary := sequence } s.alarm s.outputs s.line h)
  · exact h

theorem endRun (hP : Unsignalled P) (h : P s) : P (endRun s) := hP.of_signals (endRun_affects [] s).toSignals h

theorem passTurn (hP : Unsignalled P) (l : List CircuitNo) (h : P s) : P (passTurn l s) :=
  hP.of_signals (passTurn_affects [] l s).toSignals h

theorem changeFlags (hP : Unsignalled P) (c : CircuitNo) (f : CircuitFlags → CircuitFlags) (h : P s) :
    P (changeFlags c f s) := by
  have flagged := hP.signals.setCondition (Source.circuit c)
    (circuitFlagged (s.modLine fun l => { l with flags := upd l.flags c f }) c)
    (hP.line (fun l => { l with flags := upd l.flags c f }) h)
  unfold Machine.changeFlags
  dsimp only
  split
  · exact hP.signals.setCondition _ _ flagged
  · exact flagged

theorem takeResult (hP : Unsignalled P) (check : CheckInProgress) (faulty : Bool) (h : P s) :
    P (takeResult check faulty s) := by
  unfold Machine.takeResult
  split
  · unfold endSupplyStep
    split
    · refine hP.endRun (hP.run _ (hP.signals.write _ _ _ _ ?_))
      unfold changeSupply
      exact forEach_closed (fun _ _ h => hP.signals.setCondition _ _ h) _
        (hP.signals.setCondition _ _ (hP.line _ (hP.run _ h)))
    · exact hP.passTurn _ (hP.run _ h)
  · unfold endShortStep
    split
    · exact hP.passTurn _ (hP.signals.write _ _ _ _ (hP.changeFlags _ _ (hP.run _ h)))
    · exact hP.run _ h
  · unfold endOpenStep
    split
    · exact hP.passTurn _ (hP.signals.write _ _ _ _ (hP.changeFlags _ _ (hP.run _ h)))
    · exact hP.passTurn _ (hP.run _ h)

end Unsignalled

/-! ## Properties that ignore all but the signals -/

/-- The property says nothing of doors, zones, inputs, people and time, nor of the store but the outputs' and the sources'
settings. -/
def OnlySignals (P : State → Prop) : Prop :=
  ∀ {s t : State}, t.journal = s.journal → t.alarm = s.alarm → t.outputs = s.outputs → t.line.run = s.line.run →
    t.store.outputs = s.store.outputs → t.store.sources = s.store.sources → P s → P t

/-! ## Composed changes -/

theorem OverrideClosed.enterStateAs (hP : OverrideClosed P)
    (release : ∀ {s : State} {z : Zone} {st : ReleaseState}, P s → P (s.modRelease z fun r =>
      { r with state := st, interval := false, doorHold := none, occupancyHold := none }))
    (store : ∀ {s : State} {z : Zone}, P s → P (storeRecord z s)) (d : Detail) (z : Zone) (st : ReleaseState) (h : P s) :
    P (enterStateAs d z st s) := by
  have entered := release (z := z) (st := st) h
  unfold Machine.enterStateAs
  refine hP.egressMove _ _ _ (hP.setCondition _ _ (hP.setCondition _ _ (hP.write _ _ _ _ ?_)))
  split
  · exact store entered
  · exact entered

/-- The override's flag may change freely where the property ignores the flags. -/
theorem DoorClosed.override (hP : DoorClosed P)
    (egress : ∀ {s : State} {n : DoorNo} {b : Bool}, P s → P (s.modDoor n fun d => { d with egress := b })) :
    OverrideClosed P where
  toDoorClosed := hP
  egress _ h := egress h

/-- What is left of reseating a door once its settings are stored. -/
theorem OverrideClosed.reseatDoor (hP : OverrideClosed P)
    (custody : ∀ {s : State} {n : DoorNo} {w : Option CustodyWindow}, P s → P (s.setCustody n w)) {n : DoorNo}
    {v : DoorSettings} {slots : Nat}
    (h : P (s.modStore fun st => { st with doors := upd st.doors n fun _ => v, slots := slots })) :
    P (reseatDoor n v slots s) := by
  have written := hP.writeConfig n.val (.kind 0x13) h
  have closed : P (closeCustody n (writeConfig n.val (.kind 0x13)
      (s.modStore fun st => { st with doors := upd st.doors n fun _ => v, slots := slots }))) := by
    unfold closeCustody
    split
    · exact hP.write _ _ _ _ (custody written)
    · exact written
  unfold Machine.reseatDoor
  dsimp only
  have seated : P (if s.store.doors[n].custody = v.custody ∧ s.store.doors[n].inside = v.inside then
      writeConfig n.val (.kind 0x13)
        (s.modStore fun st => { st with doors := upd st.doors n fun _ => v, slots := slots })
      else closeCustody n (writeConfig n.val (.kind 0x13)
        (s.modStore fun st => { st with doors := upd st.doors n fun _ => v, slots := slots }))) := by
    split
    · exact written
    · exact closed
  split
  · exact hP.egressDoor seated
  · exact seated

/-! ### A pass, where the property ignores the occupancy lists -/

namespace ZoneClosed

variable {fires : Prop} (hP : ZoneClosed fires P) (hf : fires)
  (free : ∀ {s : State} {z : Zone} {f : Occupancy → Occupancy}, P s → P (s.modOccupancy z f))
include hP hf free

theorem removeEntries_of_free (cred : Nat) (l : List Zone) (h : P s) : P (forEach l (removeEntry cred) s) := by
  refine forEach_closed (fun z s h => ?_) l h
  unfold removeEntry
  split
  · exact hP.occupancyChanged hf (free h)
  · exact h

theorem setCertain_of_free (z : Zone) (b : Bool) (h : P s) : P (setCertain z b s) := by
  unfold setCertain
  split
  · exact h
  · exact hP.occupancyChanged hf (free h)

theorem joinList_of_free (full : Bool) (cred : Nat) (z : Zone) (h : P s) : P (joinList full cred z s) := by
  unfold joinList
  split
  · exact hP.setCertain_of_free hf free _ _ h
  · exact hP.occupancyChanged hf (free h)

theorem applyEntry_of_free (full : Bool) (n : DoorNo) (cred : Nat) (h : P s) : P (applyEntry full n cred s) := by
  unfold applyEntry
  split
  · exact hP.removeEntries_of_free hf free _ _ h
  · have removed (l : List Zone) {t : State} (ht : P t) := hP.removeEntries_of_free hf free cred l ht
    dsimp only
    split
    · exact removed _ h
    · exact hP.joinList_of_free hf free _ _ _ (removed _ h)

theorem leaveZones_of_free (n : DoorNo) (cred : Nat) (h : P s) : P (leaveZones n cred s) := by
  unfold leaveZones
  split
  · exact hP.removeEntries_of_free hf free _ _ h
  · have removed {t : State} (ht : P t) := hP.removeEntries_of_free hf free cred allZones ht
    split
    · dsimp only
      split
      · exact hP.setCertain_of_free hf free _ _ (removed h)
      · exact removed h
    · exact removed (hP.write _ _ _ _ h)

theorem applyExit_of_free (full : Bool) (n : DoorNo) (cred : Nat) (h : P s) : P (applyExit full n cred s) := by
  unfold applyExit
  dsimp only
  split
  · exact hP.leaveZones_of_free hf free _ _ h
  · exact hP.joinList_of_free hf free _ _ _ (hP.leaveZones_of_free hf free _ _ h)

theorem applyPass_of_free (n : DoorNo) (p : Pass) (h : P s) : P (applyPass n p s) := by
  unfold applyPass
  dsimp only
  split
  · exact hP.applyEntry_of_free hf free _ _ _ (hP.write _ _ _ _ h)
  · exact hP.applyExit_of_free hf free _ _ _ (hP.write _ _ _ _ h)

end ZoneClosed
end

/-! ## `Closed` in two halves -/

/-- The kinds of change beside the signals: the answers that a property gives which ignores those. -/
structure PartsClosed (fires ranged boots : Prop) (P : State → Prop) : Prop extends DoorClosed P where
  release : ∀ {s : State} {z : Zone} {r : Release}, r.state = s.release[z].state → r.firing = s.release[z].firing →
    P s → P (s.modRelease z fun _ => r)
  firing : fires → ∀ {s : State} {z : Zone} {r : Release}, r.state = s.release[z].state →
    P s → P (s.modRelease z fun _ => r)
  record : ∀ {s : State} {z : Zone} {r : ZoneRecord}, r.state = s.store.records[z].state →
    P s → P (s.modRecord z fun _ => r)
  storeRecord : ∀ {s : State} {z : Zone}, ReleaseState.isStored s.release[z].state = true → P s → P (storeRecord z s)
  enterStateAs : ∀ {s : State} (d : Detail) (z : Zone) (st : ReleaseState), Told d st →
    (ReleaseState.isQuiet s.release[z].state = true ∨ ReleaseState.isEgress s.release[z].state = true ∨
      ReleaseState.isEgress st = false) → P s → P (enterStateAs d z st s)
  estimate : ∀ {s : State} {z : Zone} {e : Estimate}, e.level ≤ s.estimate[z].level ∨ e.level ≤ 10000 →
    e.steps ≤ s.estimate[z].steps ∨ e.steps ≤ 65535 → P s → P (s.modEstimate z fun _ => e)
  others : ∀ {s : State} (free : Nat) (inputs : Vector InputState 48) (detection : Vector Detection 4)
    (period : Vector Period 4) (readers : Vector Reader 8) (custody : Vector (Option CustodyWindow) 8)
    (loneTimer : Vector (Option Nat) 4) (loneOutrun : Vector Bool 4) (link : Link), P s →
    P { s with free := free, inputs := inputs, detection := detection, period := period, readers := readers
               custody := custody, loneTimer := loneTimer, loneOutrun := loneOutrun, link := link }
  gate : fires → ∀ {s : State} {b : Bool}, P s → P { s with gateClosed := b }
  channel : ∀ {s : State} {c : ChannelNo} {ch : Channel},
    (ChannelSound s.store.detectors[c].zone s.channels[c] → ChannelSound s.store.detectors[c].zone ch) →
    P s → P (s.modChannel c fun _ => ch)
  fewerListed : ∀ {s : State} {z : Zone} {o : Occupancy}, o.list.Sublist s.occupancy[z].list →
    P s → P (s.modOccupancy z fun _ => o)
  applyPass : fires → ∀ {s : State} (n : DoorNo) (p : Pass), P s → P (applyPass n p s)
  output : ∀ {s : State} (o : OutputNo) {v : OutputSettings}, v.sources.length ≤ 16 → v.sources.Nodup → P s →
    P (s.modStore fun st => { st with outputs := upd st.outputs o fun _ => v })
  passSeconds : ∀ {s : State} (n : Nat), P s → P (passSeconds n s)
  coldStart : ∀ {s : State} (straps : BitVec 5) (levels : BitVec 48), boots → P s → P (coldStart straps levels s)
  store : ∀ {s : State} {st : Store}, StoreMove ranged s st → P s → P { s with store := st }
  detector : ∀ {s : State} (c : ChannelNo) {v : DetectorSettings}, v.threshold ≤ 4095 → v.hysteresis ≤ v.threshold →
    P s → P (assignDetector c v s)
  sources : ∀ {s : State} {table : Vector SourceSettings 115},
    (∀ src : Source, table[src].priority ≤ 7 ∨ table[src] = s.store.sources[src]) →
    P s → P (s.modStore fun st => { st with sources := table })
  reseatDoor : ∀ {s : State} {n : DoorNo} {v : DoorSettings} {slots : Nat}, Reseatable s n v slots → P s →
    P (reseatDoor n v slots s)
  clock : ∀ {s : State} {c : Clock},
    (s.clock.second ≤ 86399 ∧ s.clock.day ≤ 65535 → c.second ≤ 86399 ∧ c.day ≤ 65535) → P s → P (s.setClock c)

theorem Unsignalled.closed {fires ranged boots : Prop} {P : State → Prop} (hP : Unsignalled P)
    (parts : PartsClosed fires ranged boots P) : Closed fires ranged boots P where
  toDoorClosed := parts.toDoorClosed
  line _ h := hP.line _ h
  abortRun h := hP.abortRun h
  release := parts.release
  firing := parts.firing
  record := parts.record
  storeRecord := parts.storeRecord
  enterStateAs := parts.enterStateAs
  estimate := parts.estimate
  others := parts.others
  gate := parts.gate
  channel := parts.channel
  fewerListed := parts.fewerListed
  applyPass := parts.applyPass
  takeIntoService _ h := hP.takeIntoService _ h
  leaveService _ h := hP.leaveService _ h
  reLevel _ h := hP.reLevel _ h
  suppress _ h := hP.alarm _ h
  silence _ _ h := hP.silence _ _ h
  output _ _ many nodup h := hP.silence _ _ (parts.output _ many nodup h)
  acknowledge _ h := hP.acknowledge _ h
  startRun _ _ h := hP.run _ h
  takeResult _ _ h := hP.takeResult _ _ h
  passSeconds := parts.passSeconds
  coldStart := parts.coldStart
  store := parts.store
  detector := parts.detector
  sources range _ h := parts.sources range h
  reseatDoor := parts.reseatDoor
  clock := parts.clock

/-- The kinds of change of the signals: the answers that a property gives which ignores all else. -/
structure SignalsClosed (P : State → Prop) : Prop extends SignalClosed P where
  abortRun : ∀ {s : State}, P s → P (abortRun s)
  takeIntoService : ∀ {s : State} {src : Source}, claimable s = some src → P s → P (takeIntoService src s)
  leaveService : ∀ {s : State} (src : Source), P s → P (leaveService src s)
  reLevel : ∀ {s : State} (src : Source), P s → P (reLevel src s)
  suppress : ∀ {s : State} (b : Bool), P s → P (s.modAlarm fun a => { a with suppressed := b })
  silence : ∀ {s : State} (o : OutputNo) (b : Bool), P s →
    P (refreshOutput o (s.modOutput o fun v => { v with silenced := b }))
  output : ∀ {s : State} (o : OutputNo) {v : OutputSettings}, P s → P (assignOutput o v s)
  acknowledge : ∀ {s : State} {sequence : Nat}, sequence ≤ s.journal.newest → P s → P (acknowledge sequence s)
  startRun : ∀ {s : State} (kind : RunKind) (set : CircuitNo → Bool), P s → P (startRun kind set s)
  takeResult : ∀ {s : State} {check : CheckInProgress} (faulty : Bool), checkInProgress s = some check → P s →
    P (takeResult check faulty s)
  coldStart : ∀ {s : State} (straps : BitVec 5) (levels : BitVec 48), P s → P (coldStart straps levels s)
  sources : ∀ {s : State} {table : Vector SourceSettings 115},
    (∀ src : Source, table[src].priority ≤ 7 ∨ table[src] = s.store.sources[src]) →
    (∀ src ∈ s.alarm.inService, table[src].priority = priority s src) → P s →
    P (s.modStore fun st => { st with sources := table })

theorem OnlySignals.doors {P : State → Prop} (hP : OnlySignals P) (signals : SignalClosed P) : OverrideClosed P where
  toSignalClosed := signals
  door _ := hP rfl rfl rfl rfl rfl rfl
  queue _ _ := hP rfl rfl rfl rfl rfl rfl
  stop _ := hP rfl rfl rfl rfl rfl rfl
  start _ _ _ := hP rfl rfl rfl rfl rfl rfl
  egress _ := hP rfl rfl rfl rfl rfl rfl

theorem OnlySignals.zones {P : State → Prop} (hP : OnlySignals P) (signals : SignalsClosed P) : ZoneClosed True P where
  toDoorClosed := (hP.doors signals.toSignalClosed).toDoorClosed
  line run := hP rfl rfl rfl run rfl rfl
  abortRun := signals.abortRun
  release _ _ := hP rfl rfl rfl rfl rfl rfl
  firing _ _ _ _ _ := hP rfl rfl rfl rfl rfl rfl
  record _ := hP rfl rfl rfl rfl rfl rfl
  storeRecord _ := hP rfl rfl rfl rfl rfl rfl
  enterStateAs d z st _ _ :=
    (hP.doors signals.toSignalClosed).enterStateAs (hP rfl rfl rfl rfl rfl rfl) (hP rfl rfl rfl rfl rfl rfl) d z st
  estimate _ _ := hP rfl rfl rfl rfl rfl rfl
  others _ _ _ _ _ _ _ _ _ := hP rfl rfl rfl rfl rfl rfl

theorem OnlySignals.closed {P : State → Prop} (hP : OnlySignals P) (signals : SignalsClosed P) : Closed True False True P where
  toZoneClosed := hP.zones signals
  gate _ _ _ := hP rfl rfl rfl rfl rfl rfl
  channel _ := hP rfl rfl rfl rfl rfl rfl
  fewerListed _ := hP rfl rfl rfl rfl rfl rfl
  applyPass hf _ n p h := (hP.zones signals).applyPass_of_free hf (hP rfl rfl rfl rfl rfl rfl) n p h
  takeIntoService := signals.takeIntoService
  leaveService := signals.leaveService
  reLevel := signals.reLevel
  suppress := signals.suppress
  silence := signals.silence
  output o _ _ _ h := signals.output o h
  acknowledge := signals.acknowledge
  startRun := signals.startRun
  takeResult := signals.takeResult
  passSeconds _ := hP rfl rfl rfl rfl rfl rfl
  coldStart straps levels _ h := signals.coldStart straps levels h
  store move := hP rfl rfl rfl rfl move.outputs move.sources
  detector {s} _ _ _ _ h := hP (s := writeConfig _ _ _) rfl rfl rfl rfl rfl rfl
    (signals.writeConfig _ _ (hP (s := s) rfl rfl rfl rfl rfl rfl h))
  sources := signals.sources
  reseatDoor {s} _ _ _ _ h := (hP.doors signals.toSignalClosed).reseatDoor (hP rfl rfl rfl rfl rfl rfl)
    (hP (s := s) rfl rfl rfl rfl rfl rfl h)
  clock _ := hP rfl rfl rfl rfl rfl rfl

/-- A property that says nothing of the queue of waiting commands. -/
theorem OnlySignals.queue {P : State → Prop} (hP : OnlySignals P) {s : State} (q : List Instr) :
    P s → P { s with pending := q } :=
  hP rfl rfl rfl rfl rfl rfl

end Sys2Proof.Machine
end

section
/-! The estimates stay bounded (R49), and no command touches the queue of waiting commands. -/

namespace Sys2Proof.Machine

/-! ## Estimates -/

theorem estimateBounded_unsignalled : Unsignalled EstimateBounded := fun _ _ _ _ _ h => h

theorem estimateBounded_doors : OverrideClosed EstimateBounded where
  toSignalClosed := estimateBounded_unsignalled.signals
  door _ h := h
  queue _ _ h := h
  stop _ h := h
  start _ _ _ h := h
  egress _ h := h

/-- A zone's estimate within its bounds. -/
abbrev InBounds (e : Estimate) : Prop := e.level ≤ 10000 ∧ e.steps ≤ 65535

theorem restoredEstimate_inBounds (st : ReleaseState) : InBounds (restoredEstimate st) := by
  unfold restoredEstimate
  split
  · exact ⟨Nat.le_refl _, Nat.zero_le _⟩
  · exact ⟨Nat.zero_le _, Nat.zero_le _⟩

theorem estimateBounded_zones : ZoneClosed True EstimateBounded where
  toDoorClosed := estimateBounded_doors.toDoorClosed
  line _ h := h
  abortRun := estimateBounded_unsignalled.abortRun
  release _ _ h := h
  firing _ _ _ _ _ h := h
  record _ h := h
  storeRecord _ h := h
  enterStateAs d z st _ _ := estimateBounded_doors.enterStateAs (fun h => h) (fun h => h) d z st
  estimate level steps h := fun z => forall_upd (p := InBounds) h
    ⟨level.elim (fun low => Nat.le_trans low (h _).1) id, steps.elim (fun low => Nat.le_trans low (h _).2) id⟩ z
  others _ _ _ _ _ _ _ _ _ h := h

theorem estimateBounded_closed : Closed True False True EstimateBounded :=
  estimateBounded_unsignalled.closed
    { estimateBounded_zones with
      gate := fun _ _ _ h => h
      channel := fun _ h => h
      fewerListed := fun _ h => h
      applyPass := fun hf _ n p h => estimateBounded_zones.applyPass_of_free hf (fun h => h) n p h
      output := fun _ _ _ _ h => h
      passSeconds := fun {s} _ h z => by
        simp only [passSeconds, Fin.getElem_fin, Vector.getElem_map]
        exact h z
      coldStart := fun {s} straps levels _ h z => by
        simp only [coldStart, Fin.getElem_fin, Vector.getElem_map]
        exact restoredEstimate_inBounds _
      store := fun _ h => h
      detector := fun _ _ _ _ h => estimateBounded_doors.writeConfig _ _ (s := State.modStore _ _) h
      sources := fun _ h => h
      reseatDoor := fun _ h => estimateBounded_doors.reseatDoor (fun h => h) h
      clock := fun _ h => h }

/-! ## The queue of waiting commands -/

/-- The commands that wait. -/
def Waiting (q : List Instr) (s : State) : Prop := s.pending = q

section
variable (q : List Instr)

theorem waiting_unsignalled : Unsignalled (Waiting q) := fun _ _ _ _ _ h => h

theorem waiting_doors : OverrideClosed (Waiting q) where
  toSignalClosed := (waiting_unsignalled q).signals
  door _ h := h
  queue _ _ h := h
  stop _ h := h
  start _ _ _ h := h
  egress _ h := h

theorem waiting_zones : ZoneClosed True (Waiting q) where
  toDoorClosed := (waiting_doors q).toDoorClosed
  line _ h := h
  abortRun := (waiting_unsignalled q).abortRun
  release _ _ h := h
  firing _ _ _ _ _ h := h
  record _ h := h
  storeRecord _ h := h
  enterStateAs d z st _ _ := (waiting_doors q).enterStateAs (fun h => h) (fun h => h) d z st
  estimate _ _ h := h
  others _ _ _ _ _ _ _ _ _ h := h

theorem waiting_closed : Closed True False True (Waiting q) :=
  (waiting_unsignalled q).closed
    { waiting_zones q with
      gate := fun _ _ _ h => h
      channel := fun _ h => h
      fewerListed := fun _ h => h
      applyPass := fun hf _ n p h => (waiting_zones q).applyPass_of_free hf (fun h => h) n p h
      output := fun _ _ _ _ h => h
      passSeconds := fun _ h => h
      coldStart := fun _ _ _ h => h
      store := fun _ h => h
      detector := fun _ _ _ _ h => (waiting_doors q).writeConfig _ _ (s := State.modStore _ _) h
      sources := fun _ h => h
      reseatDoor := fun _ h => (waiting_doors q).reseatDoor (fun h => h) h
      clock := fun _ h => h }

end

end Sys2Proof.Machine

namespace Sys2Proof.Proofs

open Sys2Proof.Machine

/-- Settles O20: of all changes only those of the estimate matter, and they keep to its bounds. -/
theorem stepKeepsEstimateBounded : Obligations.StepKeepsEstimateBounded := fun _ =>
  estimateBounded_closed.step fun _ h => h

/-- Settles O2: no kind of change touches the queue, and `exec` answers a next state for every command. -/
theorem everyCommandCompletes : Obligations.EveryCommandCompletes := by
  refine ⟨fun s c => (waiting_closed s.pending).exec trivial c (fun _ => trivial) (fun no => no.elim) rfl, fun s empty => ?_⟩
  unfold step
  rw [empty]

/-- Settles O1: the step takes the front of the queue by its definition. -/
theorem stepRunsFrontCommand : Obligations.StepRunsFrontCommand := fun _ _ => rfl

end Sys2Proof.Proofs
end

section
/-! The journal stays contiguous (R182, R183) and the in-service list rises strictly in priority (R152). -/

namespace Sys2Proof.Machine

/-! ## Properties that every single change of a flag keeps -/

/-- Every change that delivering a source makes beside the line supervisor's keeps the property: a change of an output that
silences none, and of the alarm flags that leaves the in-service list and never suppresses the attention line. -/
structure LampClosed (P : State → Prop) : Prop where
  output : ∀ {s : State} {o : OutputNo} {f : Output → Output}, (∀ v, (f v).silenced = true → v.silenced = true) → P s →
    P (s.modOutput o f)
  alarm : ∀ {s : State} {f : Alarm → Alarm}, (∀ a, (f a).inService = a.inService) →
    (∀ a, (f a).suppressed = true → a.suppressed = true) → P s → P (s.modAlarm f)

/-- So does the raw journal write. -/
structure FlagClosed (P : State → Prop) : Prop extends LampClosed P where
  push : ∀ {s : State} (k : RecordKind) (a b : Nat) (d : Detail), P s → P (pushRecord k a b d s)

/-- So does what a switched-on output does to the line supervisor. -/
structure ReactClosed (P : State → Prop) : Prop extends FlagClosed P where
  abandonCheck : ∀ {s : State} (c : CircuitNo), P s → P (abandonCheck c s)

/-- So does any change of the line supervisor. -/
structure LineClosed (P : State → Prop) : Prop extends FlagClosed P where
  line : ∀ {s : State} {f : Line → Line}, P s → P (s.modLine f)

section
variable {P : State → Prop} {s : State}

namespace LampClosed

variable {react : CircuitNo → State → State}

theorem refreshOutputWith (hP : LampClosed P) (hr : ∀ {s} c, P s → P (react c s)) (o : OutputNo) (h : P s) :
    P (refreshOutputWith react o s) := by
  unfold Machine.refreshOutputWith
  split
  · exact h
  · split
    · exact hr _ (hP.output (fun _ quiet => quiet) h)
    · exact hP.output (fun _ quiet => quiet) h

theorem deliverWith (hP : LampClosed P) (hr : ∀ {s} c, P s → P (react c s)) (src : Source) (h : P s) :
    P (deliverWith react src s) :=
  forEach_closed (fun _ _ h => hP.refreshOutputWith hr _ h) _ h

theorem setPendingWith (hP : LampClosed P) (hr : ∀ {s} c, P s → P (react c s)) (src : Source) (b : Bool) (h : P s) :
    P (setPendingWith react src b s) := by
  have silent {t : State} (ht : P t) : P (clearSilence src t) := forEach_closed (fun _ _ h => hP.output (fun _ quiet => Bool.noConfusion quiet) h) _ ht
  have flagged := hP.alarm (f := fun a => { a with pending := upd a.pending src fun _ => b }) (fun _ => rfl) (fun _ lit => lit) h
  have lifted {p : Prop} [Decidable p] {t : State} (ht : P t) :
      P (if p then t.modAlarm fun a => { a with suppressed := false } else t) := by
    split
    · exact hP.alarm (fun _ => rfl) nofun ht
    · exact ht
  unfold Machine.setPendingWith
  split
  · exact h
  · refine hP.deliverWith hr _ (lifted ?_)
    split
    · exact silent flagged
    · exact flagged

theorem setConditionWith (hP : LampClosed P) (hr : ∀ {s} c, P s → P (react c s)) (src : Source) (b : Bool) (h : P s) :
    P (setConditionWith react src b s) := by
  have delivered := hP.deliverWith hr src
    (hP.alarm (f := fun a => { a with condition := upd a.condition src fun _ => b }) (fun _ => rfl) (fun _ lit => lit) h)
  unfold Machine.setConditionWith
  split
  · exact h
  · dsimp only
    split
    · exact delivered
    · exact hP.setPendingWith hr _ _ delivered

end LampClosed

namespace FlagClosed

variable {react : CircuitNo → State → State}

theorem writeWith (hP : FlagClosed P) (hr : ∀ {s} c, P s → P (react c s)) (k : RecordKind) (a b : Nat) (d : Detail)
    (h : P s) : P (writeWith react k a b d s) :=
  hP.setConditionWith hr _ _ (hP.push _ _ _ _ h)

/-- A run that ends as DONE: its record can abandon nothing. -/
theorem endRun (hP : FlagClosed P) (h : P (s.modRun fun run => { run with state := .done })) : P (endRun s) :=
  hP.writeWith (fun _ h => h) _ _ _ _ h

end FlagClosed

namespace ReactClosed

theorem write (hP : ReactClosed P) (k : RecordKind) (a b : Nat) (d : Detail) (h : P s) : P (write k a b d s) :=
  hP.writeWith hP.abandonCheck _ _ _ _ h

theorem setPending (hP : ReactClosed P) (src : Source) (b : Bool) (h : P s) : P (setPending src b s) :=
  hP.setPendingWith hP.abandonCheck _ _ h

theorem setCondition (hP : ReactClosed P) (src : Source) (b : Bool) (h : P s) : P (setCondition src b s) :=
  hP.setConditionWith hP.abandonCheck _ _ h

theorem deliver (hP : ReactClosed P) (src : Source) (h : P s) : P (deliver src s) := hP.deliverWith hP.abandonCheck _ h

theorem refreshOutput (hP : ReactClosed P) (o : OutputNo) (h : P s) : P (refreshOutput o s) :=
  hP.refreshOutputWith hP.abandonCheck _ h

theorem signals (hP : ReactClosed P) : SignalClosed P where
  write _ _ _ _ h := hP.write _ _ _ _ h
  setCondition _ _ h := hP.setCondition _ _ h
  edgeEvent _ _ h := hP.setPending _ _ h

theorem takeIntoService (hP : ReactClosed P) {src : Source}
    (h : P (s.modAlarm fun a => { a with inService := a.inService ++ [src] })) : P (takeIntoService src s) :=
  hP.alarm (f := fun a => { a with suppressed := false }) (fun _ => rfl) nofun (hP.setPending _ _ (hP.deliver _ h))

theorem liftSuppression (hP : ReactClosed P) (before : State) (h : P s) : P (liftSuppression before s) := by
  unfold Machine.liftSuppression
  split
  · exact hP.alarm (fun _ => rfl) nofun h
  · exact h

theorem leaveService (hP : ReactClosed P) {src : Source}
    (h : P (s.modAlarm fun a => { a with inService := a.inService.erase src })) : P (leaveService src s) := by
  refine hP.liftSuppression _ ?_
  split
  · exact hP.setPending _ _ (hP.deliver _ h)
  · exact hP.deliver _ h

theorem reLevel (hP : ReactClosed P) (src : Source) (h : P s) : P (reLevel src s) := by
  unfold Machine.reLevel
  split
  · exact hP.setPending _ _ h
  · exact h

/-- The line supervisor's flags may change freely where the property ignores them. -/
theorem changeFlags (hP : ReactClosed P) (line : ∀ {s : State} {f : Line → Line}, (∀ l, (f l).run = l.run) → P s →
    P (s.modLine f)) (c : CircuitNo) (f : CircuitFlags → CircuitFlags) (h : P s) : P (changeFlags c f s) := by
  have flagged := hP.setCondition (Source.circuit c)
    (circuitFlagged (s.modLine fun l => { l with flags := upd l.flags c f }) c)
    (line (f := fun l => { l with flags := upd l.flags c f }) (fun _ => rfl) h)
  unfold Machine.changeFlags
  dsimp only
  split
  · exact hP.setCondition _ _ flagged
  · exact flagged

theorem changeSupply (hP : ReactClosed P) (line : ∀ {s : State} {f : Line → Line}, (∀ l, (f l).run = l.run) → P s →
    P (s.modLine f)) (b : Bool) (h : P s) : P (changeSupply b s) := by
  have conditioned := hP.setCondition Source.supply b (line (f := fun l => { l with supply := b }) (fun _ => rfl) h)
  unfold Machine.changeSupply
  exact forEach_closed (fun _ _ h => hP.setCondition _ _ h) _ conditioned

end ReactClosed

namespace LineClosed

theorem run (hP : LineClosed P) {f : RunRecord → RunRecord} (h : P s) : P (s.modRun f) :=
  hP.line (f := fun l => { l with run := f l.run }) h

theorem passTurn (hP : LineClosed P) : ∀ (l : List CircuitNo) {s : State}, P s → P (passTurn l s)
  | [], _, h => hP.endRun (hP.run h)
  | c :: l, s, h => by
    unfold Machine.passTurn
    split
    · split
      · exact hP.passTurn l (hP.run h)
      · split
        · exact hP.passTurn l (hP.run h)
        · exact hP.run h
    · exact hP.passTurn l h

theorem react (hP : LineClosed P) : ReactClosed P where
  toFlagClosed := hP.toFlagClosed
  abandonCheck c h := by
    unfold Machine.abandonCheck
    split
    · exact hP.passTurn _ (hP.run h)
    · exact h

theorem abortRun (hP : LineClosed P) (h : P s) : P (abortRun s) := by
  unfold Machine.abortRun
  split
  · exact hP.react.write _ _ _ _ (hP.run (hP.run h))
  · exact h

theorem takeResult (hP : LineClosed P) (check : CheckInProgress) (faulty : Bool) (h : P s) :
    P (takeResult check faulty s) := by
  unfold Machine.takeResult
  split
  · unfold endSupplyStep
    split
    · exact hP.endRun (hP.run (hP.run (hP.react.write _ _ _ _ (hP.react.changeSupply (fun _ h => hP.line h) _ (hP.run h)))))
    · exact hP.passTurn _ (hP.run h)
  · unfold endShortStep
    split
    · exact hP.passTurn _ (hP.react.write _ _ _ _ (hP.react.changeFlags (fun _ h => hP.line h) _ _ (hP.run h)))
    · exact hP.run h
  · unfold endOpenStep
    split
    · exact hP.passTurn _ (hP.react.write _ _ _ _ (hP.react.changeFlags (fun _ h => hP.line h) _ _ (hP.run h)))
    · exact hP.passTurn _ (hP.run h)

end LineClosed

end

/-! ## The journal -/

section
variable {s : State}

/-- A full ring loses its oldest record to a new one. -/
theorem ringPush_eq (ring : List Record) (r : Record) :
    ringPush ring r = ring.drop (if ring.length < 1024 then 0 else 1) ++ [r] := by
  unfold ringPush
  split <;> rfl

theorem pushRecord_contiguous (k : RecordKind) (a b : Nat) (d : Detail) (h : JournalContiguous s) :
    JournalContiguous (pushRecord k a b d s) := by
  unfold pushRecord
  split
  · next room =>
    obtain ⟨bound, boundary, length, rising⟩ := h
    have lost : (if s.journal.ring.length < 1024 then 0 else 1) = s.journal.ring.length + 1 - min (s.journal.newest + 1) 1024 := by
      split <;> omega
    refine ⟨by dsimp only; omega, by dsimp only; omega, ?_, fun i hi => ?_⟩
    · dsimp only
      rw [ringPush_eq, lost, List.length_append, List.length_drop, List.length_singleton]
      omega
    · dsimp only at hi ⊢
      simp only [ringPush_eq, lost] at hi ⊢
      rw [List.length_append, List.length_drop, List.length_singleton] at hi ⊢
      rcases Nat.lt_or_ge i (s.journal.ring.length - (s.journal.ring.length + 1 - min (s.journal.newest + 1) 1024))
        with old | new
      · rw [List.getElem_append_left (by rwa [List.length_drop]), List.getElem_drop, rising _ (by omega)]
        omega
      · rw [List.getElem_append_right (by rwa [List.length_drop]), List.getElem_singleton]
        change s.journal.newest + 1 = _
        omega
  · exact h

end

theorem journalContiguous_onlySignals : OnlySignals JournalContiguous := fun journal _ _ _ _ _ h => by
  rwa [JournalContiguous, journal]

theorem journalContiguous_flags : LineClosed JournalContiguous where
  push k a b d h := pushRecord_contiguous k a b d h
  output _ h := h
  line h := h
  alarm _ _ h := h

theorem journalContiguous_closed : Closed True False True JournalContiguous :=
  journalContiguous_onlySignals.closed
    { journalContiguous_flags.react.signals with
      abortRun := journalContiguous_flags.abortRun
      takeIntoService := fun _ h => journalContiguous_flags.react.takeIntoService h
      leaveService := fun _ h => journalContiguous_flags.react.leaveService h
      reLevel := fun _ h => journalContiguous_flags.react.reLevel _ h
      suppress := fun _ h => h
      silence := fun o _ h => journalContiguous_flags.react.refreshOutput o h
      output := fun o _ h => journalContiguous_flags.react.refreshOutput o h
      acknowledge := fun known h => by
        unfold acknowledge
        split
        · obtain ⟨bound, _, rest⟩ := h
          exact journalContiguous_flags.react.setCondition Source.backlog _ ⟨bound, known, rest⟩
        · exact h
      startRun := fun _ _ h => h
      takeResult := fun faulty _ h => journalContiguous_flags.takeResult _ faulty h
      coldStart := fun {s} _ _ h => by
        change JournalContiguous { s with journal := loadJournal s }
        unfold loadJournal
        split
        · exact h
        · exact ⟨Nat.zero_le _, Nat.le_refl _, rfl, fun _ no => absurd no (Nat.not_lt_zero _)⟩
      sources := fun _ _ h => h }

/-! ## The in-service list -/

section
variable {s : State}

theorem inServiceRising_onlySignals : OnlySignals InServiceRising := fun _ alarm _ _ _ sources h => by
  unfold InServiceRising priority at *
  rwa [alarm, sources]

theorem inServiceRising_flags : LineClosed InServiceRising where
  push k a b d h := by
    unfold pushRecord
    split
    · exact h
    · exact h
  output _ h := h
  line h := h
  alarm {s f} same _ h := by
    unfold InServiceRising priority at *
    rwa [State.modAlarm_alarm, same]

theorem claimable_eligible {src : Source} (claimed : claimable s = some src) : eligible s src = true := by
  have picked : Picked s allSources (some src) := by
    rw [← claimed]
    exact claimable_picked s
  unfold Picked at picked
  obtain ⟨_, eligible, _⟩ := picked
  exact eligible

theorem eligible_above {src : Source} (h : eligible s src = true) : notificationLevel s < priority s src := by
  simp only [eligible, Bool.and_eq_true, decide_eq_true_eq] at h
  exact h.2

/-- What a CLAIM picks stands above every source in service (R151, R153). -/
theorem claimable_above {src : Source} (h : InServiceRising s) (claimed : claimable s = some src) :
    ∀ x ∈ s.alarm.inService, priority s x < priority s src := by
  have above := eligible_above (claimable_eligible claimed)
  obtain ⟨_, _, rising⟩ := h
  intro x hx
  refine Nat.lt_of_le_of_lt ?_ above
  obtain ⟨before, last, split⟩ : ∃ before last, s.alarm.inService = before ++ [last] :=
    ⟨_, _, (List.dropLast_concat_getLast (List.ne_nil_of_mem hx)).symm⟩
  unfold notificationLevel
  rw [split] at rising hx ⊢
  rw [List.getLast?_concat]
  refine Nat.le_trans ?_ (Nat.le_max_right _ _)
  rcases List.mem_append.1 hx with old | newest
  · exact Nat.le_of_lt ((List.pairwise_append.1 rising).2.2 x old last (List.mem_singleton_self _))
  · exact Nat.le_of_eq (congrArg (priority s) (List.mem_singleton.1 newest))

theorem defaultPriority_le (src : Source) : defaultPriority src ≤ 7 := by
  unfold defaultPriority
  repeat' split
  all_goals decide

theorem inServiceRising_closed : Closed True False True InServiceRising :=
  inServiceRising_onlySignals.closed
    { inServiceRising_flags.react.signals with
      abortRun := inServiceRising_flags.abortRun
      takeIntoService := fun {s src} claimed h => by
        have above := claimable_above h claimed
        have positive : 0 < priority s src := Nat.zero_lt_of_lt (eligible_above (claimable_eligible claimed))
        obtain ⟨range, pos, rising⟩ := h
        refine inServiceRising_flags.react.takeIntoService ⟨range, ?_, ?_⟩
        · exact List.forall_mem_append.2 ⟨pos, fun x hx => List.mem_singleton.1 hx ▸ positive⟩
        · exact List.pairwise_append.2 ⟨rising, List.pairwise_singleton _ _,
            fun x hx y hy => List.mem_singleton.1 hy ▸ above x hx⟩
      leaveService := fun _ h => by
        obtain ⟨range, pos, rising⟩ := h
        exact inServiceRising_flags.react.leaveService
          ⟨range, fun x hx => pos x (List.mem_of_mem_erase hx), rising.sublist List.erase_sublist⟩
      reLevel := fun _ h => inServiceRising_flags.react.reLevel _ h
      suppress := fun _ h => h
      silence := fun o _ h => inServiceRising_flags.react.refreshOutput o h
      output := fun o _ h => inServiceRising_flags.react.refreshOutput o h
      acknowledge := fun _ h => by
        unfold acknowledge
        split
        · exact inServiceRising_flags.react.setCondition Source.backlog _ h
        · exact h
      startRun := fun _ _ h => h
      takeResult := fun faulty _ h => inServiceRising_flags.takeResult _ faulty h
      coldStart := fun {s} straps levels ⟨range, _⟩ => by
        refine ⟨fun src => ?_, fun _ no => absurd no List.not_mem_nil, List.Pairwise.nil⟩
        change (loadStore s.store).sources[src].priority ≤ 7
        unfold loadStore
        dsimp only
        split
        · exact range src
        · exact Nat.le_trans (Nat.le_of_eq (congrArg SourceSettings.priority (Vector.getElem_ofFn src.isLt))) (defaultPriority_le src)
      sources := fun {s table} range same ⟨old, pos, rising⟩ =>
        ⟨fun src => (range src).elim id fun eq => Nat.le_trans (Nat.le_of_eq (congrArg SourceSettings.priority eq)) (old src),
          fun x hx => by
            change 0 < table[x].priority
            rw [same x hx]
            exact pos x hx,
          rising.imp_of_mem fun {x y} hx hy lt => by
            change table[x].priority < table[y].priority
            rw [same x hx, same y hy]
            exact lt⟩ }

end

end Sys2Proof.Machine

namespace Sys2Proof.Proofs

open Sys2Proof.Machine

/-- Settles O55: every journal change is one record pushed, the boundary moved up to the newest, or a fresh journal. -/
theorem stepKeepsJournalContiguous : Obligations.StepKeepsJournalContiguous := fun _ =>
  journalContiguous_closed.step journalContiguous_onlySignals.queue

/-- Settles O49: CLAIM takes a source above all in service (`claimable_above`), and SET_SOURCE leaves their priorities. -/
theorem stepKeepsInServiceRising : Obligations.StepKeepsInServiceRising := fun _ =>
  inServiceRising_closed.step inServiceRising_onlySignals.queue

end Sys2Proof.Proofs
end

section
/-! The drive's slots (R84) and the detector channels (R10 to R12). -/

namespace Sys2Proof.Machine

/-! ## Motions and slots -/

section
variable {α : Type} {p q : α → Bool} {a : α}

/-- Of things that are each once in a list at most one more is counted if only one may newly count. -/
theorem countP_le_succ : ∀ {l : List α}, l.Nodup → (∀ x ∈ l, p x = true → q x = true ∨ x = a) →
    l.countP p ≤ l.countP q + 1
  | [], _, _ => Nat.zero_le _
  | x :: l, nodup, h => by
    obtain ⟨fresh, nodup⟩ := List.nodup_cons.1 nodup
    have rest := countP_le_succ nodup fun y hy => h y (List.mem_cons_of_mem _ hy)
    rw [List.countP_cons, List.countP_cons]
    by_cases same : x = a
    · have mono : l.countP p ≤ l.countP q := List.countP_mono_left fun y hy py =>
        (h y (List.mem_cons_of_mem _ hy) py).resolve_right fun hya => fresh (same ▸ hya ▸ hy)
      split <;> omega
    · have here : p x = true → q x = true := fun px => (h x (List.mem_cons_self ..) px).resolve_right same
      split
      · next px => rw [if_pos (here px)]; omega
      · omega

end

section
variable {s : State} {n : DoorNo}

theorem motionsInProgress_stop : motionsInProgress (s.setMotion n none) ≤ motionsInProgress s := by
  unfold motionsInProgress
  refine List.countP_mono_left fun m _ moving => ?_
  rw [State.setMotion_motions, upd_get] at moving
  split at moving
  · cases moving
  · exact moving

theorem motionsInProgress_start (m : InMotion) :
    motionsInProgress (s.setMotion n (some m)) ≤ motionsInProgress s + 1 := by
  unfold motionsInProgress
  refine countP_le_succ (a := n) (List.nodup_finRange 8) fun x _ moving => ?_
  rw [State.setMotion_motions, upd_get] at moving
  split at moving
  · next same => exact .inr same.symm
  · exact .inl moving

theorem motionsInProgress_passSeconds (k : Nat) : motionsInProgress (passSeconds k s) = motionsInProgress s := by
  unfold motionsInProgress
  refine congrArg (List.countP · allDoors) (funext fun m => ?_)
  simp only [passSeconds, Fin.getElem_fin, Vector.getElem_map, Option.isSome_map]

theorem motionsInProgress_coldStart (straps : BitVec 5) (levels : BitVec 48) :
    motionsInProgress (coldStart straps levels s) = 0 := by
  unfold motionsInProgress
  refine List.countP_eq_zero.2 fun m _ => ?_
  simp only [coldStart, Fin.getElem_fin, Vector.getElem_replicate, Option.isSome_none, Bool.false_eq_true, not_false_eq_true]

end

theorem motionsWithinSlots_unsignalled : Unsignalled MotionsWithinSlots := fun _ _ _ _ _ h => h

theorem motionsWithinSlots_doors : OverrideClosed MotionsWithinSlots where
  toSignalClosed := motionsWithinSlots_unsignalled.signals
  door _ h := h
  queue _ _ h := h
  stop _ h := Nat.le_trans motionsInProgress_stop h
  start _ _ room _ := Nat.le_trans (motionsInProgress_start _) room
  egress _ h := h

theorem motionsWithinSlots_zones : ZoneClosed True MotionsWithinSlots where
  toDoorClosed := motionsWithinSlots_doors.toDoorClosed
  line _ h := h
  abortRun := motionsWithinSlots_unsignalled.abortRun
  release _ _ h := h
  firing _ _ _ _ _ h := h
  record _ h := h
  storeRecord _ h := h
  enterStateAs d z st _ _ := motionsWithinSlots_doors.enterStateAs (fun h => h) (fun h => h) d z st
  estimate _ _ h := h
  others _ _ _ _ _ _ _ _ _ h := h

theorem motionsWithinSlots_closed : Closed True False True MotionsWithinSlots :=
  motionsWithinSlots_unsignalled.closed
    { motionsWithinSlots_zones with
      gate := fun _ _ _ h => h
      channel := fun _ h => h
      fewerListed := fun _ h => h
      applyPass := fun hf _ n p h => motionsWithinSlots_zones.applyPass_of_free hf (fun h => h) n p h
      output := fun _ _ _ _ h => h
      passSeconds := fun k h => Nat.le_trans (Nat.le_of_eq (motionsInProgress_passSeconds k)) h
      coldStart := fun straps levels _ _ => Nat.le_trans (Nat.le_of_eq (motionsInProgress_coldStart straps levels)) (Nat.zero_le _)
      store := fun {s st} move h => by
        change motionsInProgress s ≤ st.slots
        rw [move.slots]
        exact h
      detector := fun _ _ _ _ h => motionsWithinSlots_doors.writeConfig _ _ (s := State.modStore _ _) h
      sources := fun _ h => h
      reseatDoor := fun seat _ => motionsWithinSlots_doors.reseatDoor (fun h => h) seat.motions
      clock := fun _ h => h }

/-! ## Detector channels -/

theorem channelsSound_iff {s : State} :
    ChannelsSound s ↔ ∀ c : ChannelNo, ChannelSound s.store.detectors[c].zone s.channels[c] := Iff.rfl

/-- New settings leave a sound channel sound (R9). -/
theorem reassign_sound {old new : DetectorSettings} {c : Channel} (sound : ChannelSound old.zone c) :
    ChannelSound new.zone (Channel.reassign old new c) := by
  obtain ⟨arming, outRun, inRun, latch, rest⟩ := sound
  unfold Channel.reassign
  split
  · exact ⟨Nat.zero_le _, Nat.zero_le _, Nat.zero_le _, by simp, fun _ => ⟨rfl, rfl, rfl, rfl⟩⟩
  · next notLeft =>
    have rested (none : new.zone = none) : old.zone = Option.none := Classical.byContradiction fun zoned => notLeft ⟨none, zoned⟩
    split
    · exact ⟨arming, outRun, inRun, latch, fun none => rest (rested none)⟩
    · next changed =>
      have unlatched : c.latch = false := Bool.eq_false_iff.2 (not_or.1 changed).2
      exact ⟨Nat.zero_le _, outRun, inRun, by simp [unlatched], fun none => ⟨rfl, (rest (rested none)).2⟩⟩

theorem channelsSound_unsignalled : Unsignalled ChannelsSound := fun _ _ _ _ _ h => h

theorem channelsSound_doors : OverrideClosed ChannelsSound where
  toSignalClosed := channelsSound_unsignalled.signals
  door _ h := h
  queue _ _ h := h
  stop _ h := h
  start _ _ _ h := h
  egress _ h := h

theorem channelsSound_zones : ZoneClosed True ChannelsSound where
  toDoorClosed := channelsSound_doors.toDoorClosed
  line _ h := h
  abortRun := channelsSound_unsignalled.abortRun
  release _ _ h := h
  firing _ _ _ _ _ h := h
  record _ h := h
  storeRecord _ h := h
  enterStateAs d z st _ _ := channelsSound_doors.enterStateAs (fun h => h) (fun h => h) d z st
  estimate _ _ h := h
  others _ _ _ _ _ _ _ _ _ h := h

theorem assignDetector_sound {s : State} (c : ChannelNo) (v : DetectorSettings) (h : ChannelsSound s) :
    ChannelsSound (assignDetector c v s) := by
  have written := write_signals .config c.val 0 (.kind 0x11)
    (s.modStore fun st => { st with detectors := upd st.detectors c fun _ => v })
  refine channelsSound_iff.2 fun d => ?_
  unfold assignDetector writeConfig
  rw [State.modChannel_channels, State.modChannel_store, written.store, written.channels, State.modStore_store, upd_get,
    State.modStore_channels, upd_get]
  by_cases same : c = d
  · rw [if_pos same, if_pos same]
    exact reassign_sound (h c)
  · rw [if_neg same, if_neg same]
    exact h d

theorem channelsSound_closed : Closed True False True ChannelsSound :=
  channelsSound_unsignalled.closed
    { channelsSound_zones with
      gate := fun _ _ _ h => h
      channel := fun {s c ch} sound h => channelsSound_iff.2 fun d => by
        rw [State.modChannel_channels, State.modChannel_store, upd_get]
        split
        · next same => exact same ▸ sound (h c)
        · exact h d
      fewerListed := fun _ h => h
      applyPass := fun hf _ n p h => channelsSound_zones.applyPass_of_free hf (fun h => h) n p h
      output := fun _ _ _ _ h => h
      passSeconds := fun _ h => h
      coldStart := fun straps levels _ _ => channelsSound_iff.2 fun c => by
        simp only [coldStart, Fin.getElem_fin, Vector.getElem_replicate]
        exact ⟨Nat.zero_le _, Nat.zero_le _, Nat.zero_le _, by simp [Channel.fresh], fun _ => ⟨rfl, rfl, rfl, rfl⟩⟩
      store := fun {s st} move h => channelsSound_iff.2 fun c => by
        change ChannelSound st.detectors[c].zone s.channels[c]
        rw [move.detectors]
        exact h c
      detector := fun c v _ _ h => assignDetector_sound c v h
      sources := fun _ h => h
      reseatDoor := fun _ h => channelsSound_doors.reseatDoor (fun h => h) h
      clock := fun _ h => h }

end Sys2Proof.Machine

namespace Sys2Proof.Proofs

open Sys2Proof.Machine

/-- Settles O28: a motion starts only where a slot is free, and SET_DOOR keeps at least as many slots as motions. -/
theorem stepKeepsMotionsWithinSlots : Obligations.StepKeepsMotionsWithinSlots := fun _ =>
  motionsWithinSlots_closed.step fun _ h => h

/-- Settles O12: samples, new settings and a zone reset each leave a sound channel sound. -/
theorem stepKeepsChannelsSound : Obligations.StepKeepsChannelsSound := fun _ =>
  channelsSound_closed.step fun _ h => h

end Sys2Proof.Proofs
end

section
/-! The doors' marks (R69, R72), their passes under an override (R25, R71), and the override in step with the zones (R25). -/

namespace Sys2Proof.Machine

/-! ## Doors along the seconds and at power-on -/

section
variable {s : State} {n : DoorNo}

theorem passSeconds_door (k : Nat) : (passSeconds k s).doors[n] =
    { s.doors[n] with window := elapse k s.doors[n].window, heldTimer := elapse k s.doors[n].heldTimer } := by
  simp only [passSeconds, Fin.getElem_fin, Vector.getElem_map]

theorem coldStart_door (straps : BitVec 5) (levels : BitVec 48) :
    (coldStart straps levels s).doors[n] = Door.fresh .starting := by
  simp only [coldStart, Fin.getElem_fin, Vector.getElem_replicate]

/-- With a clear interlock the other doors of the group are secured (R72). -/
theorem secured_of_interlockClear {m : DoorNo} (clear : interlockClear s n = true) (other : m ≠ n)
    (group : s.store.doors[m].group = s.store.doors[n].group) (grouped : s.store.doors[m].group ≠ 0) :
    s.doors[m].state = .secured := by
  unfold interlockClear at clear
  rw [Bool.or_eq_true, decide_eq_true_eq, List.all_eq_true] at clear
  have atM := (clear.resolve_left fun none => grouped (group.trans none)) m (List.mem_finRange m)
  rw [Bool.or_eq_true, decide_eq_true_eq, Bool.and_eq_true, decide_eq_true_eq] at atM
  exact (atM.resolve_left fun no => no.elim other fun differs => differs group).1

end

/-! ## Marks -/

theorem marksSound_unsignalled : Unsignalled MarksSound := fun _ _ _ _ _ h => h

section
variable {s : State} {n : DoorNo}

theorem marksSound_modDoor {d : Door} (move : DoorMove s n d) (h : MarksSound s) :
    MarksSound (s.modDoor n fun _ => d) := by
  obtain ⟨secured, one⟩ := h
  refine ⟨fun m hm => ?_, fun m k other group grouped hm hk => ?_⟩
  · rw [State.modDoor_doors, upd_get] at hm ⊢
    split at hm
    · next same =>
      rw [if_pos same]
      exact (move.secured hm).elim id fun ⟨was, kept⟩ => kept.trans (secured n was)
    · next differs =>
      rw [if_neg differs]
      exact secured m hm
  · rw [State.modDoor_doors, upd_get] at hm hk
    rw [State.modDoor_store] at group grouped
    split at hm
    · next same =>
      subst same
      rw [if_neg other] at hk
      rcases move.mark hm with was | clear
      · exact one n k other group grouped was hk
      · have sec := secured_of_interlockClear clear other.symm group.symm (group ▸ grouped)
        rw [secured k sec] at hk
        cases hk
    · split at hk
      · next same =>
        subst same
        rcases move.mark hk with was | clear
        · exact one m n other group grouped hm was
        · have sec := secured_of_interlockClear clear other group grouped
          rw [secured m sec] at hm
          cases hm
      · exact one m k other group grouped hm hk

theorem marksSound_of_doors {t : State} (store : t.store.doors = s.store.doors)
    (doors : ∀ n : DoorNo, t.doors[n].state = s.doors[n].state ∧ t.doors[n].mark = s.doors[n].mark) (h : MarksSound s) :
    MarksSound t := by
  obtain ⟨secured, one⟩ := h
  refine ⟨fun m hm => ?_, fun m k other group grouped hm hk => ?_⟩
  · rw [(doors m).1] at hm
    rw [(doors m).2, secured m hm]
  · rw [store] at group grouped
    rw [(doors m).2] at hm
    rw [(doors k).2] at hk
    exact one m k other group grouped hm hk

/-- A door that carries no mark may change its group. -/
theorem marksSound_store {v : DoorSettings} {slots : Nat} (unmarked : s.doors[n].mark = none) (h : MarksSound s) :
    MarksSound (s.modStore fun st => { st with doors := upd st.doors n fun _ => v, slots := slots }) := by
  obtain ⟨secured, one⟩ := h
  refine ⟨secured, fun m k other group grouped hm hk => ?_⟩
  have notN {x : DoorNo} (hx : s.doors[x].mark = some .ordinary) : n ≠ x := fun same => by
    subst same
    rw [unmarked] at hx
    cases hx
  rw [State.modStore_store] at group grouped
  rw [State.modStore_doors] at hm hk
  dsimp only at group grouped
  rw [upd_other _ _ _ _ (notN hm)] at group grouped
  rw [upd_other _ _ _ _ (notN hk)] at group
  exact one m k other group grouped hm hk

end

theorem marksSound_doors : OverrideClosed MarksSound where
  toSignalClosed := marksSound_unsignalled.signals
  door move h := marksSound_modDoor move h
  queue _ _ h := h
  stop _ h := h
  start _ _ _ h := h
  egress {s n b} _ h := marksSound_of_doors (s := s) rfl (fun m => by
    rw [State.modDoor_doors, upd_get]
    split
    · next same => exact same ▸ ⟨rfl, rfl⟩
    · exact ⟨rfl, rfl⟩) h

theorem marksSound_zones : ZoneClosed True MarksSound where
  toDoorClosed := marksSound_doors.toDoorClosed
  line _ h := h
  abortRun := marksSound_unsignalled.abortRun
  release _ _ h := h
  firing _ _ _ _ _ h := h
  record _ h := h
  storeRecord _ h := h
  enterStateAs d z st _ _ := marksSound_doors.enterStateAs (fun h => h) (fun h => h) d z st
  estimate _ _ h := h
  others _ _ _ _ _ _ _ _ _ h := h

theorem marksSound_closed : Closed True False True MarksSound :=
  marksSound_unsignalled.closed
    { marksSound_zones with
      gate := fun _ _ _ h => h
      channel := fun _ h => h
      fewerListed := fun _ h => h
      applyPass := fun hf _ n p h => marksSound_zones.applyPass_of_free hf (fun h => h) n p h
      output := fun _ _ _ _ h => h
      passSeconds := fun {s} k h => marksSound_of_doors (s := s) rfl
        (fun n => by rw [passSeconds_door]; exact ⟨rfl, rfl⟩) h
      coldStart := fun straps levels _ _ =>
        ⟨fun n _ => by rw [coldStart_door]; rfl, fun m _ _ _ _ hm => by rw [coldStart_door] at hm; cases hm⟩
      store := fun {s st} move h => marksSound_of_doors (s := s) move.doors (fun _ => ⟨rfl, rfl⟩) h
      detector := fun _ _ _ _ h => marksSound_doors.writeConfig _ _ (s := State.modStore _ _) h
      sources := fun _ h => h
      reseatDoor := fun seat h => marksSound_doors.reseatDoor (fun h => h) (marksSound_store (h.1 _ seat.secured) h)
      clock := fun _ h => h }

/-! ## Passes under an override -/

theorem noEntryUnderEgress_unsignalled : Unsignalled NoEntryUnderEgress := fun _ _ _ _ _ h => h

/-- What the property says of one door. -/
abbrev NoEntryHeld (d : Door) : Prop := d.egress = true → ∀ p ∈ d.passes, p.dir = .exit

theorem noEntryUnderEgress_doors : OverrideClosed NoEntryUnderEgress where
  toSignalClosed := noEntryUnderEgress_unsignalled.signals
  door move h := fun m => forall_upd (p := NoEntryHeld) h (fun under p hp =>
    (move.passes p hp).elim (fun old => h _ (move.egress ▸ under) p old) fun allowed => allowed under) m
  queue _ _ h := h
  stop _ h := h
  start _ _ _ h := h
  egress allowed h := fun m => forall_upd (p := NoEntryHeld) h (fun under => allowed under) m

theorem noEntryUnderEgress_zones : ZoneClosed True NoEntryUnderEgress where
  toDoorClosed := noEntryUnderEgress_doors.toDoorClosed
  line _ h := h
  abortRun := noEntryUnderEgress_unsignalled.abortRun
  release _ _ h := h
  firing _ _ _ _ _ h := h
  record _ h := h
  storeRecord _ h := h
  enterStateAs d z st _ _ := noEntryUnderEgress_doors.enterStateAs (fun h => h) (fun h => h) d z st
  estimate _ _ h := h
  others _ _ _ _ _ _ _ _ _ h := h

theorem noEntryUnderEgress_closed : Closed True False True NoEntryUnderEgress :=
  noEntryUnderEgress_unsignalled.closed
    { noEntryUnderEgress_zones with
      gate := fun _ _ _ h => h
      channel := fun _ h => h
      fewerListed := fun _ h => h
      applyPass := fun hf _ n p h => noEntryUnderEgress_zones.applyPass_of_free hf (fun h => h) n p h
      output := fun _ _ _ _ h => h
      passSeconds := fun k h n => by
        rw [passSeconds_door]
        exact h n
      coldStart := fun straps levels _ _ n => by
        rw [coldStart_door]
        exact fun _ _ no => absurd no List.not_mem_nil
      store := fun _ h => h
      detector := fun _ _ _ _ h => noEntryUnderEgress_doors.writeConfig _ _ (s := State.modStore _ _) h
      sources := fun _ h => h
      reseatDoor := fun _ h => noEntryUnderEgress_doors.reseatDoor (fun h => h) h
      clock := fun _ h => h }

/-! ## The override in step with the zones -/

section
variable {s : State} {z : Zone} {n m : DoorNo}

/-- A fold that gives each door of a list this egress flag. -/
theorem forEach_egress {f : DoorNo → State → State} (b : Bool)
    (hf : ∀ (n m : DoorNo) (s : State), (f n s).doors[m].egress = if m = n then b else s.doors[m].egress) :
    ∀ (l : List DoorNo) (s : State), (forEach l f s).doors[m].egress = if m ∈ l then b else s.doors[m].egress
  | [], _ => by rw [forEach_nil, if_neg List.not_mem_nil]
  | n :: l, s => by
    rw [forEach_cons, forEach_egress b hf l, hf]
    by_cases here : m = n
    · simp only [here, if_true, ite_self, List.mem_cons_self]
    · simp only [List.mem_cons, here, false_or, if_false]

theorem modDoor_egress (b : Bool) : (s.modDoor n fun d => { d with egress := b }).doors[m].egress =
    if m = n then b else s.doors[m].egress := by
  rw [State.modDoor_doors, upd_get]
  by_cases same : n = m
  · rw [if_pos same, if_pos same.symm]
  · rw [if_neg same, if_neg (Ne.symm same)]

theorem egressDoor_egress (n m : DoorNo) (s : State) :
    (egressDoor n s).doors[m].egress = if m = n then true else s.doors[m].egress := by
  have kept := (egressFlag_closed m s.doors[m].egress).dropPasses (n := n) .passDropped (fun p => decide (p.dir = .entry))
    (s := s) rfl
  have flagged := (modDoor_egress (n := n) (m := m) true).trans (congrArg (fun b => if m = n then true else b) kept)
  unfold egressDoor
  dsimp only
  split
  · exact flagged
  · exact (egressFlag_closed m _).overrideStart flagged

theorem egressEndDoor_egress (n m : DoorNo) (s : State) :
    (egressEndDoor n s).doors[m].egress = if m = n then false else s.doors[m].egress := by
  have flagged := modDoor_egress (s := s) (n := n) (m := m) false
  unfold egressEndDoor
  dsimp only
  split
  · exact (egressFlag_closed m _).overrideEnd flagged
  · exact flagged

theorem mem_zoneDoors : n ∈ zoneDoors s z ↔ inside s n = some z := by
  simp only [zoneDoors, allDoors, List.mem_filter, List.mem_finRange, true_and, decide_eq_true_eq]

/-- What a move between release states leaves of a door's egress flag (R25). -/
theorem egressMove_egress (old new : ReleaseState) : (egressMove old new z s).doors[m].egress =
    if inside s m = some z then
      if (ReleaseState.isQuiet old && ReleaseState.isEgress new) = true then true
      else if (ReleaseState.isEgress old && !ReleaseState.isEgress new) = true then false
      else s.doors[m].egress
    else s.doors[m].egress := by
  unfold egressMove
  split
  · unfold egressRequest
    rw [forEach_egress true egressDoor_egress]
    simp only [mem_zoneDoors]
  · split
    · unfold egressEnd
      rw [forEach_egress false egressEndDoor_egress]
      simp only [mem_zoneDoors]
    · rw [ite_self]

theorem egressMove_frame (old new : ReleaseState) : DoorFrame s (egressMove old new z s) := by
  unfold egressMove
  split
  · exact egressRequest_frame z s
  · split
    · exact egressEnd_frame z s
    · exact DoorFrame.refl s

/-- A change of release state up to the doors' being told. -/
def beforeMove (d : Detail) (z : Zone) (st : ReleaseState) (s : State) : State :=
  let s1 := s.modRelease z fun r => { r with state := st, interval := false, doorHold := none, occupancyHold := none }
  reOccupant z (reImpaired z (write .zoneState (Zone.number z) 0 d
    (if ReleaseState.isStored st then storeRecord z s1 else s1)))

theorem enterStateAs_eq (d : Detail) (st : ReleaseState) :
    enterStateAs d z st s = egressMove s.release[z].state st z (beforeMove d z st s) := rfl

theorem beforeMove_signals (d : Detail) (st : ReleaseState) :
    Signals (if ReleaseState.isStored st then
        storeRecord z (s.modRelease z fun r =>
          { r with state := st, interval := false, doorHold := none, occupancyHold := none })
      else s.modRelease z fun r => { r with state := st, interval := false, doorHold := none, occupancyHold := none })
      (beforeMove d z st s) :=
  ((write_signals _ _ _ _ _).trans (setCondition_signals _ _ _)).trans (setCondition_signals _ _ _)

theorem enterStateAs_egress (d : Detail) (st : ReleaseState) : (enterStateAs d z st s).doors[m].egress =
    if inside s m = some z then
      if (ReleaseState.isQuiet s.release[z].state && ReleaseState.isEgress st) = true then true
      else if (ReleaseState.isEgress s.release[z].state && !ReleaseState.isEgress st) = true then false
      else s.doors[m].egress
    else s.doors[m].egress := by
  have same := beforeMove_signals (s := s) (z := z) d st
  have doors : (beforeMove d z st s).doors = s.doors := by rw [same.doors]; split <;> rfl
  have settings : inside (beforeMove d z st s) m = inside s m := by unfold inside; rw [same.store]; split <;> rfl
  rw [enterStateAs_eq, egressMove_egress, doors, settings]

/-- A change of release state leaves the doors' settings, and of the stored records that of its zone where it is one
of the states that are stored (R46). -/
theorem enterStateAs_store (d : Detail) (st : ReleaseState) :
    (enterStateAs d z st s).store.doors = s.store.doors ∧
    (enterStateAs d z st s).store.records = if ReleaseState.isStored st = true then
      upd s.store.records z fun r => { r with state := st } else s.store.records := by
  have same := beforeMove_signals (s := s) (z := z) d st
  have moved := egressMove_frame (s := beforeMove d z st s) (z := z) s.release[z].state st
  rw [enterStateAs_eq, (moved.settings (by decide)).doors, moved.records (by decide), same.store]
  split
  · refine ⟨rfl, ?_⟩
    unfold storeRecord
    rw [State.modRelease_release, upd_same]
    rfl
  · exact ⟨rfl, rfl⟩

/-- Out of a state that is quiet, or is one of egress, or toward one that is not, the move leaves the override as the
new state calls for it (R25). -/
theorem egressFlag_moved {quiet old new : Bool} (may : quiet = true ∨ old = true ∨ new = false)
    (apart : quiet = true → old = false) :
    (if (quiet && new) = true then true else if (old && !new) = true then false else old) = new := by
  cases quiet <;> cases old <;> cases new <;> simp_all

theorem enterStateAs_egressFollows (d : Detail) (st : ReleaseState)
    (may : ReleaseState.isQuiet s.release[z].state = true ∨ ReleaseState.isEgress s.release[z].state = true ∨
      ReleaseState.isEgress st = false) (h : EgressFollows s) : EgressFollows (enterStateAs d z st s) := by
  obtain ⟨follows, stored⟩ := h
  obtain ⟨settings, records⟩ := enterStateAs_store (s := s) (z := z) d st
  refine ⟨fun m => ?_, fun y => ?_⟩
  · rw [enterStateAs_egress, settings, enterStateAs_release, follows m]
    have insideEq : inside s m = s.store.doors[m].inside := rfl
    rw [insideEq]
    cases hi : s.store.doors[m].inside with
    | none => rfl
    | some y =>
      by_cases same : y = z
      · subst same
        rw [if_pos rfl, Option.any_some, Option.any_some, upd_same]
        have quiet : ReleaseState.isQuiet s.release[y].state = true → ReleaseState.isEgress s.release[y].state = false := by
          cases s.release[y].state <;> simp [ReleaseState.isQuiet, ReleaseState.isEgress]
        exact egressFlag_moved may quiet
      · rw [if_neg (by simpa using same), Option.any_some, Option.any_some, upd_other _ _ _ _ (Ne.symm same)]
  · rw [records]
    split
    · next isStored => exact forall_upd (p := fun r : ZoneRecord => ReleaseState.isStored r.state = true) stored isStored y
    · exact stored y

/-- The property is about these parts of the state alone. -/
theorem egressFollows_of {t : State} (doors : ∀ n : DoorNo, t.doors[n].egress = s.doors[n].egress)
    (settings : t.store.doors = s.store.doors)
    (release : ∀ z : Zone, t.release[z].state = s.release[z].state)
    (records : ∀ z : Zone, ReleaseState.isStored t.store.records[z].state = true) (h : EgressFollows s) :
    EgressFollows t := by
  refine ⟨fun n => ?_, records⟩
  simp only [doors, settings, release]
  exact h.1 n

theorem egressFollows_unsignalled : Unsignalled EgressFollows := fun _ _ _ _ _ h => h

theorem egressFollows_doors : DoorClosed EgressFollows where
  toSignalClosed := egressFollows_unsignalled.signals
  door {s n d} move h := egressFollows_of (s := s) (fun m => by
    rw [State.modDoor_doors, upd_get]
    split
    · next same => exact same ▸ move.egress
    · rfl) rfl (fun _ => rfl) h.2 h
  queue _ _ h := h
  stop _ h := h
  start _ _ _ h := h

theorem egressFollows_release {r : Release} (state : r.state = s.release[z].state) (h : EgressFollows s) :
    EgressFollows (s.modRelease z fun _ => r) :=
  egressFollows_of (s := s) (fun _ => rfl) rfl (fun y => by
    rw [State.modRelease_release, upd_get]
    split
    · next same => exact same ▸ state
    · rfl) h.2 h

theorem egressFollows_record {r : ZoneRecord} (state : ReleaseState.isStored r.state = true) (h : EgressFollows s) :
    EgressFollows (s.modRecord z fun _ => r) :=
  egressFollows_of (s := s) (fun _ => rfl) rfl (fun _ => rfl)
    (fun y => forall_upd (p := fun r : ZoneRecord => ReleaseState.isStored r.state = true) h.2 state y) h

theorem egressFollows_zones : ZoneClosed True EgressFollows where
  toDoorClosed := egressFollows_doors
  line _ h := h
  abortRun := egressFollows_unsignalled.abortRun
  release state _ h := egressFollows_release state h
  firing _ _ _ _ state h := egressFollows_release state h
  record state h := egressFollows_record (state ▸ h.2 _) h
  storeRecord state h := egressFollows_record state h
  enterStateAs d _ st _ may h := enterStateAs_egressFollows d st may h
  estimate _ _ h := h
  others _ _ _ _ _ _ _ _ _ h := h

/-- What is restored at power-on is no egress state (R46, R47). -/
theorem restored_quiet {st : ReleaseState} (stored : ReleaseState.isStored st = true) :
    ReleaseState.isEgress (restored st) = false ∧ ReleaseState.isStored (restored st) = true := by
  cases st <;> first | exact ⟨rfl, rfl⟩ | cases stored

theorem loadStore_records (h : ∀ z : Zone, ReleaseState.isStored s.store.records[z].state = true) (z : Zone) :
    ReleaseState.isStored (loadStore s.store).records[z].state = true := by
  unfold loadStore
  dsimp only
  split
  · exact h z
  · simp only [Store.erased, Fin.getElem_fin, Vector.getElem_replicate]
    rfl

theorem coldStart_egressFollows (straps : BitVec 5) (levels : BitVec 48) (h : EgressFollows s) :
    EgressFollows (coldStart straps levels s) := by
  have stored := loadStore_records h.2
  refine ⟨fun n => ?_, fun z => ?_⟩
  · rw [coldStart_door]
    cases hi : (coldStart straps levels s).store.doors[n].inside with
    | none => rfl
    | some z =>
      rw [Option.any_some]
      refine ((restored_quiet (stored z)).1.symm.trans (congrArg ReleaseState.isEgress ?_))
      simp only [coldStart, Fin.getElem_fin, Vector.getElem_map]
      rfl
  · simp only [coldStart, Fin.getElem_fin, Vector.getElem_map]
    exact (restored_quiet (stored z)).2

theorem closeCustody_kept (n : DoorNo) (s : State) : (closeCustody n s).doors = s.doors ∧
    (closeCustody n s).release = s.release ∧ (closeCustody n s).store = s.store := by
  unfold closeCustody
  split
  · next w _ =>
    have same := write_signals .passUnused n.val w.cred .custody (s.setCustody n none)
    exact ⟨same.doors, same.release, same.store⟩
  · exact ⟨rfl, rfl, rfl⟩

/-- A door's new settings before its override joins that of its new zone. -/
def seatedDoor (n : DoorNo) (v : DoorSettings) (slots : Nat) (s : State) : State :=
  let t := writeConfig n.val (.kind 0x13)
    (s.modStore fun st => { st with doors := upd st.doors n fun _ => v, slots := slots })
  if s.store.doors[n].custody = v.custody ∧ s.store.doors[n].inside = v.inside then t else closeCustody n t

theorem reseatDoor_eq (v : DoorSettings) (slots : Nat) : reseatDoor n v slots s =
    if joinsEgress s s.store.doors[n] v then egressDoor n (seatedDoor n v slots s) else seatedDoor n v slots s := rfl

theorem seatedDoor_kept (v : DoorSettings) (slots : Nat) : (seatedDoor n v slots s).doors = s.doors ∧
    (seatedDoor n v slots s).release = s.release ∧ (seatedDoor n v slots s).store.records = s.store.records ∧
    (seatedDoor n v slots s).store.doors = upd s.store.doors n fun _ => v := by
  have same := write_signals .config n.val 0 (.kind 0x13)
    (s.modStore fun st => { st with doors := upd st.doors n fun _ => v, slots := slots })
  have closed := closeCustody_kept n (writeConfig n.val (.kind 0x13)
    (s.modStore fun st => { st with doors := upd st.doors n fun _ => v, slots := slots }))
  obtain ⟨doors, release, store⟩ := closed
  unfold seatedDoor
  dsimp only
  split
  · exact ⟨same.doors, same.release, (congrArg Store.records same.store).trans rfl, (congrArg Store.doors same.store).trans rfl⟩
  · exact ⟨doors.trans same.doors, release.trans same.release, (congrArg Store.records (store.trans same.store)).trans rfl,
      (congrArg Store.doors (store.trans same.store)).trans rfl⟩

/-- A door that takes new settings with no override comes under one where its new zone calls for it (R66). -/
theorem reseatDoor_egressFollows {v : DoorSettings} {slots : Nat} (seat : Reseatable s n v slots) (h : EgressFollows s) :
    EgressFollows (reseatDoor n v slots s) := by
  obtain ⟨follows, stored⟩ := h
  have free : s.doors[n].egress = false := (Bool.or_eq_false_iff.1 seat.free).1
  obtain ⟨doors, release, records, settings⟩ := seatedDoor_kept (s := s) (n := n) v slots
  rw [reseatDoor_eq]
  generalize seatedDoor n v slots s = t at *
  have joined := egressDoor_frame n t
  split
  · next joins =>
    refine ⟨fun m => ?_, fun z => ?_⟩
    · rw [egressDoor_egress, (joined.settings (by decide)).doors, joined.release (by decide), doors, release, settings,
        upd_get]
      by_cases same : m = n
      · rw [if_pos same, if_pos same.symm]
        unfold joinsEgress at joins
        split at joins
        · next z hz =>
          rw [hz, Option.any_some]
          exact (Bool.and_eq_true_iff.1 joins).2.symm
        · cases joins
      · rw [if_neg same, if_neg (Ne.symm same)]
        exact follows m
    · rw [joined.records (by decide), records]
      exact stored z
  · next apart =>
    refine ⟨fun m => ?_, fun z => records ▸ stored z⟩
    rw [doors, release, settings, upd_get]
    split
    · next same =>
      rw [← same, free]
      unfold joinsEgress at apart
      split at apart
      · next z hz =>
        rw [hz, Option.any_some]
        by_cases moved : s.store.doors[n].inside = some z
        · have was := follows n
          rw [moved, Option.any_some, free] at was
          exact was
        · rw [hz, decide_eq_true moved, Bool.true_and] at apart
          exact (Bool.eq_false_iff.2 apart).symm
      · next hz => rw [hz]; rfl
    · exact follows m

theorem egressFollows_closed : Closed True False True EgressFollows :=
  egressFollows_unsignalled.closed
    { egressFollows_zones with
      gate := fun _ _ _ h => h
      channel := fun _ h => h
      fewerListed := fun _ h => h
      applyPass := fun hf _ n p h => egressFollows_zones.applyPass_of_free hf (fun h => h) n p h
      output := fun _ _ _ _ h => h
      passSeconds := fun {s} k h => egressFollows_of (s := s) (fun n => by rw [passSeconds_door]) rfl
        (fun z => by simp only [passSeconds, Fin.getElem_fin, Vector.getElem_map]) h.2 h
      coldStart := fun straps levels _ h => coldStart_egressFollows straps levels h
      store := fun {s st} move h => egressFollows_of (s := s) (fun _ => rfl) move.doors (fun _ => rfl)
        (fun z => by
          change ReleaseState.isStored st.records[z].state = true
          rw [move.records]
          exact h.2 z) h
      detector := fun _ _ _ _ h => egressFollows_doors.writeConfig _ _ (s := State.modStore _ _) h
      sources := fun _ h => h
      reseatDoor := fun seat h => reseatDoor_egressFollows seat h
      clock := fun _ h => h }

end

end Sys2Proof.Machine

namespace Sys2Proof.Proofs

open Sys2Proof.Machine

/-- Settles O29: a mark is set ORDINARY only while the interlock is clear, and a door enters SECURED without it. -/
theorem stepKeepsMarksSound : Obligations.StepKeepsMarksSound := fun _ => marksSound_closed.step fun _ h => h

/-- Settles O30: a pass is taken only where the override allows it, and every change of a zone's release state or of a
door's inside zone carries the override along (`enterStateAs_egressFollows`, `reseatDoor_egressFollows`). -/
theorem stepKeepsEgressOverrides : Obligations.StepKeepsEgressOverrides :=
  ⟨fun _ => noEntryUnderEgress_closed.step fun _ h => h, fun _ => egressFollows_closed.step fun _ h => h⟩

end Sys2Proof.Proofs
end

section
/-! The firing gate follows the firings (R38), and the stored settings stay in range (R194). -/

namespace Sys2Proof.Machine

/-! ## The firing gate -/

section
variable {s : State}

/-- Which zones' banks are being fired, and how the gate stands. -/
def GateHeld (fired : Zone → Bool) (gate : Bool) (s : State) : Prop := (∀ z : Zone, firing s z = fired z) ∧ s.gateClosed = gate

/-- Zone entries with the same firings. -/
theorem firing_of_release {t : State} (h : ∀ z : Zone, t.release[z].firing.isSome = s.release[z].firing.isSome) (z : Zone) :
    firing t z = firing s z := h z

variable {fired : Zone → Bool} {gate : Bool}

theorem GateHeld.of_release {t : State} (h : GateHeld fired gate s)
    (same : ∀ z : Zone, t.release[z].firing.isSome = s.release[z].firing.isSome) (closed : t.gateClosed = s.gateClosed) :
    GateHeld fired gate t :=
  ⟨fun z => (firing_of_release same z).trans (h.1 z), closed.trans h.2⟩

theorem GateHeld.modRelease (h : GateHeld fired gate s) {z : Zone} {f : Release → Release}
    (same : (f s.release[z]).firing.isSome = s.release[z].firing.isSome) : GateHeld fired gate (s.modRelease z f) :=
  h.of_release (fun y => by
    rw [State.modRelease_release, upd_get]
    split
    · next here => exact here ▸ same
    · rfl) rfl

end

section
variable (fired : Zone → Bool) (gate : Bool)

theorem gateHeld_unsignalled : Unsignalled (GateHeld fired gate) := fun _ _ _ _ _ h => h

theorem gateHeld_doors : OverrideClosed (GateHeld fired gate) where
  toSignalClosed := (gateHeld_unsignalled fired gate).signals
  door _ h := h
  queue _ _ h := h
  stop _ h := h
  start _ _ _ h := h
  egress _ h := h

theorem gateHeld_zones : ZoneClosed False (GateHeld fired gate) where
  toDoorClosed := (gateHeld_doors fired gate).toDoorClosed
  line _ h := h
  abortRun := (gateHeld_unsignalled fired gate).abortRun
  release _ same h := h.modRelease (congrArg Option.isSome same)
  firing no := no.elim
  record _ h := h
  storeRecord _ h := h
  enterStateAs d z st _ _ := (gateHeld_doors fired gate).enterStateAs (fun h => h.modRelease rfl) (fun h => h) d z st
  estimate _ _ h := h
  others _ _ _ _ _ _ _ _ _ h := h

/-- No command but a finishing one begins or ends a firing, or touches the gate. -/
theorem gateHeld_closed : Closed False False False (GateHeld fired gate) :=
  (gateHeld_unsignalled fired gate).closed
    { gateHeld_zones fired gate with
      gate := fun no => no.elim
      channel := fun _ h => h
      fewerListed := fun _ h => h
      applyPass := fun no => no.elim
      output := fun _ _ _ _ h => h
      passSeconds := fun {s} k h => h.of_release (s := s) (fun z => by
        simp only [passSeconds, Fin.getElem_fin, Vector.getElem_map, Option.isSome_map]) rfl
      coldStart := fun _ _ no => no.elim
      store := fun _ h => h
      detector := fun _ _ _ _ h => (gateHeld_doors fired gate).writeConfig _ _ (s := State.modStore _ _) h
      sources := fun _ h => h
      reseatDoor := fun _ h => (gateHeld_doors fired gate).reseatDoor (fun h => h) h
      clock := fun _ h => h }

end

theorem anyFiring_congr {s t : State} (same : ∀ z : Zone, firing t z = firing s z) : anyFiring t = anyFiring s :=
  congrArg allZones.any (funext same)

/-- At the end of a finishing command the gate follows. -/
theorem settleGate_follows (s : State) : GateFollows (settleGate s) := by
  unfold settleGate
  split
  · next follows => exact follows
  · split
    · next fires => exact fires.symm
    · next none =>
      have served := serve_frame { s with gateClosed := false }
      have release := served.release (by decide)
      refine (served.gateClosed (by decide)).trans ((Bool.eq_false_iff.2 none).symm.trans (anyFiring_congr fun z => ?_))
      unfold firing
      rw [release]

/-- A quiet command leaves the gate and the firings, and the others end with the gate settled. -/
theorem exec_gateFollows {s : State} (c : Instr) (h : GateFollows s) : ∃ t, exec c s = .next t ∧ GateFollows t := by
  cases kind : Closed.Finishing c with
  | true =>
    obtain ⟨t, ht, _⟩ := (waiting_closed s.pending).exec_finishing trivial (fun _ => trivial) kind rfl
    exact ⟨_, ht, settleGate_follows t⟩
  | false =>
    obtain ⟨t, ht, fires, gate⟩ := (gateHeld_closed (firing s) s.gateClosed).exec_quiet kind (fun no => no.elim)
      ⟨fun _ => rfl, rfl⟩
    exact ⟨t, ht, gate.trans (h.trans (anyFiring_congr fires).symm)⟩

/-! ## The stored settings -/

section
variable {s : State}

theorem settingsInRange_unsignalled : Unsignalled SettingsInRange := fun _ _ _ _ _ h => h

theorem settingsInRange_doors : OverrideClosed SettingsInRange where
  toSignalClosed := settingsInRange_unsignalled.signals
  door _ h := h
  queue _ _ h := h
  stop _ h := h
  start _ _ _ h := h
  egress _ h := h

theorem settingsInRange_zones : ZoneClosed True SettingsInRange where
  toDoorClosed := settingsInRange_doors.toDoorClosed
  line _ h := h
  abortRun := settingsInRange_unsignalled.abortRun
  release _ _ h := h
  firing _ _ _ _ _ h := h
  record _ h := h
  storeRecord _ h := h
  enterStateAs d z st _ _ := settingsInRange_doors.enterStateAs (fun h => h) (fun h => h) d z st
  estimate _ _ h := h
  others _ _ _ _ _ _ _ _ _ h := h

/-- The defaults are in range (R194), the clock unset. -/
theorem erased_inRange : SettingsInRange { s with store := { Store.erased with written := true }, clock := ⟨false, 0, 0⟩ } := by
  refine ⟨Nat.zero_le _, Nat.zero_le _, List.Pairwise.nil, Nat.zero_le _, fun _ no => absurd no List.not_mem_nil,
    List.Pairwise.nil, Nat.zero_le _, fun _ no => absurd no List.not_mem_nil, fun k => ?_, fun i => ?_, fun c => ?_,
    fun z => ?_, fun n => ?_, (by decide : 1 ≤ 2 ∧ 2 ≤ 3), fun o => ?_, fun src => ?_, (by decide : 0 ≤ 7), (by decide : 50 ≤ 255),
    (by decide : 60 ≤ 240)⟩
  all_goals simp only [Store.erased, Fin.getElem_fin, Vector.getElem_replicate, Vector.getElem_ofFn]
  · exact ⟨Nat.zero_le _, fun _ no => absurd no List.not_mem_nil⟩
  · decide
  · decide
  · decide
  · decide
  · exact ⟨Nat.zero_le _, List.nodup_nil⟩
  · exact defaultPriority_le src

theorem coldStart_inRange (straps : BitVec 5) (levels : BitVec 48) (h : SettingsInRange s) :
    SettingsInRange (coldStart straps levels s) := by
  have loaded : SettingsInRange { s with store := loadStore s.store, clock := ⟨false, 0, 0⟩ } := by
    unfold loadStore
    split
    · obtain ⟨_, _, rest⟩ := h
      exact ⟨Nat.zero_le _, Nat.zero_le _, rest⟩
    · exact erased_inRange
  exact loaded

theorem settingsInRange_closed : Closed True True True SettingsInRange :=
  settingsInRange_unsignalled.closed
    { settingsInRange_zones with
      gate := fun _ _ _ h => h
      channel := fun _ h => h
      fewerListed := fun _ h => h
      applyPass := fun hf _ n p h => settingsInRange_zones.applyPass_of_free hf (fun h => h) n p h
      output := fun o _ many nodup h => h.outputs o ⟨many, nodup⟩
      passSeconds := fun _ h => h
      coldStart := fun straps levels _ h => coldStart_inRange straps levels h
      store := fun move h => move.range trivial h
      detector := fun c _ threshold hysteresis h =>
        settingsInRange_doors.writeConfig _ _ (h.detectors c ⟨threshold, hysteresis⟩)
      sources := fun range h => h.sources range
      reseatDoor := fun {_ n _ _} seat h => settingsInRange_doors.reseatDoor (fun h => h) (h.doors n seat.range seat.slots)
      clock := fun clock h => by
        obtain ⟨second, day, rest⟩ := h
        obtain ⟨second', day'⟩ := clock ⟨second, day⟩
        exact ⟨second', day', rest⟩ }

end

end Sys2Proof.Machine

namespace Sys2Proof.Proofs

open Sys2Proof.Machine

/-- Settles O21: a command that may begin or end a firing settles the gate at its end, and any other touches neither. -/
theorem stepKeepsGateFollows : Obligations.StepKeepsGateFollows := fun s h => by
  unfold step
  split
  · exact ⟨s, rfl, h⟩
  · exact exec_gateFollows _ h

/-- Settles O60: each message stores what its check lets through; of the checks those that its fields' widths spare are
answered by the command's being well-formed. -/
theorem stepKeepsSettingsInRange : Obligations.StepKeepsSettingsInRange := fun s h wellFormed => by
  unfold step
  split
  · exact ⟨s, rfl, h, wellFormed⟩
  · next c rest waits =>
    rw [waits] at wellFormed
    obtain ⟨t, ht, keeps⟩ := settingsInRange_closed.exec trivial c (fun _ => trivial) (fun _ => wellFormed c List.mem_cons_self)
      (s := { s with pending := rest }) h
    obtain ⟨u, hu, pending⟩ := everyCommandCompletes.1 { s with pending := rest } c
    cases ht.symm.trans hu
    refine ⟨t, ht, keeps, fun d hd => wellFormed d (List.mem_cons_of_mem _ ?_)⟩
    exact (congrArg (d ∈ ·) pending).mp hd

end Sys2Proof.Proofs
end

section
/-! What the occupancy lists, the inputs and the firing gate can change: one frame per operation. -/

namespace Sys2Proof.Machine

/-! ## The firing gate (R38) -/

section
variable {s : State}

theorem settleGate_of_follows (h : GateFollows s) : settleGate s = s := if_pos h

theorem finish_of_follows (h : GateFollows s) : finish s = .next s := by
  unfold finish
  rw [settleGate_of_follows h]

theorem gateClosed_frame (b : Bool) (s : State) : Frame [.gate, .doors] doorSources s { s with gateClosed := b } :=
  { Frame.refl s with gateClosed := fun no => absurd List.mem_cons_self no }

/-- The gate's settling at the end of a command. -/
theorem settleGate_frame (s : State) : Frame [.gate, .doors] doorSources s (settleGate s) := by
  unfold settleGate
  split
  · exact Frame.refl s
  · split
    · exact gateClosed_frame _ s
    · exact (gateClosed_frame _ s).trans ((serve_frame _).mono (by decide) fun _ h => h)

/-- It goes within every frame that allows the doors and the gate. -/
theorem Frame.settleGate {parts : List Part} {srcs : List Source} {t : State} (h : Frame parts srcs s t)
    (allowed : ∀ p ∈ [Part.gate, .doors], p ∈ parts) (sources : ∀ src ∈ doorSources, src ∈ srcs) :
    Frame parts srcs s (settleGate t) :=
  h.trans ((settleGate_frame t).mono allowed sources)

end

/-! ## A move between two egress states (R25): the doors stay as they are -/

/-- The parts of a zone that moves from one egress state to another. -/
abbrev StayParts : List Part := [.records, .release, .checks]

/-- The sources of such a move. -/
def staySources : List Source := allZones.map Source.discharge ++ allZones.map Source.occupant ++ allZones.map Source.impaired

abbrev StayFrame (s t : State) : Prop := Frame StayParts staySources s t

section
variable {s : State} {z : Zone}

theorem discharge_stays (z : Zone) : Source.discharge z ∈ staySources := by revert z; decide
theorem occupant_stays (z : Zone) : Source.occupant z ∈ staySources := by revert z; decide
theorem impaired_stays (z : Zone) : Source.impaired z ∈ staySources := by revert z; decide

theorem modRelease_stays (z : Zone) (f : Release → Release) (s : State) : StayFrame s (s.modRelease z f) :=
  { Frame.refl s with release := fun no => absurd (by decide) no }

theorem modRecord_stays (z : Zone) (f : ZoneRecord → ZoneRecord) (s : State) : StayFrame s (s.modRecord z f) := by
  constructor <;> intros <;> first | rfl | exact Nat.le_refl _ | (constructor <;> rfl) | contradiction

theorem modRun_parts {parts : List Part} {srcs : List Source} (f : RunRecord → RunRecord) (s : State) :
    Frame parts srcs s (s.modRun f) := by
  constructor <;> intros <;> first | rfl | exact Nat.le_refl _ | exact SameSettings.refl _

theorem setChecks_stays (c : Fin 8) (v : Option Bool) (s : State) :
    StayFrame s (s.modLine fun l => { l with checks := upd l.checks c fun _ => v }) := by
  constructor <;> intros <;> first | rfl | exact Nat.le_refl _ | exact SameSettings.refl _ | contradiction

/-- The override's start and end both lie outside a move between egress states. -/
theorem egressMove_stays {old new : ReleaseState} (from_ : ReleaseState.isEgress old = true)
    (toward : ReleaseState.isEgress new = true) : egressMove old new z s = s := by
  unfold egressMove
  have awake : ReleaseState.isQuiet old = false := by
    cases old <;> first | rfl | cases from_
  rw [awake, toward, from_]
  rfl

theorem enterState_stays {st : ReleaseState} (from_ : ReleaseState.isEgress s.release[z].state = true)
    (toward : ReleaseState.isEgress st = true) : StayFrame s (enterState z st s) := by
  unfold enterState enterStateAs
  dsimp only
  rw [egressMove_stays from_ toward]
  refine Frame.trans ?_ (Frame.setCondition (occupant_stays z) _ _)
  refine Frame.trans ?_ (Frame.setCondition (impaired_stays z) _ _)
  refine Frame.trans ?_ (Frame.write _ _ _ _ _)
  split
  · exact (modRelease_stays z _ s).trans (modRecord_stays z _ _)
  · exact modRelease_stays z _ s

theorem fireBank_stays (z : Zone) (b : Bank) (s : State) : StayFrame s (fireBank z b s) := by
  have aborts (u : State) : StayFrame u (abortRun u) := by
    unfold abortRun
    split
    · exact ((modRun_parts _ u).trans (modRun_parts _ _)).trans (Frame.write _ _ _ _ _)
    · exact Frame.refl u
  unfold fireBank
  refine Frame.trans ?_ ((aborts _).trans (setChecks_stays _ _ _))
  refine Frame.trans ?_ (Frame.write _ _ _ _ _)
  exact ((modRecord_stays _ _ s).trans (modRecord_stays _ _ _)).trans (modRelease_stays _ _ _)

theorem occupantRecords_parts {parts : List Part} {srcs : List Source} (z : Zone) (s : State) :
    Frame parts srcs s (occupantRecords z s) := by
  unfold occupantRecords
  dsimp only
  split
  · split
    · exact Frame.refl s
    · exact Frame.write _ _ _ _ s
  · exact forEach_rel Frame.refl (fun _ _ _ => Frame.trans) _ _ _ fun _ _ u => Frame.write _ _ _ _ u

theorem goDischarge_stays (from_ : ReleaseState.isEgress s.release[z].state = true) : StayFrame s (goDischarge z s) := by
  unfold goDischarge
  split
  · unfold enterAbortHeld
    refine (modRelease_stays z _ s).trans (enterState_stays ?_ rfl)
    rw [State.modRelease_release, upd_same]
    exact from_
  · unfold enterDischarge
    exact (((enterState_stays from_ rfl).trans (fireBank_stays z _ _)).trans (Frame.edgeEvent (discharge_stays z) _)).trans
      (occupantRecords_parts z _)

theorem occupancyCheck_stays (from_ : ReleaseState.isEgress s.release[z].state = true) :
    StayFrame s (occupancyCheck z s) := by
  unfold occupancyCheck
  split
  · exact goDischarge_stays from_
  · exact (enterState_stays from_ rfl).trans (modRelease_stays z _ _)

theorem occupancyReport_stays (z : Zone) (s : State) : StayFrame s (occupancyReport z s) := by
  unfold occupancyReport
  split
  · next ends =>
    obtain ⟨hold, _⟩ := ends
    exact goDischarge_stays (by rw [hold]; rfl)
  · exact Frame.refl s

theorem doorClosing_stays (z : Zone) (s : State) : StayFrame s (doorClosing z s) := by
  unfold doorClosing
  split
  · next ends =>
    obtain ⟨hold, _⟩ := ends
    exact occupancyCheck_stays (by rw [hold]; rfl)
  · exact Frame.refl s

end

/-! ## The occupancy lists (R127) -/

theorem ZoneFrame.toInputFrame {s t : State} (h : ZoneFrame s t) : Frame inputParts inputSources s t :=
  Frame.mono h (by decide) fun _ hs => List.mem_append_left _ (List.mem_append_left _ hs)

theorem DoorFrame.toInputFrame {s t : State} (h : DoorFrame s t) : Frame inputParts inputSources s t :=
  h.toZoneFrame.toInputFrame

theorem staff_mem (n : StaffNo) : Source.staff n ∈ inputSources := by revert n; decide

/-- The parts that a change of a list can set going: a hold for occupants may end, and a lone timer start or stop. -/
abbrev RoomParts : List Part := [.occupancy, .lone] ++ StayParts

/-- The sources of such a change. -/
def roomSources : List Source := staySources ++ allZones.map Source.escort

abbrev RoomFrame (s t : State) : Prop := Frame RoomParts roomSources s t

theorem StayFrame.room {s t : State} (h : StayFrame s t) : RoomFrame s t :=
  Frame.mono h (by decide) fun _ => List.mem_append_left _

/-- The parts that an input's activation can set going beside the input. -/
abbrev ListParts : List Part := [.occupancy, .lone] ++ zoneParts

theorem RoomFrame.listed {s t : State} (h : RoomFrame s t) : Frame ListParts inputSources s t :=
  Frame.mono h (by decide) (by decide)

theorem ZoneFrame.toListFrame {s t : State} (h : ZoneFrame s t) : Frame ListParts inputSources s t :=
  Frame.mono h (by decide) fun _ hs => List.mem_append_left _ (List.mem_append_left _ hs)

theorem DoorFrame.toListFrame {s t : State} (h : DoorFrame s t) : Frame ListParts inputSources s t :=
  h.toZoneFrame.toListFrame

theorem Frame.listed {s t : State} (h : Frame ListParts inputSources s t) : Frame inputParts inputSources s t :=
  h.mono (by decide) fun _ hs => hs

section
variable {s : State}

theorem setLone_parts (z : Zone) (t : Option Nat) (s : State) : Frame [.lone] [] s (s.setLone z t) :=
  { Frame.refl s with loneTimer := fun no => absurd List.mem_cons_self no }

theorem setOutrun_parts (z : Zone) (b : Bool) (s : State) : Frame [.lone] [] s (s.setOutrun z b) :=
  { Frame.refl s with loneOutrun := fun no => absurd List.mem_cons_self no }

theorem stopLone_parts (z : Zone) (s : State) : Frame [.lone] [] s (stopLone z s) := by
  unfold stopLone
  split
  · exact (setLone_parts _ _ _).trans (setOutrun_parts _ _ _)
  · exact Frame.refl s

theorem reLone_parts (z : Zone) (s : State) : Frame [.lone] [] s (reLone z s) := by
  unfold reLone
  split
  · split
    · exact Frame.refl s
    · exact setLone_parts _ _ _
  · exact stopLone_parts _ _

theorem restartLone_parts (z : Zone) (s : State) : Frame [.lone] [] s (restartLone z s) := by
  unfold restartLone
  split
  · exact (stopLone_parts _ _).trans (setLone_parts _ _ _)
  · exact Frame.refl s

/-- What the watch unit does on a change of a list. -/
theorem watchOccupancy_frame (z : Zone) (s : State) :
    Frame [.lone] (allZones.map Source.escort ++ allZones.map Source.occupant) s (watchOccupancy z s) := by
  have escort (y : Zone) : Source.escort y ∈ allZones.map Source.escort ++ allZones.map Source.occupant := by
    revert y; decide
  have occupant : Source.occupant z ∈ allZones.map Source.escort ++ allZones.map Source.occupant := by revert z; decide
  have lone : Frame [.lone] (allZones.map Source.escort ++ allZones.map Source.occupant) s (reLone z s) :=
    (reLone_parts z s).mono (by decide) fun _ no => nomatch no
  have escorts := forEach_rel (R := Frame [.lone] (allZones.map Source.escort ++ allZones.map Source.occupant)) Frame.refl
    (fun _ _ _ => Frame.trans) reEscort allZones (reLone z s) fun y _ u => Frame.setCondition (escort y) _ u
  unfold watchOccupancy
  exact (lone.trans escorts).trans (Frame.setCondition occupant _ _)

theorem occupancyChanged_room (z : Zone) (s : State) :
    Frame ([.lone] ++ StayParts) roomSources s (occupancyChanged z s) :=
  (Frame.mono (occupancyReport_stays z s) (by decide) fun _ => List.mem_append_left _).trans
    ((watchOccupancy_frame z _).mono (by decide) (by decide))

theorem modOccupancy_room (z : Zone) (f : Occupancy → Occupancy) (s : State) : RoomFrame s (s.modOccupancy z f) :=
  { Frame.refl s with occupancy := fun no => absurd (by decide) no }

theorem relist_occupancy (z : Zone) (f : Occupancy → Occupancy) (s : State) :
    (occupancyChanged z (s.modOccupancy z f)).occupancy = upd s.occupancy z f :=
  (occupancyChanged_room z _).occupancy (by decide)

/-- A relation of states that every record and every delivered change of a list stands in (R127). -/
structure ListRel (R : State → State → Prop) : Prop where
  refl : ∀ s, R s s
  trans : ∀ s t u, R s t → R t u → R s u
  write : ∀ (k : RecordKind) (a b : Nat) (d : Detail) (s : State), R s (write k a b d s)
  relist : ∀ (z : Zone) (f : Occupancy → Occupancy) (s : State), R s (occupancyChanged z (s.modOccupancy z f))

namespace ListRel

variable {R : State → State → Prop} (hR : ListRel R)
include hR

theorem removeEntry (cred : Nat) (z : Zone) (s : State) : R s (removeEntry cred z s) := by
  unfold Machine.removeEntry
  split
  · exact hR.relist _ _ _
  · exact hR.refl s

theorem removeEntries (cred : Nat) (l : List Zone) (s : State) : R s (forEach l (Machine.removeEntry cred) s) :=
  forEach_rel hR.refl hR.trans _ _ _ fun z _ u => hR.removeEntry cred z u

theorem setCertain (z : Zone) (b : Bool) (s : State) : R s (setCertain z b s) := by
  unfold Machine.setCertain
  split
  · exact hR.refl s
  · exact hR.relist _ _ _

theorem joinList (full : Bool) (cred : Nat) (z : Zone) (s : State) : R s (joinList full cred z s) := by
  unfold Machine.joinList
  split
  · exact hR.setCertain _ _ _
  · exact hR.relist _ _ _

theorem applyEntry (full : Bool) (n : DoorNo) (cred : Nat) (s : State) : R s (applyEntry full n cred s) := by
  unfold Machine.applyEntry
  split
  · exact hR.removeEntries _ _ _
  · dsimp only
    split
    · exact hR.removeEntries _ _ _
    · exact hR.trans _ _ _ (hR.removeEntries _ _ _) (hR.joinList _ _ _ _)

theorem leaveZones (n : DoorNo) (cred : Nat) (s : State) : R s (leaveZones n cred s) := by
  unfold Machine.leaveZones
  split
  · exact hR.removeEntries _ _ _
  · split
    · dsimp only
      split
      · exact hR.trans _ _ _ (hR.removeEntries _ _ _) (hR.setCertain _ _ _)
      · exact hR.removeEntries _ _ _
    · exact hR.trans _ _ _ (hR.write _ _ _ _ _) (hR.removeEntries _ _ _)

theorem applyExit (full : Bool) (n : DoorNo) (cred : Nat) (s : State) : R s (applyExit full n cred s) := by
  unfold Machine.applyExit
  dsimp only
  split
  · exact hR.leaveZones _ _ _
  · exact hR.trans _ _ _ (hR.leaveZones _ _ _) (hR.joinList _ _ _ _)

theorem applyPass (n : DoorNo) (p : Pass) (s : State) : R s (applyPass n p s) := by
  unfold Machine.applyPass
  dsimp only
  split
  · exact hR.trans _ _ _ (hR.write _ _ _ _ _) (hR.applyEntry _ _ _ _)
  · exact hR.trans _ _ _ (hR.write _ _ _ _ _) (hR.applyExit _ _ _ _)

theorem applyPasses (n : DoorNo) (passes : List Pass) (s : State) : R s (forEach passes (Machine.applyPass n) s) :=
  forEach_rel hR.refl hR.trans _ _ _ fun p _ u => hR.applyPass n p u

theorem rexReport (n : DoorNo) (s : State) : R s (rexReport n s) := by
  unfold Machine.rexReport
  split
  · split
    · exact hR.refl s
    · exact hR.setCertain _ _ _
  · exact hR.refl s

end ListRel

theorem listRel_room : ListRel RoomFrame where
  refl := Frame.refl
  trans _ _ _ := Frame.trans
  write k a b d s := Frame.write k a b d s
  relist z f s := (modOccupancy_room z f s).trans ((occupancyChanged_room z _).mono (by decide) fun _ h => h)

theorem removeEntry_frame (cred : Nat) (z : Zone) (s : State) : Frame ListParts inputSources s (removeEntry cred z s) :=
  (listRel_room.removeEntry cred z s).listed

theorem setCertain_frame (z : Zone) (b : Bool) (s : State) : Frame ListParts inputSources s (setCertain z b s) :=
  (listRel_room.setCertain z b s).listed

theorem applyPass_frame (n : DoorNo) (p : Pass) (s : State) : Frame ListParts inputSources s (applyPass n p s) :=
  (listRel_room.applyPass n p s).listed

/-! ## Contacts, exit requests and staff channels -/

theorem reportOpening_zone (n : DoorNo) (s : State) : ZoneFrame s (reportOpening n s) := by
  unfold reportOpening
  split
  · exact noteOpening_zone _ _
  · exact ZoneFrame.refl s

theorem contactOpened_frame (n : DoorNo) (s : State) : Frame ListParts inputSources s (contactOpened n s) := by
  have opened : Frame ListParts inputSources s (openDoor n s) := (openDoor_frame n s).toListFrame
  have applied := (listRel_room.applyPasses n (openingPasses s n) (openDoor n s)).listed
  exact (opened.trans applied).trans (reportOpening_zone n _).toListFrame

theorem contactClosed_zone (n : DoorNo) (s : State) : ZoneFrame s (contactClosed n s) := by
  unfold contactClosed
  dsimp only
  split
  · exact (closeDoor_frame n s).toZoneFrame.trans (doorClosing_zone _ _)
  · exact (closeDoor_frame n s).toZoneFrame

theorem rexReport_frame (n : DoorNo) (s : State) : Frame ListParts inputSources s (rexReport n s) :=
  (listRel_room.rexReport n s).listed

theorem rexActivation_frame (n : DoorNo) (s : State) : Frame ListParts inputSources s (rexActivation n s) := by
  unfold rexActivation
  split
  · split
    · exact ((release_frame _ _ _ _).toListFrame.trans (Frame.write _ _ _ _ _)).trans (rexReport_frame _ _)
    · exact Frame.write _ _ _ _ _
  · split
    · exact Frame.refl s
    · exact Frame.write _ _ _ _ _

theorem staffActivation_frame (n : StaffNo) (s : State) : Frame ListParts inputSources s (staffActivation n s) := by
  have raised : Frame ListParts inputSources s
      (write .staff n.val 0 (.staff s.store.staff[n].kind) (edgeEvent (Source.staff n) s)) :=
    (Frame.edgeEvent (staff_mem n) s).trans (Frame.write _ _ _ _ _)
  have noted : Frame ListParts inputSources s (write .staff n.val 0 (.staff s.store.staff[n].kind) s) :=
    Frame.write _ _ _ _ _
  unfold staffActivation
  dsimp only
  split
  · split
    · exact noted.trans ((restartLone_parts _ _).mono (by decide) fun _ no => nomatch no)
    · exact noted
  · exact raised

theorem trySettle_zone (n : DoorNo) (s : State) : ZoneFrame s (trySettle n s) := by
  unfold trySettle
  split
  · have settled := ((settleDoor_frame n s).trans (serve_frame _)).toZoneFrame
    dsimp only
    split
    · exact settled.trans (reportOpening_zone _ _)
    · exact settled
  · exact ZoneFrame.refl s

/-! ## Conditioning -/

theorem modInput_frame {parts : List Part} {srcs : List Source} (allowed : Part.inputs ∈ parts) (i : InputNo)
    (f : InputState → InputState) (s : State) : Frame parts srcs s (s.modInput i f) :=
  { Frame.refl s with inputs := fun no => absurd allowed no }

theorem setPhase_frame (i : InputNo) (p : Phase) (s : State) : Frame inputParts inputSources s (setPhase i p s) :=
  modInput_frame (by decide) _ _ _

/-- What a conditioned input delivers leaves the inputs as they are. -/
theorem deliverActivation_frame (i : InputNo) (s : State) :
    Frame ListParts inputSources s (deliverActivation i s) := by
  unfold deliverActivation
  split
  · exact contactOpened_frame _ _
  · exact (boltChange_frame _ _).toListFrame
  · exact rexActivation_frame _ _
  · exact (manualActivation_zone _ _).toListFrame
  · exact (abortActivation_zone _ _).toListFrame
  · exact staffActivation_frame _ _

theorem deliverRelease_zone (i : InputNo) (s : State) : ZoneFrame s (deliverRelease i s) := by
  unfold deliverRelease
  split
  · exact contactClosed_zone _ _
  · exact (boltChange_frame _ _).toZoneFrame
  · exact abortRelease_zone _ _
  all_goals exact ZoneFrame.refl s

theorem activate_frame (i : InputNo) (s : State) : Frame inputParts inputSources s (activate i s) :=
  (setPhase_frame i _ s).trans (deliverActivation_frame i _).listed

theorem deactivate_frame (i : InputNo) (s : State) : Frame inputParts inputSources s (deactivate i s) :=
  (setPhase_frame i _ s).trans (deliverRelease_zone i _).toInputFrame

theorem enterValidate_frame (i : InputNo) (s : State) : Frame inputParts inputSources s (enterValidate i s) := by
  unfold enterValidate
  split
  · exact activate_frame i s
  · exact setPhase_frame i _ s

theorem endDebounceOn_frame (i : InputNo) (s : State) : Frame inputParts inputSources s (endDebounceOn i s) := by
  unfold endDebounceOn
  split
  · exact enterValidate_frame i s
  · exact setPhase_frame i _ s

theorem beginAttempt_frame (i : InputNo) (s : State) : Frame inputParts inputSources s (beginAttempt i s) := by
  unfold beginAttempt
  split
  · exact endDebounceOn_frame i s
  · exact setPhase_frame i _ s

theorem beginRelease_frame (i : InputNo) (s : State) : Frame inputParts inputSources s (beginRelease i s) := by
  unfold beginRelease
  split
  · exact deactivate_frame i s
  · exact setPhase_frame i _ s

theorem judgeRaw_frame (i : InputNo) (s : State) : Frame inputParts inputSources s (judgeRaw i s) := by
  unfold judgeRaw
  split
  · exact beginAttempt_frame i s
  · exact setPhase_frame i _ s
  · exact beginRelease_frame i s
  · exact setPhase_frame i _ s
  · exact Frame.refl s

theorem noteFirst_frame (i : InputNo) (s : State) : Frame inputParts inputSources s (noteFirst i s) := by
  have noted : Frame inputParts inputSources s
      (if Phase.atRest s.inputs[i].phase then s.modInput i fun v => { v with first := true } else s) := by
    split
    · exact modInput_frame (by decide) _ _ _
    · exact Frame.refl s
  unfold noteFirst
  dsimp only
  split
  · exact noted.trans (trySettle_zone _ _).toInputFrame
  · exact noted

theorem rawChange_frame (i : InputNo) (level : Level) (s : State) :
    Frame inputParts inputSources s (rawChange i level s) := by
  unfold rawChange
  split
  · exact Frame.refl s
  · exact ((modInput_frame (by decide) _ _ _).trans (judgeRaw_frame _ _)).trans (noteFirst_frame _ _)

theorem expireDebounce_frame (i : InputNo) (s : State) : Frame inputParts inputSources s (expireDebounce i s) := by
  unfold expireDebounce
  split
  · exact (endDebounceOn_frame _ _).trans (noteFirst_frame _ _)
  · exact (deactivate_frame _ _).trans (noteFirst_frame _ _)
  · exact Frame.refl s

theorem expireValidation_frame (i : InputNo) (s : State) : Frame inputParts inputSources s (expireValidation i s) := by
  unfold expireValidation
  split
  · exact (activate_frame _ _).trans (noteFirst_frame _ _)
  · exact Frame.refl s

/-- The end of an input's event. -/
theorem Frame.settleGate_input {t : State} (h : Frame inputParts inputSources s t) :
    Frame inputParts inputSources s (Machine.settleGate t) :=
  h.settleGate (by decide) fun _ hs => List.mem_append_left _ (List.mem_append_left _ (doorSource_mem hs))

end

end Sys2Proof.Machine
end

section
/-! What a pass makes of the occupancy lists (R122 to R124), and that they stay sound. -/

namespace Sys2Proof.Machine

theorem upd_eq_self {α : Type} {n : Nat} {v : Vector α n} {i : Fin n} {f : α → α} (h : f v[i] = v[i]) : upd v i f = v := by
  refine Vector.ext fun j hj => ?_
  have atJ := upd_get v i ⟨j, hj⟩ f
  split at atJ
  · next same => exact atJ.trans (h.trans (congrArg (fun k : Fin n => v[k]) same))
  · exact atJ

/-- A zone's entry of the lists without a credential. -/
def Occupancy.without (cred : Nat) (o : Occupancy) : Occupancy := { o with list := o.list.erase cred }

/-- A zone's entry once a credential joins it, its list full or not (R123). -/
def Occupancy.joined (full : Bool) (cred : Nat) (o : Occupancy) : Occupancy :=
  if full then { o with certain := false } else { o with list := o.list ++ [cred] }

/-- A zone's entry once a listed credential has left it: an emptied room is certain (R124). -/
def Occupancy.left (cred : Nat) (o : Occupancy) : Occupancy :=
  if cred ∈ o.list ∧ o.list.erase cred = [] then ⟨[], true⟩ else o.without cred

section
variable {s : State} {n : DoorNo} {cred : Nat} {z : Zone}

theorem listed_iff : listed s z cred = true ↔ cred ∈ s.occupancy[z].list := List.contains_iff_mem

theorem Occupancy.without_of_not_mem {o : Occupancy} (h : cred ∉ o.list) : o.without cred = o := by
  unfold Occupancy.without
  rw [List.erase_of_not_mem h]

/-! ## The lists after each operation -/

theorem removeEntry_occupancy : (removeEntry cred z s).occupancy = upd s.occupancy z (Occupancy.without cred) := by
  unfold removeEntry
  split
  · exact relist_occupancy _ _ _
  · next out =>
    exact (upd_eq_self (Occupancy.without_of_not_mem fun mem => out (listed_iff.2 mem))).symm

theorem removeEntries_occupancy (y : Zone) : ∀ {l : List Zone} (_ : l.Nodup) (s : State),
    (forEach l (removeEntry cred) s).occupancy[y] = if y ∈ l then s.occupancy[y].without cred else s.occupancy[y]
  | [], _, s => (if_neg List.not_mem_nil).symm
  | z :: l, nodup, s => by
    obtain ⟨new, rest⟩ := List.nodup_cons.1 nodup
    rw [forEach_cons, removeEntries_occupancy y rest, removeEntry_occupancy, upd_get]
    by_cases here : z = y
    · subst here
      rw [if_neg new, if_pos rfl, if_pos List.mem_cons_self]
    · rw [if_neg here]
      simp only [List.mem_cons, Ne.symm here, false_or]

theorem allZones_nodup : allZones.Nodup := List.nodup_finRange 4

theorem removeAll_occupancy (y : Zone) (s : State) :
    (forEach allZones (removeEntry cred) s).occupancy[y] = s.occupancy[y].without cred :=
  (removeEntries_occupancy y allZones_nodup s).trans (if_pos (List.mem_finRange y))

theorem removeOthers_occupancy (y : Zone) (s : State) :
    (forEach (allZones.filter fun y => decide (y ≠ z)) (removeEntry cred) s).occupancy[y] =
      if y = z then s.occupancy[y] else s.occupancy[y].without cred := by
  rw [removeEntries_occupancy y (allZones_nodup.filter _)]
  have others : y ∈ allZones.filter (fun y => decide (y ≠ z)) ↔ y ≠ z := by
    rw [List.mem_filter, decide_eq_true_eq]
    exact and_iff_right (List.mem_finRange y)
  simp only [others, ne_eq, ite_not]

theorem setCertain_occupancy (b : Bool) :
    (setCertain z b s).occupancy = upd s.occupancy z fun o => { o with certain := b } := by
  unfold setCertain
  split
  · next same => exact (upd_eq_self (by rw [← same])).symm
  · exact relist_occupancy _ _ _

theorem joinList_occupancy (full : Bool) :
    (joinList full cred z s).occupancy = upd s.occupancy z (Occupancy.joined full cred) := by
  unfold joinList appendEntry
  split
  · next isFull => rw [isFull, setCertain_occupancy]; rfl
  · next room => rw [Bool.eq_false_iff.2 room, relist_occupancy]; rfl

theorem setCertain_get (b : Bool) (y : Zone) : (setCertain z b s).occupancy[y] =
    if z = y then { s.occupancy[z] with certain := b } else s.occupancy[y] := by rw [setCertain_occupancy, upd_get]

theorem joinList_get (full : Bool) (y : Zone) : (joinList full cred z s).occupancy[y] =
    if z = y then s.occupancy[z].joined full cred else s.occupancy[y] := by rw [joinList_occupancy, upd_get]

/-- The lists after an ENTRY pass (R123). -/
theorem applyEntry_occupancy (full : Bool) (y : Zone) : (applyEntry full n cred s).occupancy[y] =
    if inside s n = some y then
      if cred ∈ s.occupancy[y].list then s.occupancy[y] else s.occupancy[y].joined full cred
    else s.occupancy[y].without cred := by
  unfold applyEntry
  split
  · next outside => rw [removeAll_occupancy, if_neg (by rw [outside]; nofun)]
  · next z inside =>
    have others := fun y => removeOthers_occupancy (cred := cred) (z := z) y s
    generalize forEach (allZones.filter fun y => decide (y ≠ z)) (removeEntry cred) s = s1 at others
    have atZ : s1.occupancy[z] = s.occupancy[z] := (others z).trans (if_pos rfl)
    have stands : listed s1 z cred = true ↔ cred ∈ s.occupancy[z].list := by rw [listed_iff, atZ]
    dsimp only
    by_cases same : z = y
    · subst same
      rw [if_pos inside]
      by_cases mem : cred ∈ s.occupancy[z].list
      · rw [if_pos (stands.2 mem), if_pos mem, atZ]
      · rw [if_neg fun h => mem (stands.1 h), if_neg mem, joinList_occupancy, upd_same, atZ]
    · have atY : s1.occupancy[y] = s.occupancy[y].without cred := (others y).trans (if_neg (Ne.symm same))
      rw [if_neg fun h => same (Option.some.inj (inside.symm.trans h))]
      split
      · exact atY
      · exact ((joinList_get full y).trans (if_neg same)).trans atY

/-- The lists once a credential has left every zone by a door (R124). -/
theorem leaveZones_occupancy (y : Zone) : (leaveZones n cred s).occupancy[y] =
    if inside s n = some y then s.occupancy[y].left cred else s.occupancy[y].without cred := by
  have all := removeAll_occupancy (cred := cred) y s
  unfold leaveZones
  split
  · next outside => rw [all, if_neg (by rw [outside]; nofun)]
  · next z insideZ =>
    have here : inside s n = some y ↔ z = y := by rw [insideZ, Option.some.injEq]
    split
    · next listed =>
      have mem := listed_iff.1 listed
      have removed := fun y => removeAll_occupancy (cred := cred) y s
      generalize forEach allZones (removeEntry cred) s = s1 at all removed
      dsimp only
      rw [removed z]
      by_cases same : z = y
      · subst same
        rw [if_pos (here.2 rfl)]
        unfold Occupancy.left
        split
        · next empty =>
          have emptied : s.occupancy[z].list.erase cred = [] := List.isEmpty_iff.1 empty
          have certain := (setCertain_get (s := s1) (z := z) true z).trans (if_pos rfl)
          refine certain.trans (Eq.trans ?_ (if_pos ⟨mem, emptied⟩).symm)
          rw [removed z]
          unfold Occupancy.without
          rw [emptied]
        · next stays => exact all.trans (if_neg fun ⟨_, empty⟩ => stays (List.isEmpty_iff.2 empty)).symm
      · rw [if_neg (fun h => same (here.1 h))]
        split
        · exact ((setCertain_get true y).trans (if_neg same)).trans all
        · exact all
    · next out =>
      have notMem : cred ∉ s.occupancy[z].list := fun mem => out (listed_iff.2 mem)
      rw [removeAll_occupancy, (write_signals _ _ _ _ _).occupancy]
      split
      · next h =>
        obtain rfl := here.1 h
        unfold Occupancy.left
        rw [if_neg fun ⟨mem, _⟩ => notMem mem]
      · rfl

/-- The lists after an EXIT pass (R124). -/
theorem applyExit_occupancy (full : Bool) (y : Zone) : (applyExit full n cred s).occupancy[y] =
    if s.store.doors[n].outside = some y then (leaveZones n cred s).occupancy[y].joined full cred
    else (leaveZones n cred s).occupancy[y] := by
  unfold applyExit
  dsimp only
  split
  · next none => rw [if_neg (by rw [none]; nofun)]
  · next z outside =>
    rw [joinList_occupancy, upd_get]
    by_cases same : z = y
    · rw [if_pos same, if_pos (outside.trans (congrArg some same)), same]
    · rw [if_neg same, if_neg fun h => same (Option.some.inj (outside.symm.trans h))]

/-! ## Soundness -/

theorem OccupancySound.sublists {t : State} (h : OccupancySound s)
    (lists : ∀ y : Zone, t.occupancy[y].list.Sublist s.occupancy[y].list) : OccupancySound t := by
  obtain ⟨each, one⟩ := h
  refine ⟨fun y => ?_, fun y z cred hy hz => one y z cred ((lists y).subset hy) ((lists z).subset hz)⟩
  obtain ⟨nodup, few⟩ := each y
  exact ⟨nodup.sublist (lists y), Nat.le_trans (lists y).length_le few⟩

theorem OccupancySound.append {t : State} (h : OccupancySound s) (new : ∀ y : Zone, cred ∉ s.occupancy[y].list)
    (room : s.occupancy[z].list.length < 32)
    (lists : ∀ y : Zone, t.occupancy[y].list = if z = y then s.occupancy[y].list ++ [cred] else s.occupancy[y].list) :
    OccupancySound t := by
  obtain ⟨each, one⟩ := h
  have mem {y : Zone} {c : Nat} (hc : c ∈ t.occupancy[y].list) : c ∈ s.occupancy[y].list ∨ (c = cred ∧ z = y) := by
    rw [lists y] at hc
    split at hc
    · next same => exact (List.mem_append.1 hc).imp id fun new => ⟨List.mem_singleton.1 new, same⟩
    · exact .inl hc
  refine ⟨fun y => ?_, fun x y c hx hy => ?_⟩
  · rw [lists y]
    split
    · next same =>
      subst same
      refine ⟨List.pairwise_append.2 ⟨(each z).1, List.pairwise_singleton _ cred, fun a ha b hb same => ?_⟩, ?_⟩
      · rw [same, List.mem_singleton.1 hb] at ha
        exact new z ha
      · rw [List.length_append]
        exact room
    · exact each y
  · rcases mem hx with oldX | ⟨rfl, rfl⟩
    · rcases mem hy with oldY | ⟨rfl, rfl⟩
      · exact one x y c oldX oldY
      · exact absurd oldX (new x)
    · rcases mem hy with oldY | ⟨_, rfl⟩
      · exact absurd oldY (new y)
      · rfl

theorem Occupancy.without_sublist (o : Occupancy) : (o.without cred).list.Sublist o.list := List.erase_sublist

theorem OccupancySound.not_mem_without (h : OccupancySound s) (y : Zone) :
    cred ∉ (s.occupancy[y].without cred).list :=
  (h.1 y).1.not_mem_erase

theorem OccupancySound.removeEntries (h : OccupancySound s) {l : List Zone} (nodup : l.Nodup) :
    OccupancySound (forEach l (removeEntry cred) s) :=
  h.sublists fun y => by
    rw [removeEntries_occupancy y nodup]
    split
    · exact Occupancy.without_sublist _
    · exact List.Sublist.refl _

theorem OccupancySound.setCertain (h : OccupancySound s) (b : Bool) : OccupancySound (setCertain z b s) :=
  h.sublists fun y => by
    rw [setCertain_occupancy, upd_get]
    split
    · next same => exact same ▸ List.Sublist.refl _
    · exact List.Sublist.refl _

theorem OccupancySound.joinList (h : OccupancySound s) {full : Bool}
    (room : full = false → (∀ y : Zone, cred ∉ s.occupancy[y].list) ∧ s.occupancy[z].list.length < 32) :
    OccupancySound (joinList full cred z s) := by
  cases full
  · obtain ⟨new, few⟩ := room rfl
    refine h.append new few fun y => ?_
    rw [joinList_occupancy, upd_get]
    split
    · next same => exact same ▸ rfl
    · rfl
  · exact h.setCertain false

/-- A pass that does not meet a full list finds room (R123, R124). -/
theorem room_of_not_meetsFull_entry {p : Pass} (entry : p.dir = .entry) (free : meetsFull s n p = false)
    (hz : inside s n = some z) (out : p.cred ∉ s.occupancy[z].list) : s.occupancy[z].list.length < 32 := by
  unfold inside at hz
  unfold meetsFull at free
  rw [entry, hz] at free
  dsimp only at free
  rw [Bool.and_eq_false_iff] at free
  rcases free with isListed | room
  · exact absurd (listed_iff.1 ((Bool.not_eq_eq_eq_not.1 isListed))) out
  · exact Nat.lt_of_not_le (of_decide_eq_false room)

theorem room_of_not_meetsFull_exit {p : Pass} (exit : p.dir = .exit) (free : meetsFull s n p = false)
    (hz : s.store.doors[n].outside = some z) : (s.occupancy[z].without p.cred).list.length < 32 := by
  unfold meetsFull at free
  rw [exit, hz] at free
  exact Nat.lt_of_not_le (of_decide_eq_false free)

theorem OccupancySound.applyEntry (h : OccupancySound s) {full : Bool}
    (room : full = false → ∀ z, inside s n = some z → cred ∉ s.occupancy[z].list → s.occupancy[z].list.length < 32) :
    OccupancySound (applyEntry full n cred s) := by
  unfold Machine.applyEntry
  split
  · exact h.removeEntries allZones_nodup
  · next z inside =>
    have removed := h.removeEntries (cred := cred) (allZones_nodup.filter fun y => decide (y ≠ z))
    have lists := fun y => removeOthers_occupancy (cred := cred) (z := z) y s
    have atZ := lists z
    rw [if_pos rfl] at atZ
    dsimp only
    split
    · exact removed
    · next out =>
      rw [listed_iff, atZ] at out
      refine removed.joinList fun free => ⟨fun y => ?_, ?_⟩
      · rw [lists y]
        split
        · next same => exact same ▸ out
        · exact h.not_mem_without y
      · rw [atZ]
        exact room free z inside out

theorem OccupancySound.leaveZones (h : OccupancySound s) : OccupancySound (leaveZones n cred s) := by
  unfold Machine.leaveZones
  split
  · exact h.removeEntries allZones_nodup
  · have removed := h.removeEntries (cred := cred) allZones_nodup
    split
    · dsimp only
      split
      · exact removed.setCertain true
      · exact removed
    · refine OccupancySound.removeEntries (h.sublists fun y => ?_) allZones_nodup
      have same := congrArg (fun v => v[y].list) (write_signals .unlistedExit n.val cred .blank s).occupancy
      exact same ▸ List.Sublist.refl _

/-- No list holds a credential that has left every zone. -/
theorem leaveZones_list (y : Zone) : (leaveZones n cred s).occupancy[y].list = s.occupancy[y].list.erase cred := by
  rw [leaveZones_occupancy]
  split
  · unfold Occupancy.left
    split
    · next empty => exact empty.2.symm
    · rfl
  · rfl

theorem OccupancySound.applyExit (h : OccupancySound s) {full : Bool}
    (room : full = false → ∀ z, s.store.doors[n].outside = some z → (s.occupancy[z].without cred).list.length < 32) :
    OccupancySound (applyExit full n cred s) := by
  unfold Machine.applyExit
  dsimp only
  split
  · exact h.leaveZones
  · next z outside =>
    refine h.leaveZones.joinList fun free => ⟨fun y => ?_, ?_⟩
    · rw [leaveZones_list]
      exact h.not_mem_without y
    · rw [leaveZones_list]
      exact room free z outside

end

theorem occupancySound_unsignalled : Unsignalled OccupancySound := fun _ _ _ _ _ h => h

theorem OccupancySound.applyPass {s : State} (n : DoorNo) (p : Pass) (h : OccupancySound s) :
    OccupancySound (applyPass n p s) := by
  have same := write_signals .passUsed n.val p.cred (if meetsFull s n p then .listFull else .direction p.dir) s
  have written := occupancySound_unsignalled.of_signals same h
  unfold Machine.applyPass
  dsimp only
  split
  · next entry =>
    refine written.applyEntry fun free z hz out => ?_
    unfold inside at hz
    rw [same.store] at hz
    rw [same.occupancy] at out ⊢
    exact room_of_not_meetsFull_entry entry free hz out
  · next exit =>
    refine written.applyExit fun free z hz => ?_
    rw [same.store] at hz
    rw [same.occupancy]
    exact room_of_not_meetsFull_exit exit free hz

theorem occupancySound_doors : OverrideClosed OccupancySound where
  toSignalClosed := occupancySound_unsignalled.signals
  door _ h := h
  queue _ _ h := h
  stop _ h := h
  start _ _ _ h := h
  egress _ h := h

theorem occupancySound_closed : Closed True False True OccupancySound :=
  occupancySound_unsignalled.closed
    { occupancySound_doors with
      release := fun _ _ h => h
      firing := fun _ _ _ _ _ h => h
      record := fun _ h => h
      storeRecord := fun _ h => h
      enterStateAs := fun d z st _ _ => occupancySound_doors.enterStateAs (fun h => h) (fun h => h) d z st
      estimate := fun _ _ h => h
      others := fun _ _ _ _ _ _ _ _ _ h => h
      gate := fun _ _ _ h => h
      channel := fun _ h => h
      fewerListed := fun {s _ _} fewer h => h.sublists (s := s) fun y => by
        rw [State.modOccupancy_occupancy, upd_get]
        split
        · next same => exact same ▸ fewer
        · exact List.Sublist.refl _
      applyPass := fun _ _ n p h => h.applyPass n p
      output := fun _ _ _ _ h => h
      passSeconds := fun _ h => h
      coldStart := fun {s} straps levels _ _ => by
        have empty (y : Zone) : (coldStart straps levels s).occupancy[y].list = [] := by
          simp only [coldStart, Fin.getElem_fin, Vector.getElem_replicate]
        refine ⟨fun y => ?_, fun y z cred hy => ?_⟩
        · rw [empty y]
          exact ⟨List.nodup_nil, Nat.zero_le _⟩
        · rw [empty y] at hy
          exact absurd hy List.not_mem_nil
      store := fun _ h => h
      detector := fun _ _ _ _ h => occupancySound_doors.writeConfig _ _ (s := State.modStore _ _) h
      sources := fun _ h => h
      reseatDoor := fun _ h => occupancySound_doors.reseatDoor (fun h => h) h
      clock := fun _ h => h }

end Sys2Proof.Machine

namespace Sys2Proof.Proofs

open Sys2Proof.Machine

/-- Settles O43: a credential joins a list only once it stands in none and the list has room
(`OccupancySound.applyPass`); every other change shortens lists. -/
theorem stepKeepsOccupancySound : Obligations.StepKeepsOccupancySound := fun _ =>
  occupancySound_closed.step fun _ h => h

end Sys2Proof.Proofs
end

section
/-! A LEVEL source is pending as its condition says (R150). -/

namespace Sys2Proof.Machine

/-- Every source either keeps condition and pending flag, or its pending flag now takes the recorded condition, in service
excepted, where it stays (R150). -/
structure Settles (s t : State) : Prop where
  inService : t.alarm.inService = s.alarm.inService
  flags : ∀ src : Source,
    (t.alarm.condition[src] = s.alarm.condition[src] ∧ t.alarm.pending[src] = s.alarm.pending[src]) ∨
    t.alarm.pending[src] = if s.alarm.inService.contains src then s.alarm.pending[src] else t.alarm.condition[src]

namespace Settles

theorem refl (s : State) : Settles s s := ⟨rfl, fun _ => .inl ⟨rfl, rfl⟩⟩

theorem of_alarm {s t : State} (h : t.alarm = s.alarm) : Settles s t := by
  refine ⟨by rw [h], fun _ => .inl ?_⟩
  rw [h]
  exact ⟨rfl, rfl⟩

theorem trans {s t u : State} (h1 : Settles s t) (h2 : Settles t u) : Settles s u where
  inService := h2.inService.trans h1.inService
  flags src := by
    have same := h1.inService
    rcases h2.flags src with ⟨cond, pend⟩ | follows
    · rw [cond, pend]
      exact h1.flags src
    · right
      rw [follows, same]
      split
      · next served =>
        rcases h1.flags src with ⟨_, pend⟩ | stays
        · exact pend
        · rw [stays, if_pos served]
      · rfl

end Settles

theorem forEach_settles {α : Type} (f : α → State → State) (hf : ∀ a s, Settles s (f a s)) (l : List α) (s : State) :
    Settles s (forEach l f s) :=
  forEach_rel Settles.refl (fun _ _ _ => Settles.trans) f l s fun a _ => hf a

theorem modOutput_settles (o : OutputNo) (f : Output → Output) (s : State) : Settles s (s.modOutput o f) := .of_alarm rfl

theorem modRun_settles (f : RunRecord → RunRecord) (s : State) : Settles s (s.modRun f) := .of_alarm rfl

theorem suppress_settles (b : Bool) (s : State) : Settles s (s.modAlarm fun a => { a with suppressed := b }) :=
  ⟨rfl, fun _ => .inl ⟨rfl, rfl⟩⟩

theorem pushRecord_settles (k : RecordKind) (a b : Nat) (d : Detail) (s : State) : Settles s (pushRecord k a b d s) := by
  unfold pushRecord
  split <;> exact .of_alarm rfl

section
variable {react : CircuitNo → State → State} (hr : ∀ c s, Settles s (react c s))
include hr

theorem refreshOutputWith_settles (o : OutputNo) (s : State) : Settles s (refreshOutputWith react o s) := by
  unfold refreshOutputWith
  split
  · exact Settles.refl s
  · split
    · exact (modOutput_settles o _ s).trans (hr _ _)
    · exact modOutput_settles o _ s

theorem deliverWith_settles (src : Source) (s : State) : Settles s (deliverWith react src s) :=
  forEach_settles _ (refreshOutputWith_settles hr) _ s

/-- Up to the flag that is set, setting a pending flag settles. -/
theorem setPendingWith_settles (src : Source) (b : Bool) (s : State) :
    Settles (s.modAlarm fun a => { a with pending := upd a.pending src fun _ => b }) (setPendingWith react src b s) := by
  have silent (s : State) : Settles s (clearSilence src s) := forEach_settles _ (fun o s => modOutput_settles o _ s) _ s
  unfold setPendingWith
  split
  · next same =>
    refine .of_alarm ?_
    have kept : upd s.alarm.pending src (fun _ => b) = s.alarm.pending := upd_eq_self same.symm
    rw [State.modAlarm_alarm, kept]
  · refine Settles.trans ?_ (deliverWith_settles hr src _)
    split <;> split
    · exact (silent _).trans (suppress_settles false _)
    · exact suppress_settles false _
    · exact silent _
    · exact Settles.refl _

theorem setConditionWith_settles (src : Source) (b : Bool) (s : State) : Settles s (setConditionWith react src b s) := by
  unfold setConditionWith
  split
  · exact Settles.refl s
  · have delivered := deliverWith_settles hr src
      (s.modAlarm fun a => { a with condition := upd a.condition src fun _ => b })
    dsimp only
    generalize deliverWith react src (s.modAlarm fun a => { a with condition := upd a.condition src fun _ => b }) = s2
      at delivered ⊢
    have served : s2.alarm.inService = s.alarm.inService := delivered.inService
    have flags (x : Source) : (s2.alarm.condition[x] = (upd s.alarm.condition src fun _ => b)[x] ∧
        s2.alarm.pending[x] = s.alarm.pending[x]) ∨
        s2.alarm.pending[x] = if s.alarm.inService.contains x then s.alarm.pending[x] else s2.alarm.condition[x] :=
      delivered.flags x
    split
    · next inService =>
      rw [served] at inService
      refine ⟨served, fun x => ?_⟩
      have atX := flags x
      by_cases same : src = x
      · subst same
        right
        rw [if_pos inService] at atX ⊢
        exact atX.elim And.right id
      · rwa [upd_other _ _ _ _ same] at atX
    · next free =>
      rw [served] at free
      have settled := setPendingWith_settles hr src s2.alarm.condition[src] s2
      generalize setPendingWith react src s2.alarm.condition[src] s2 = t at settled ⊢
      have follows (x : Source) : (t.alarm.condition[x] = s2.alarm.condition[x] ∧
          t.alarm.pending[x] = (upd s2.alarm.pending src fun _ => s2.alarm.condition[src])[x]) ∨
          t.alarm.pending[x] = if s2.alarm.inService.contains x then
            (upd s2.alarm.pending src fun _ => s2.alarm.condition[src])[x] else t.alarm.condition[x] := settled.flags x
      refine ⟨settled.inService.trans served, fun x => ?_⟩
      rw [served] at follows
      have atX := flags x
      have thenX := follows x
      by_cases same : src = x
      · subst same
        right
        rw [if_neg free] at thenX ⊢
        rcases thenX with ⟨cond, pend⟩ | pend
        · rw [cond, pend, upd_same]
        · exact pend
      · rw [upd_other _ _ _ _ same] at atX thenX
        rcases thenX with ⟨cond, pend⟩ | pend
        · rw [cond, pend]
          exact atX
        · right
          rw [pend]
          split
          · next inService =>
            rw [if_pos inService] at atX
            exact atX.elim And.right id
          · rfl

theorem writeWith_settles (k : RecordKind) (a b : Nat) (d : Detail) (s : State) :
    Settles s (writeWith react k a b d s) :=
  (pushRecord_settles k a b d s).trans (setConditionWith_settles hr _ _ _)

end

theorem endRun_settles (s : State) : Settles s (endRun s) :=
  (modRun_settles _ s).trans (writeWith_settles (fun _ s => Settles.refl s) _ _ _ _ _)

theorem passTurn_settles : ∀ (l : List CircuitNo) (s : State), Settles s (passTurn l s)
  | [], s => endRun_settles s
  | c :: l, s => by
    unfold passTurn
    split
    · split
      · exact (modRun_settles _ s).trans (passTurn_settles l _)
      · split
        · exact (modRun_settles _ s).trans (passTurn_settles l _)
        · exact modRun_settles _ s
    · exact passTurn_settles l s

theorem abandonCheck_settles (c : CircuitNo) (s : State) : Settles s (abandonCheck c s) := by
  unfold abandonCheck
  split
  · exact (modRun_settles _ s).trans (passTurn_settles _ _)
  · exact Settles.refl s

theorem write_settles (k : RecordKind) (a b : Nat) (d : Detail) (s : State) : Settles s (write k a b d s) :=
  writeWith_settles abandonCheck_settles k a b d s

theorem setCondition_settles (src : Source) (b : Bool) (s : State) : Settles s (setCondition src b s) :=
  setConditionWith_settles abandonCheck_settles src b s

theorem deliver_settles (src : Source) (s : State) : Settles s (deliver src s) :=
  deliverWith_settles abandonCheck_settles src s

theorem refreshOutput_settles (o : OutputNo) (s : State) : Settles s (refreshOutput o s) :=
  refreshOutputWith_settles abandonCheck_settles o s

theorem liftSuppression_settles (before s : State) : Settles s (liftSuppression before s) := by
  unfold liftSuppression
  split
  · exact suppress_settles false s
  · exact Settles.refl s

theorem changeFlags_settles (c : CircuitNo) (f : CircuitFlags → CircuitFlags) (s : State) :
    Settles s (changeFlags c f s) := by
  have line : Settles s (s.modLine fun l => { l with flags := upd l.flags c f }) := .of_alarm rfl
  have flagged := line.trans (setCondition_settles (Source.circuit c)
    (circuitFlagged (s.modLine fun l => { l with flags := upd l.flags c f }) c) _)
  unfold changeFlags
  dsimp only
  split
  · exact flagged.trans (setCondition_settles _ _ _)
  · exact flagged

theorem changeSupply_settles (b : Bool) (s : State) : Settles s (changeSupply b s) := by
  have line : Settles s (s.modLine fun l => { l with supply := b }) := .of_alarm rfl
  have conditioned := line.trans (setCondition_settles Source.supply b _)
  unfold changeSupply
  exact conditioned.trans (forEach_settles _ (fun _ s => setCondition_settles _ _ s) _ _)

theorem takeResult_settles (check : CheckInProgress) (faulty : Bool) (s : State) :
    Settles s (takeResult check faulty s) := by
  unfold takeResult
  split
  · unfold endSupplyStep
    split
    · refine Settles.trans (Settles.trans ?_ (modRun_settles _ _)) (endRun_settles _)
      refine Settles.trans (Settles.trans ?_ (changeSupply_settles _ _)) (write_settles _ _ _ _ _)
      exact modRun_settles _ s
    · exact (modRun_settles _ s).trans (passTurn_settles _ _)
  · unfold endShortStep
    split
    · refine Settles.trans (Settles.trans ?_ (write_settles _ _ _ _ _)) (passTurn_settles _ _)
      exact (modRun_settles _ s).trans (changeFlags_settles _ _ _)
    · exact modRun_settles _ s
  · unfold endOpenStep
    split
    · refine Settles.trans (Settles.trans ?_ (write_settles _ _ _ _ _)) (passTurn_settles _ _)
      exact (modRun_settles _ s).trans (changeFlags_settles _ _ _)
    · exact (modRun_settles _ s).trans (passTurn_settles _ _)

/-! ## Sources that follow (R150) -/

section
variable {s t : State} {src : Source}

/-- What `PendingFollows` says of one source. -/
def FollowsAt (s : State) (src : Source) : Prop :=
  Source.kind src = .level → s.alarm.pending[src] = (s.alarm.condition[src] && !s.alarm.inService.contains src)

theorem Settles.followsAt (settles : Settles s t) (h : FollowsAt s src) : FollowsAt t src := fun level => by
  have before := h level
  rw [settles.inService]
  rcases settles.flags src with ⟨cond, pend⟩ | follows
  · rw [cond, pend, before]
  · rw [follows]
    split
    · next served =>
      rw [before, served, Bool.not_true, Bool.and_false, Bool.and_false]
    · next free => rw [Bool.eq_false_iff.2 free, Bool.not_false, Bool.and_true]

theorem Settles.pendingFollows (settles : Settles s t) (h : PendingFollows s) : PendingFollows t :=
  fun src => settles.followsAt (h src)

/-- A pending flag that is set to what it should be. -/
theorem setPending_follows {b : Bool} (others : ∀ x, x ≠ src → FollowsAt s x)
    (right_ : Source.kind src = .level → b = (s.alarm.condition[src] && !s.alarm.inService.contains src)) :
    PendingFollows (setPending src b s) := by
  refine (setPendingWith_settles abandonCheck_settles src b s).pendingFollows fun x level => ?_
  simp only [State.modAlarm_alarm]
  by_cases same : src = x
  · subst same
    rw [upd_same]
    exact right_ level
  · rw [upd_other _ _ _ _ same]
    exact others x (Ne.symm same) level

theorem edgeEvent_pendingFollows (kind : Source.kind src = .edge) (h : PendingFollows s) :
    PendingFollows (edgeEvent src s) :=
  setPending_follows (fun x _ => h x) fun level => by rw [kind] at level; cases level

/-- A source taken into service is pending no longer (R153). -/
theorem takeIntoService_pendingFollows (h : PendingFollows s) :
    PendingFollows (takeIntoService src s) := by
  have delivered := deliver_settles src (s.modAlarm fun a => { a with inService := a.inService ++ [src] })
  have served := delivered.inService
  rw [State.modAlarm_alarm] at served
  refine (suppress_settles false _).pendingFollows (setPending_follows (fun x other => ?_) fun _ => ?_)
  · refine delivered.followsAt fun level => ?_
    have kept : (s.alarm.inService ++ [src]).contains x = s.alarm.inService.contains x := by
      rw [List.contains_eq_mem, List.contains_eq_mem]
      simp only [List.mem_append, List.mem_singleton, other, or_false]
    rw [State.modAlarm_alarm, kept]
    exact h x level
  · rw [served, List.contains_iff_mem.2 (List.mem_append_right _ (List.mem_singleton_self src)), Bool.not_true,
      Bool.and_false]

/-- A LEVEL source that leaves service is pending again where its condition holds (R156). -/
theorem leaveService_pendingFollows (nodup : s.alarm.inService.Nodup) (h : PendingFollows s) :
    PendingFollows (leaveService src s) := by
  have delivered := deliver_settles src (s.modAlarm fun a => { a with inService := a.inService.erase src })
  have served := delivered.inService
  rw [State.modAlarm_alarm] at served
  have left : (s.alarm.inService.erase src).contains src = false := by
    rw [Bool.eq_false_iff, Ne, List.contains_iff_mem]
    exact nodup.not_mem_erase
  have others (x : Source) (other : x ≠ src) :
      FollowsAt (deliver src (s.modAlarm fun a => { a with inService := a.inService.erase src })) x := by
    refine delivered.followsAt fun level => ?_
    have kept : (s.alarm.inService.erase src).contains x = s.alarm.inService.contains x := by
      rw [List.contains_eq_mem, List.contains_eq_mem]
      simp only [List.mem_erase_of_ne other]
    rw [State.modAlarm_alarm, kept]
    exact h x level
  have flags := delivered.flags src
  simp only [State.modAlarm_alarm, left, Bool.false_eq_true, if_false] at flags
  unfold leaveService
  dsimp only
  refine (liftSuppression_settles s _).pendingFollows ?_
  split
  · next again =>
    refine setPending_follows others fun _ => ?_
    rw [again.2, served, left]
    rfl
  · next quiet =>
    intro x level
    by_cases same : x = src
    · subst same
      have cond := Bool.eq_false_iff.2 fun holds => quiet ⟨level, holds⟩
      rw [cond, Bool.false_and]
      rcases flags with ⟨condition, pending⟩ | pending
      · rw [pending, h x level, ← condition, cond, Bool.false_and]
      · rw [pending, cond]
    · exact others x same level

theorem reLevel_pendingFollows (src : Source) (h : PendingFollows s) : PendingFollows (reLevel src s) := by
  unfold reLevel
  split
  · next free => exact setPending_follows (fun x _ => h x) fun _ => by rw [free.2, Bool.not_false, Bool.and_true]
  · exact h

theorem InServiceRising.nodup (h : InServiceRising s) : s.alarm.inService.Nodup :=
  List.Pairwise.imp (fun lt same => absurd (congrArg (priority s) same) (Nat.ne_of_lt lt)) h.2.2

end

theorem pendingFollows_onlySignals : OnlySignals (Both InServiceRising PendingFollows) :=
  fun journal alarm outputs run so ss h =>
    ⟨inServiceRising_onlySignals journal alarm outputs run so ss h.1, by
      unfold PendingFollows
      rw [alarm]
      exact h.2⟩

theorem pendingFollows_closed : Closed True False True (Both InServiceRising PendingFollows) :=
  have rising := inServiceRising_closed
  pendingFollows_onlySignals.closed
    { write := fun k a b d h => ⟨rising.write k a b d h.1, (write_settles k a b d _).pendingFollows h.2⟩
      setCondition := fun src b h => ⟨rising.setCondition src b h.1, (setCondition_settles src b _).pendingFollows h.2⟩
      edgeEvent := fun src kind h => ⟨rising.edgeEvent src kind h.1, edgeEvent_pendingFollows kind h.2⟩
      abortRun := fun {s} h => ⟨rising.abortRun h.1, by
        unfold abortRun
        split
        · exact (((modRun_settles _ s).trans (modRun_settles _ _)).trans (write_settles _ _ _ _ _)).pendingFollows h.2
        · exact h.2⟩
      takeIntoService := fun claimed h => ⟨rising.takeIntoService claimed h.1, takeIntoService_pendingFollows h.2⟩
      leaveService := fun src h => ⟨rising.leaveService src h.1, leaveService_pendingFollows h.1.nodup h.2⟩
      reLevel := fun src h => ⟨rising.reLevel src h.1, reLevel_pendingFollows src h.2⟩
      suppress := fun b h => ⟨rising.suppress b h.1, h.2⟩
      silence := fun o b h => ⟨rising.silence o b h.1,
        ((modOutput_settles o _ _).trans (refreshOutput_settles o _)).pendingFollows h.2⟩
      output := fun {s} o v h => by
        have stored : Settles s ((s.modStore fun st => { st with outputs := upd st.outputs o fun _ => v }).modOutput o
          fun w => { w with silenced := false }) := .of_alarm rfl
        exact ⟨inServiceRising_flags.react.refreshOutput o h.1, (stored.trans (refreshOutput_settles o _)).pendingFollows h.2⟩
      acknowledge := fun {s sequence} known h => ⟨rising.acknowledge known h.1, by
        have moved : Settles s { s with journal := { s.journal with boundary := sequence } } := .of_alarm rfl
        unfold acknowledge
        split
        · exact (moved.trans (setCondition_settles Source.backlog _ _)).pendingFollows h.2
        · exact h.2⟩
      startRun := fun _ _ h => h
      takeResult := fun faulty progress h =>
        ⟨rising.takeResult faulty progress h.1, (takeResult_settles _ faulty _).pendingFollows h.2⟩
      coldStart := fun {s} straps levels h => ⟨rising.coldStart straps levels trivial h.1, fun src _ => by
        simp only [coldStart, Fin.getElem_fin, Vector.getElem_replicate, Bool.false_and]⟩
      sources := fun range same h => ⟨rising.sources range same h.1, h.2⟩ }

end Sys2Proof.Machine

namespace Sys2Proof.Proofs

open Sys2Proof.Machine

/-- Settles O50: but for CLAIM, COMPLETE and RESTART, whatever changes a source's condition or pending flag lets the flag
follow (`Settles`). -/
theorem stepKeepsPendingFollows : Obligations.StepKeepsPendingFollows := fun s rising follows => by
  obtain ⟨t, ht, _, keeps⟩ := pendingFollows_closed.step pendingFollows_onlySignals.queue (s := s) ⟨rising, follows⟩
  exact ⟨t, ht, keeps⟩

end Sys2Proof.Proofs
end

section
/-! An annunciator output is on exactly while it is called for and not silenced (R141), and a test run makes one check at
a time (R169, R173). -/

namespace Sys2Proof.Machine

/-! ## One check at a time -/

section
variable {s : State}

theorem oneCheck_onlySignals : OnlySignals OneCheck := fun _ _ _ run _ _ h => by
  unfold OneCheck checking at *
  rwa [run]

/-- No check of a circuit is in progress, nor the supply check. -/
def NoCheck (s : State) : Prop :=
  (s.line.run.state = .running → s.line.run.supply ≠ .testing) ∧ ∀ c : CircuitNo, checking s c = false

theorem NoCheck.oneCheck (h : NoCheck s) : OneCheck s :=
  ⟨fun running testing => absurd testing (h.1 running), fun c _ hc => by rw [h.2 c] at hc; cases hc⟩

/-- A run that is not RUNNING makes no check. -/
theorem noCheck_of_not_running (h : s.line.run.state ≠ .running) : NoCheck s :=
  ⟨fun running => absurd running h, fun _ => decide_eq_false fun running => h running.1⟩

theorem checking_iff {c : CircuitNo} : checking s c = true ↔ s.line.run.state = .running ∧
    (s.line.run.results[c] = .testingShort ∨ s.line.run.results[c] = .testingOpen) := decide_eq_true_iff

theorem checking_setResult {c d : CircuitNo} {r : CircuitResult} : checking (setResult c r s) d = true ↔
    s.line.run.state = .running ∧ if c = d then r = .testingShort ∨ r = .testingOpen
      else s.line.run.results[d] = .testingShort ∨ s.line.run.results[d] = .testingOpen := by
  rw [checking_iff]
  unfold setResult
  rw [State.modRun_line]
  dsimp only
  rw [upd_get]
  split <;> rfl

theorem NoCheck.setResult (h : NoCheck s) {c : CircuitNo} {r : CircuitResult} (rest : r ≠ .testingShort ∧ r ≠ .testingOpen) :
    NoCheck (Machine.setResult c r s) := by
  refine ⟨h.1, fun d => Bool.eq_false_iff.2 fun hd => ?_⟩
  obtain ⟨running, tested⟩ := checking_setResult.1 hd
  split at tested
  · exact tested.elim rest.1 rest.2
  · have none := h.2 d
    rw [checking_iff.2 ⟨running, tested⟩] at none
    cases none

/-- A check that starts where none is in progress is the one. -/
theorem NoCheck.startCheck (h : NoCheck s) (c : CircuitNo) (r : CircuitResult) : OneCheck (Machine.setResult c r s) := by
  have only {d : CircuitNo} (hd : checking (Machine.setResult c r s) d = true) : c = d := by
    obtain ⟨running, tested⟩ := checking_setResult.1 hd
    split at tested
    · next same => exact same
    · have none := h.2 d
      rw [checking_iff.2 ⟨running, tested⟩] at none
      cases none
  exact ⟨fun running testing => absurd testing (h.1 running), fun d e hd he => (only hd).symm.trans (only he)⟩

/-- What leaves the run record leaves its checks. -/
theorem OneCheck.of_run {t : State} (run : t.line.run = s.line.run) (h : OneCheck s) : OneCheck t := by
  unfold OneCheck checking at *
  rwa [run]

theorem NoCheck.of_run {t : State} (run : t.line.run = s.line.run) (h : NoCheck s) : NoCheck t := by
  unfold NoCheck checking at *
  rwa [run]

theorem pushRecord_run (k : RecordKind) (a b : Nat) (d : Detail) : (pushRecord k a b d s).line.run = s.line.run := by
  unfold pushRecord
  split <;> rfl

end

theorem oneCheck_flags : FlagClosed OneCheck where
  push k a b d h := h.of_run (pushRecord_run k a b d)
  output _ h := h
  alarm _ _ h := h

theorem noCheck_flags : FlagClosed NoCheck where
  push k a b d h := h.of_run (pushRecord_run k a b d)
  output _ h := h
  alarm _ _ h := h

theorem noCheck_react : ReactClosed NoCheck where
  toFlagClosed := noCheck_flags
  abandonCheck c h := by
    unfold abandonCheck
    rw [h.2 c]
    exact h

section
variable {s : State}

theorem endRun_oneCheck : OneCheck (endRun s) :=
  oneCheck_flags.endRun (noCheck_of_not_running (s := s.modRun fun run => { run with state := .done }) nofun).oneCheck

/-- The turn passes to one circuit at the most (R173). -/
theorem passTurn_oneCheck : ∀ (l : List CircuitNo) {s : State}, NoCheck s → OneCheck (passTurn l s)
  | [], _, _ => endRun_oneCheck
  | c :: l, s, h => by
    unfold passTurn
    split
    · split
      · exact passTurn_oneCheck l (h.setResult ⟨nofun, nofun⟩)
      · split
        · exact passTurn_oneCheck l (h.setResult ⟨nofun, nofun⟩)
        · exact h.startCheck c .testingShort
    · exact passTurn_oneCheck l h

/-- Once its one check is over, a run makes none. -/
theorem OneCheck.endCheck (h : OneCheck s) {c : CircuitNo} (progress : checking s c = true) {r : CircuitResult}
    (rest : r ≠ .testingShort ∧ r ≠ .testingOpen) : NoCheck (setResult c r s) := by
  obtain ⟨supply, one⟩ := h
  obtain ⟨running, tested⟩ := checking_iff.1 progress
  refine ⟨fun _ testing => ?_, fun d => Bool.eq_false_iff.2 fun hd => ?_⟩
  · rcases supply running testing c with idle | idle <;> rw [idle] at tested <;> exact tested.elim nofun nofun
  · obtain ⟨_, testedD⟩ := checking_setResult.1 hd
    split at testedD
    · exact testedD.elim rest.1 rest.2
    · next other => exact other (one c d progress (checking_iff.2 ⟨running, testedD⟩))

end

theorem oneCheck_react : ReactClosed OneCheck where
  toFlagClosed := oneCheck_flags
  abandonCheck c h := by
    unfold abandonCheck
    split
    · next progress => exact passTurn_oneCheck _ (h.endCheck progress ⟨nofun, nofun⟩)
    · exact h

section
variable {s : State}

/-- The check in progress is made by a RUNNING run, of the supply or of a circuit that is tested. -/
theorem checkInProgress_cases {check : CheckInProgress} (h : checkInProgress s = some check) :
    match check with
    | .supply => s.line.run.state = .running ∧ s.line.run.supply = .testing
    | .short c => checking s c = true
    | .opened c => checking s c = true := by
  unfold checkInProgress at h
  split at h
  · cases h
  · next running =>
    have running := Classical.byContradiction running
    split at h
    · next testing =>
      cases h
      exact ⟨running, testing⟩
    · split at h
      · next c found =>
        cases h
        exact checking_iff.2 ⟨running, .inl (of_decide_eq_true (List.find?_some found :))⟩
      · split at h
        · next c found =>
          cases h
          exact checking_iff.2 ⟨running, .inr (of_decide_eq_true (List.find?_some found :))⟩
        · cases h

theorem noCheck_line {s : State} {f : Line → Line} (same : ∀ l, (f l).run = l.run) (h : NoCheck s) : NoCheck (s.modLine f) :=
  h.of_run (same _)

/-- While the supply is checked every circuit waits (R169). -/
theorem OneCheck.endSupply (h : OneCheck s) (running : s.line.run.state = .running)
    (testing : s.line.run.supply = .testing) {r : SupplyResult} (ends : r ≠ .testing) :
    NoCheck (s.modRun fun run => { run with supply := r }) := by
  refine ⟨fun _ => ends, fun c => Bool.eq_false_iff.2 fun hc => ?_⟩
  obtain ⟨_, tested⟩ := checking_iff.1 hc
  have idle : s.line.run.results[c] = .waiting ∨ s.line.run.results[c] = .notInRun := h.1 running testing c
  change s.line.run.results[c] = .testingShort ∨ s.line.run.results[c] = .testingOpen at tested
  rcases idle with idle | idle <;> rw [idle] at tested <;> exact tested.elim nofun nofun

theorem takeResult_oneCheck {check : CheckInProgress} (faulty : Bool) (progress : checkInProgress s = some check)
    (h : OneCheck s) : OneCheck (takeResult check faulty s) := by
  have now := checkInProgress_cases progress
  unfold takeResult
  cases check with
  | supply =>
    obtain ⟨running, testing⟩ := now
    dsimp only
    unfold endSupplyStep
    split
    · exact endRun_oneCheck
    · exact passTurn_oneCheck _ (h.endSupply running testing nofun)
  | short c =>
    dsimp only
    unfold endShortStep
    split
    · exact passTurn_oneCheck _
        (noCheck_react.write _ _ _ _ (noCheck_react.changeFlags noCheck_line _ _ (h.endCheck now ⟨nofun, nofun⟩)))
    · have ended : NoCheck (setResult c .passed s) := h.endCheck now ⟨nofun, nofun⟩
      refine (ended.startCheck c .testingOpen).of_run ?_
      unfold setResult
      simp only [State.modRun_line, upd_upd]
  | opened c =>
    dsimp only
    unfold endOpenStep
    split
    · exact passTurn_oneCheck _
        (noCheck_react.write _ _ _ _ (noCheck_react.changeFlags noCheck_line _ _ (h.endCheck now ⟨nofun, nofun⟩)))
    · exact passTurn_oneCheck _ (h.endCheck now ⟨nofun, nofun⟩)

theorem fresh_oneCheck {kind : RunKind} {set : CircuitNo → Bool} (run : s.line.run = RunRecord.fresh kind set) :
    OneCheck s := by
  have idle (c : CircuitNo) : s.line.run.results[c] = .waiting ∨ s.line.run.results[c] = .notInRun := by
    rw [run]
    simp only [RunRecord.fresh, Fin.getElem_fin, Vector.getElem_ofFn]
    split
    · exact .inl rfl
    · exact .inr rfl
  refine ⟨fun _ _ => idle, fun c _ hc => ?_⟩
  obtain ⟨_, tested⟩ := checking_iff.1 hc
  rcases idle c with waits | out
  · rw [waits] at tested
    exact tested.elim nofun nofun
  · rw [out] at tested
    exact tested.elim nofun nofun

end

theorem oneCheck_closed : Closed True False True OneCheck :=
  oneCheck_onlySignals.closed
    { oneCheck_react.signals with
      abortRun := fun {s} h => by
        unfold abortRun
        split
        · refine oneCheck_react.write _ _ _ _ (noCheck_of_not_running ?_).oneCheck
          exact (nofun : RunState.aborted ≠ .running)
        · exact h
      takeIntoService := fun _ h => oneCheck_react.takeIntoService h
      leaveService := fun _ h => oneCheck_react.leaveService h
      reLevel := fun _ h => oneCheck_react.reLevel _ h
      suppress := fun _ h => h
      silence := fun o _ h => oneCheck_react.refreshOutput o h
      output := fun o _ h => oneCheck_react.refreshOutput o h
      acknowledge := fun _ h => by
        unfold acknowledge
        split
        · exact oneCheck_react.setCondition Source.backlog _ h
        · exact h
      startRun := fun _ _ _ => fresh_oneCheck rfl
      takeResult := fun faulty progress h => takeResult_oneCheck faulty progress h
      coldStart := fun _ _ _ => fresh_oneCheck rfl
      sources := fun _ _ h => h }

/-! ## Outputs that follow -/

/-- Every output but the excused ones is on exactly while it should be. -/
def OutputsFollowBut (X : OutputNo → Prop) (s : State) : Prop := ∀ o : OutputNo, X o ∨ s.outputs[o].on = outputOn s o

theorem outputsFollow_iff {s : State} : OutputsFollow s ↔ OutputsFollowBut (fun _ => False) s :=
  forall_congr' fun _ => (false_or _ ▸ Iff.rfl)

/-- The outputs whose list holds the source. -/
def Lists (s : State) (src : Source) (o : OutputNo) : Prop := src ∈ s.store.outputs[o].sources

section
variable {s : State} {X : OutputNo → Prop} {src : Source} {o : OutputNo}

theorem mem_outputsListing : o ∈ outputsListing s src ↔ Lists s src o := by
  simp only [outputsListing, allOutputs, List.mem_filter, List.mem_finRange, true_and, List.contains_iff_mem, Lists]

theorem OutputsFollowBut.mono {Y : OutputNo → Prop} (h : OutputsFollowBut X s) (sub : ∀ o, X o → Y o) :
    OutputsFollowBut Y s := fun o => (h o).imp (sub o) id

theorem any_congr_mem {α : Type} {l : List α} {p q : α → Bool} (h : ∀ x ∈ l, p x = q x) : l.any p = l.any q := by
  rw [Bool.eq_iff_iff, List.any_eq_true, List.any_eq_true]
  exact exists_congr fun x => and_congr_right fun hx => by rw [h x hx]

/-- The flags of a source by which an output goes. -/
def SameFlags (s t : State) (src : Source) : Prop :=
  t.alarm.pending[src] = s.alarm.pending[src] ∧ t.alarm.condition[src] = s.alarm.condition[src] ∧
  t.alarm.inService.contains src = s.alarm.inService.contains src

/-- Whether an output should be on is a matter of its settings, its silence, and the flags of its sources. -/
theorem outputOn_congr {t : State} (settings : t.store.outputs[o] = s.store.outputs[o])
    (silenced : t.outputs[o].silenced = s.outputs[o].silenced)
    (flags : ∀ src, Lists s src o → SameFlags s t src) : outputOn t o = outputOn s o := by
  have called : calledFor t o = calledFor s o := by
    unfold calledFor
    rw [settings]
    cases s.store.outputs[o].mode <;> dsimp only
    · refine any_congr_mem fun src hs => ?_
      obtain ⟨pending, _, inService⟩ := flags src hs
      rw [pending, inService]
    · refine any_congr_mem fun src hs => ?_
      obtain ⟨pending, condition, _⟩ := flags src hs
      unfold conditionPresent
      rw [pending, condition]
  unfold outputOn
  rw [called, silenced]

/-- A change of one source's flags is the business of the outputs that list it. -/
theorem OutputsFollowBut.flagged {t : State} (h : OutputsFollowBut X s) (settings : t.store.outputs = s.store.outputs)
    (outputs : t.outputs = s.outputs) (flags : ∀ x, x ≠ src → SameFlags s t x) :
    OutputsFollowBut (fun o => X o ∨ Lists s src o) t := fun o => by
  by_cases listed : Lists s src o
  · exact .inl (.inr listed)
  · refine (h o).imp .inl fun follows => ?_
    rw [outputs, follows]
    exact (outputOn_congr (s := s) (by rw [settings]) (by rw [outputs]) fun x hx => flags x fun same =>
      listed (same ▸ hx)).symm

theorem OutputsFollowBut.of_same {t : State} (h : OutputsFollowBut X s) (settings : t.store.outputs = s.store.outputs)
    (outputs : t.outputs = s.outputs) (alarm : ∀ x, SameFlags s t x) : OutputsFollowBut X t := fun o => by
  refine (h o).imp id fun follows => ?_
  rw [outputs, follows]
  exact (outputOn_congr (s := s) (by rw [settings]) (by rw [outputs]) fun x _ => alarm x).symm

theorem sameFlags_of_alarm {t : State} (h : t.alarm = s.alarm) (x : Source) : SameFlags s t x := by
  unfold SameFlags
  rw [h]
  exact ⟨rfl, rfl, rfl⟩

/-- An excused output may change, the others are left. -/
theorem OutputsFollowBut.modOutput (h : OutputsFollowBut X s) {f : Output → Output}
    (follows : X o ∨ (f s.outputs[o]).on = outputOn (s.modOutput o f) o) : OutputsFollowBut X (s.modOutput o f) := fun p => by
  by_cases same : o = p
  · subst same
    exact follows.imp id fun follows => by rw [State.modOutput_outputs, upd_same, follows]
  · refine (h p).imp id fun kept => ?_
    rw [State.modOutput_outputs, upd_other _ _ _ _ same, kept]
    exact (outputOn_congr (s := s) (t := s.modOutput o f) rfl
      (by rw [State.modOutput_outputs, upd_other _ _ _ _ same]) fun x _ => sameFlags_of_alarm rfl x).symm

/-- The light's own state is nothing to whether it should be lit. -/
theorem outputOn_modOutput {f : Output → Output} (silenced : ∀ v, (f v).silenced = v.silenced) :
    outputOn (s.modOutput o f) o = outputOn s o :=
  outputOn_congr rfl (by rw [State.modOutput_outputs, upd_same, silenced]) fun x _ => sameFlags_of_alarm rfl x

end

/-- What a switched-on output does leaves the outputs following, whichever are excused. -/
def ReactFollows (react : CircuitNo → State → State) : Prop :=
  ∀ (X : OutputNo → Prop) (c : CircuitNo) (s : State), OutputsFollowBut X s → OutputsFollowBut X (react c s)

section
variable {s : State} {X : OutputNo → Prop} {react : CircuitNo → State → State} (hr : ReactFollows react)
include hr

/-- Re-evaluated, an output is excused no longer. -/
theorem refreshOutputWith_follows (o : OutputNo) (h : OutputsFollowBut X s) :
    OutputsFollowBut (fun p => X p ∧ p ≠ o) (refreshOutputWith react o s) := by
  have others {t : State} (ht : OutputsFollowBut X t) (follows : t.outputs[o].on = outputOn t o) :
      OutputsFollowBut (fun p => X p ∧ p ≠ o) t := fun p => by
    by_cases same : p = o
    · subst same
      exact .inr follows
    · exact (ht p).imp (fun excused => ⟨excused, same⟩) id
  have set {b : Bool} (calls : outputOn s o = b) :
      OutputsFollowBut (fun p => X p ∧ p ≠ o) (s.modOutput o fun v => { v with on := b }) := by
    have should := (outputOn_modOutput (o := o) (f := fun v : Output => { v with on := b }) fun _ => rfl).trans calls
    have kept := h.modOutput (o := o) (f := fun v => { v with on := b }) (.inr should.symm)
    refine others kept ?_
    rw [State.modOutput_outputs, upd_same, should]
  unfold refreshOutputWith
  split
  · next same => exact others h same.symm
  · split
    · next calls => exact hr _ _ _ (set calls)
    · next silent => exact set (Bool.eq_false_iff.2 silent)

theorem forEach_refresh_follows : ∀ (l : List OutputNo) {s : State} {X : OutputNo → Prop}, OutputsFollowBut X s →
    OutputsFollowBut (fun p => X p ∧ p ∉ l) (forEach l (refreshOutputWith react) s)
  | [], _, _, h => h.mono fun _ excused => ⟨excused, List.not_mem_nil⟩
  | o :: l, _, _, h =>
    (forEach_refresh_follows l (refreshOutputWith_follows hr o h)).mono fun _ ⟨⟨excused, first⟩, rest⟩ =>
      ⟨excused, fun mem => (List.mem_cons.1 mem).elim first rest⟩

/-- Delivered, a change of a source's flags excuses no output any longer (R141, R159). -/
theorem deliverWith_follows {t : State} {src : Source} (settings : t.store = s.store)
    (h : OutputsFollowBut (fun o => X o ∨ Lists s src o) t) : OutputsFollowBut X (deliverWith react src t) :=
  (forEach_refresh_follows hr (outputsListing t src) h).mono fun o ⟨excused, out⟩ =>
    excused.resolve_right fun listed => out (mem_outputsListing.2 (by
      unfold Lists at listed ⊢
      rwa [settings]))

omit hr in
theorem clearSilence_follows {src : Source} (h : OutputsFollowBut X s) (excused : ∀ o, Lists s src o → X o) :
    OutputsFollowBut X (clearSilence src s) :=
  forEach_keeps (P := OutputsFollowBut X) _ (outputsListing s src) s
    (fun o ho _ h => h.modOutput (.inl (excused o (mem_outputsListing.1 ho)))) h

omit hr in
theorem clearSilence_store (src : Source) (s : State) : (clearSilence src s).store = s.store :=
  (clearSilence_affects (srcs := [src]) src s (.inl (List.mem_singleton_self src))).store

theorem setPendingWith_follows (src : Source) (b : Bool) (h : OutputsFollowBut X s) :
    OutputsFollowBut X (setPendingWith react src b s) := by
  unfold setPendingWith
  split
  · exact h
  · have flagged : OutputsFollowBut (fun o => X o ∨ Lists s src o)
        (s.modAlarm fun a => { a with pending := upd a.pending src fun _ => b }) :=
      h.flagged rfl rfl fun x other => ⟨upd_other _ _ _ _ (Ne.symm other), rfl, rfl⟩
    have silent := clearSilence_follows (src := src) flagged fun o listed => .inr listed
    have kept := clearSilence_store src (s.modAlarm fun a => { a with pending := upd a.pending src fun _ => b })
    dsimp only
    generalize clearSilence src (s.modAlarm fun a => { a with pending := upd a.pending src fun _ => b }) = u at silent kept ⊢
    refine deliverWith_follows (s := s) hr ?_ ?_
    · split <;> split
      · exact kept
      · rfl
      · exact kept
      · rfl
    · split <;> split
      · exact silent.of_same rfl rfl fun _ => ⟨rfl, rfl, rfl⟩
      · exact flagged.of_same rfl rfl fun _ => ⟨rfl, rfl, rfl⟩
      · exact silent
      · exact flagged

theorem setConditionWith_follows (src : Source) (b : Bool) (h : OutputsFollowBut X s) :
    OutputsFollowBut X (setConditionWith react src b s) := by
  unfold setConditionWith
  split
  · exact h
  · have delivered := deliverWith_follows (s := s) hr
      (t := s.modAlarm fun a => { a with condition := upd a.condition src fun _ => b }) rfl
      (h.flagged rfl rfl fun x other => ⟨rfl, upd_other _ _ _ _ (Ne.symm other), rfl⟩)
    dsimp only
    split
    · exact delivered
    · exact setPendingWith_follows hr _ _ delivered

theorem writeWith_follows (k : RecordKind) (a b : Nat) (d : Detail) (h : OutputsFollowBut X s) :
    OutputsFollowBut X (writeWith react k a b d s) := by
  refine setConditionWith_follows hr _ _ ?_
  unfold pushRecord
  split
  · exact h.of_same rfl rfl fun _ => ⟨rfl, rfl, rfl⟩
  · exact h

end

theorem endRun_follows {X : OutputNo → Prop} {s : State} (h : OutputsFollowBut X s) : OutputsFollowBut X (endRun s) :=
  writeWith_follows (fun _ _ _ h => h) _ _ _ _ (h.of_same rfl rfl fun _ => ⟨rfl, rfl, rfl⟩)

theorem passTurn_follows {X : OutputNo → Prop} : ∀ (l : List CircuitNo) {s : State}, OutputsFollowBut X s →
    OutputsFollowBut X (passTurn l s)
  | [], _, h => endRun_follows h
  | c :: l, s, h => by
    have marked (r : CircuitResult) : OutputsFollowBut X (setResult c r s) := h.of_same rfl rfl fun _ => ⟨rfl, rfl, rfl⟩
    unfold passTurn
    split
    · split
      · exact passTurn_follows l (marked _)
      · split
        · exact passTurn_follows l (marked _)
        · exact marked _
    · exact passTurn_follows l h

theorem abandonCheck_follows : ReactFollows abandonCheck := fun X c s h => by
  unfold abandonCheck
  split
  · exact passTurn_follows _ (h.of_same rfl rfl fun _ => ⟨rfl, rfl, rfl⟩)
  · exact h

section
variable {s : State}

theorem outputsFollow_of_same {t : State} (settings : t.store.outputs = s.store.outputs) (outputs : t.outputs = s.outputs)
    (alarm : ∀ x, SameFlags s t x) (h : OutputsFollow s) : OutputsFollow t :=
  outputsFollow_iff.2 ((outputsFollow_iff.1 h).of_same settings outputs alarm)

theorem outputsFollow_line {f : Line → Line} (h : OutputsFollow s) : OutputsFollow (s.modLine f) :=
  outputsFollow_of_same (s := s) rfl rfl (fun _ => ⟨rfl, rfl, rfl⟩) h

theorem setPending_outputsFollow (src : Source) (b : Bool) (h : OutputsFollow s) : OutputsFollow (setPending src b s) :=
  outputsFollow_iff.2 (setPendingWith_follows abandonCheck_follows src b (outputsFollow_iff.1 h))

theorem setCondition_outputsFollow (src : Source) (b : Bool) (h : OutputsFollow s) :
    OutputsFollow (setCondition src b s) :=
  outputsFollow_iff.2 (setConditionWith_follows abandonCheck_follows src b (outputsFollow_iff.1 h))

theorem write_outputsFollow (k : RecordKind) (a b : Nat) (d : Detail) (h : OutputsFollow s) :
    OutputsFollow (write k a b d s) :=
  outputsFollow_iff.2 (writeWith_follows abandonCheck_follows k a b d (outputsFollow_iff.1 h))

/-- An output whose state or settings change is re-evaluated. -/
theorem refreshOutput_outputsFollow (o : OutputNo) (h : OutputsFollowBut (· = o) s) :
    OutputsFollow (refreshOutput o s) :=
  outputsFollow_iff.2 ((refreshOutputWith_follows abandonCheck_follows o h).mono fun _ ⟨same, other⟩ => other same)

theorem liftSuppression_outputsFollow (before : State) (h : OutputsFollow s) : OutputsFollow (liftSuppression before s) := by
  unfold liftSuppression
  split
  · exact outputsFollow_of_same (s := s) rfl rfl (fun _ => ⟨rfl, rfl, rfl⟩) h
  · exact h

/-- The in-service list changes by one source, delivered. -/
theorem deliver_outputsFollow {src : Source} {list : List Source}
    (others : ∀ x, x ≠ src → list.contains x = s.alarm.inService.contains x) (h : OutputsFollow s) :
    OutputsFollow (deliver src (s.modAlarm fun a => { a with inService := list })) :=
  outputsFollow_iff.2 (deliverWith_follows (s := s) abandonCheck_follows rfl
    ((outputsFollow_iff.1 h).flagged rfl rfl fun x other => ⟨rfl, rfl, others x other⟩))

theorem takeIntoService_outputsFollow (src : Source) (h : OutputsFollow s) : OutputsFollow (takeIntoService src s) := by
  have delivered := deliver_outputsFollow (src := src) (list := s.alarm.inService ++ [src]) (fun x other => by
    rw [List.contains_eq_mem, List.contains_eq_mem]
    simp only [List.mem_append, List.mem_singleton, other, or_false]) h
  exact outputsFollow_of_same (s := setPending src false
    (deliver src (s.modAlarm fun a => { a with inService := s.alarm.inService ++ [src] }))) rfl rfl
    (fun _ => ⟨rfl, rfl, rfl⟩) (setPending_outputsFollow src false delivered)

theorem leaveService_outputsFollow (src : Source) (h : OutputsFollow s) : OutputsFollow (leaveService src s) := by
  have delivered := deliver_outputsFollow (src := src) (list := s.alarm.inService.erase src) (fun x other => by
    rw [List.contains_eq_mem, List.contains_eq_mem]
    simp only [List.mem_erase_of_ne other]) h
  refine liftSuppression_outputsFollow s ?_
  split
  · exact setPending_outputsFollow _ _ delivered
  · exact delivered

theorem outputsFollow_signals : SignalClosed OutputsFollow where
  write k a b d h := write_outputsFollow k a b d h
  setCondition src b h := setCondition_outputsFollow src b h
  edgeEvent src _ h := setPending_outputsFollow src true h

theorem takeResult_outputsFollow (check : CheckInProgress) (faulty : Bool) (h : OutputsFollow s) :
    OutputsFollow (takeResult check faulty s) := by
  have turn {t : State} (l : List CircuitNo) (ht : OutputsFollow t) : OutputsFollow (passTurn l t) :=
    outputsFollow_iff.2 (passTurn_follows l (outputsFollow_iff.1 ht))
  have ended {t : State} (ht : OutputsFollow t) : OutputsFollow (endRun t) :=
    outputsFollow_iff.2 (endRun_follows (outputsFollow_iff.1 ht))
  have run {t : State} {f : RunRecord → RunRecord} (ht : OutputsFollow t) : OutputsFollow (t.modRun f) :=
    outputsFollow_of_same (s := t) rfl rfl (fun _ => ⟨rfl, rfl, rfl⟩) ht
  have flags {t : State} (c : CircuitNo) (f : CircuitFlags → CircuitFlags) (ht : OutputsFollow t) :
      OutputsFollow (changeFlags c f t) := by
    have flagged := setCondition_outputsFollow (Source.circuit c)
      (circuitFlagged (t.modLine fun l => { l with flags := upd l.flags c f }) c)
      (outputsFollow_line (f := fun l => { l with flags := upd l.flags c f }) ht)
    unfold changeFlags
    dsimp only
    split
    · exact setCondition_outputsFollow _ _ flagged
    · exact flagged
  have supply {t : State} (b : Bool) (ht : OutputsFollow t) : OutputsFollow (changeSupply b t) := by
    have conditioned := setCondition_outputsFollow Source.supply b
      (outputsFollow_line (f := fun l => { l with supply := b }) ht)
    unfold changeSupply
    exact forEach_closed (fun _ _ h => setCondition_outputsFollow _ _ h) _ conditioned
  unfold takeResult
  split
  · unfold endSupplyStep
    split
    · exact ended (run (write_outputsFollow _ _ _ _ (supply _ (run h))))
    · exact turn _ (run h)
  · unfold endShortStep
    split
    · exact turn _ (write_outputsFollow _ _ _ _ (flags _ _ (run h)))
    · exact run h
  · unfold endOpenStep
    split
    · exact turn _ (write_outputsFollow _ _ _ _ (flags _ _ (run h)))
    · exact turn _ (run h)

end

theorem outputsFollow_onlySignals : OnlySignals OutputsFollow := fun {s _} _ alarm outputs _ settings _ h =>
  outputsFollow_of_same (s := s) settings outputs (sameFlags_of_alarm alarm) h

/-- After power-on nothing is pending, true or in service, so every output is off. -/
theorem coldStart_output {s : State} {straps : BitVec 5} {levels : BitVec 48} (o : OutputNo) :
    (coldStart straps levels s).outputs[o].on = outputOn (coldStart straps levels s) o := by
  have quiet (src : Source) : (coldStart straps levels s).alarm.pending[src] = false ∧
      (coldStart straps levels s).alarm.condition[src] = false := by
    simp only [coldStart, Fin.getElem_fin, Vector.getElem_replicate, and_self]
  have off : calledFor (coldStart straps levels s) o = false := by
    unfold calledFor
    split
    · refine Bool.eq_false_iff.2 fun calls => ?_
      obtain ⟨src, _, flagged⟩ := List.any_eq_true.1 calls
      rw [(quiet src).1] at flagged
      cases flagged
    · refine Bool.eq_false_iff.2 fun calls => ?_
      obtain ⟨src, _, present⟩ := List.any_eq_true.1 calls
      unfold conditionPresent at present
      rw [(quiet src).1, (quiet src).2] at present
      split at present <;> cases present
  unfold outputOn
  rw [off]
  simp only [coldStart, Fin.getElem_fin, Vector.getElem_replicate, Bool.false_and]

theorem outputsFollow_closed : Closed True False True OutputsFollow :=
  outputsFollow_onlySignals.closed
    { outputsFollow_signals with
      abortRun := fun {s} h => by
        unfold abortRun
        split
        · exact write_outputsFollow _ _ _ _ (outputsFollow_of_same (s := s) rfl rfl (fun _ => ⟨rfl, rfl, rfl⟩) h)
        · exact h
      takeIntoService := fun _ h => takeIntoService_outputsFollow _ h
      leaveService := fun _ h => leaveService_outputsFollow _ h
      reLevel := fun src h => by
        unfold reLevel
        split
        · exact setPending_outputsFollow _ _ h
        · exact h
      suppress := fun {s} b h => outputsFollow_of_same (s := s) rfl rfl (fun _ => ⟨rfl, rfl, rfl⟩) h
      silence := fun o b h => refreshOutput_outputsFollow o
        (((outputsFollow_iff.1 h).mono fun _ no => no.elim).modOutput (.inl rfl))
      output := fun {s} o v h => by
        refine refreshOutput_outputsFollow o (OutputsFollowBut.modOutput (fun p => ?_) (.inl rfl))
        by_cases same : p = o
        · exact .inl same
        · right
          have kept : outputOn (s.modStore fun st => { st with outputs := upd st.outputs o fun _ => v }) p = outputOn s p :=
            outputOn_congr (upd_other _ _ _ _ (Ne.symm same)) rfl fun _ _ => ⟨rfl, rfl, rfl⟩
          exact (h p).trans kept.symm
      acknowledge := fun {s _} _ h => by
        unfold acknowledge
        split
        · exact setCondition_outputsFollow Source.backlog _
            (outputsFollow_of_same (s := s) rfl rfl (fun _ => ⟨rfl, rfl, rfl⟩) h)
        · exact h
      startRun := fun {s} _ _ h => outputsFollow_of_same (s := s) rfl rfl (fun _ => ⟨rfl, rfl, rfl⟩) h
      takeResult := fun faulty _ h => takeResult_outputsFollow _ faulty h
      coldStart := fun _ _ _ o => coldStart_output o
      sources := fun {s _} _ _ h => outputsFollow_of_same (s := s) rfl rfl (fun _ => ⟨rfl, rfl, rfl⟩) h }

end Sys2Proof.Machine

namespace Sys2Proof.Proofs

open Sys2Proof.Machine

/-- Settles O51: each change of a source, a list or a silence re-evaluates the outputs it can bear on, whatever the line
supervisor does in between; and the turn of a test run passes only when no check is in progress. -/
theorem stepKeepsOutputsAndOneCheck : Obligations.StepKeepsOutputsAndOneCheck :=
  ⟨fun _ => outputsFollow_closed.step outputsFollow_onlySignals.queue,
    fun _ => oneCheck_closed.step oneCheck_onlySignals.queue⟩

end Sys2Proof.Proofs
end

section
/-! The state at reset, the numbers of items, and the messages that only reply (R195, R196, R200). -/

namespace Sys2Proof.Machine

/-! ## Items by number -/

section
variable {n x : Nat}

theorem item_val (i : Fin n) : item n i.val = some i := dif_pos i.isLt
theorem item_of_ge (h : n ≤ x) : item n x = none := dif_neg (Nat.not_lt_of_le h)

theorem zoneNumbered_val (z : Zone) : zoneNumbered (z.val + 1) = some z := item_val z
theorem sourceNumbered_val (src : Source) : sourceNumbered (src.val + 1) = some src := item_val src

theorem zoneNumbered_of_bad (h : x = 0 ∨ 4 < x) : zoneNumbered x = none := by
  unfold zoneNumbered
  split
  · rfl
  · exact item_of_ge (by omega)

end

/-! ## Reset -/

/-- What the first POWER_ON leaves, by evaluation. -/
theorem powerOn_reset : powerOn 1 0 { State.reset with store := Store.erased, journal := Journal.erased } = State.reset := by
  decide +kernel

theorem gateFollows_reset : GateFollows State.reset := by
  unfold GateFollows
  decide +kernel

theorem occupancySound_reset : OccupancySound State.reset := by
  have empty : ∀ z : Zone, State.reset.occupancy[z].list = [] := by decide +kernel
  refine ⟨by decide +kernel, fun y z cred h _ => ?_⟩
  rw [empty y] at h
  cases h

/-! ## Settings read back -/

section
variable {s : State}

theorem exec_getConfig {kind number : Nat} {body : ReplyBody} (h : configItem s kind number = some body) :
    exec (.getConfig kind number) s = .next (reply 0x1B .ok body s) := by
  change Host.Outcome.next (getConfig kind number s) = _
  unfold getConfig
  rw [h]

theorem configItem_of_no_kind {kind number : Nat} (link : kind ≠ 0x07) (range : kind < 0x10 ∨ 0x1A < kind) :
    configItem s kind number = none := by
  unfold configItem
  split <;> try omega
  rfl

theorem configItem_answers :
    (∀ i : InputNo, configItem s 0x10 i.val = some (.input i s.store.inputs[i])) ∧
    (∀ c : ChannelNo, configItem s 0x11 c.val = some (.detector c s.store.detectors[c])) ∧
    (∀ z : Zone, configItem s 0x12 (z.val + 1) = some (.zone z s.store.zones[z])) ∧
    (∀ n : DoorNo, configItem s 0x13 n.val = some (.door n s.store.doors[n] s.store.slots)) ∧
    (∀ r : ReaderNo, configItem s 0x14 r.val = some (.reader r s.store.readers[r])) ∧
    (∀ n : StaffNo, configItem s 0x15 n.val = some (.staff n s.store.staff[n])) ∧
    (∀ o : OutputNo, configItem s 0x16 o.val = some (.output o s.store.outputs[o])) ∧
    (∀ src : Source, configItem s 0x17 (src.val + 1) = some (.source src src s.store.sources[src])) ∧
    ∀ k : ScheduleNo, k ≠ 0 → configItem s 0x19 k.val = some (.schedule k s.store.schedules[k]) := by
  refine ⟨fun i => ?_, fun c => ?_, fun z => ?_, fun n => ?_, fun r => ?_, fun n => ?_, fun o => ?_, fun src => ?_,
    fun k hk => ?_⟩
  · exact congrArg (Option.map _) (item_val i)
  · exact congrArg (Option.map _) (item_val c)
  · exact congrArg (Option.map _) (zoneNumbered_val z)
  · exact congrArg (Option.map _) (item_val n)
  · exact congrArg (Option.map _) (item_val r)
  · exact congrArg (Option.map _) (item_val n)
  · exact congrArg (Option.map _) (item_val o)
  · exact congrArg (Option.map _) (sourceNumbered_val src)
  · have positive : k.val ≠ 0 := fun zero => hk (Fin.ext zero)
    exact (if_neg positive).trans (congrArg (Option.map _) (item_val k))

/-! ## Readings of zones, doors and channels -/

theorem zoneStatus_numbered (z : Zone) : zoneStatus (z.val + 1) s = reply 0x36 .ok (.zoneReport (zoneReport s z)) s := by
  unfold zoneStatus
  rw [zoneNumbered_val]

theorem zoneStatus_refused {k : Nat} (bad : k = 0 ∨ 4 < k) : zoneStatus k s = reply 0x36 .param .empty s := by
  unfold zoneStatus
  rw [zoneNumbered_of_bad bad]
  rfl

theorem doorStatus_numbered (n : DoorNo) : doorStatus n.val s = reply 0x41 .ok (.doorReport (doorReport s n)) s := by
  unfold doorStatus
  rw [item_val]

theorem doorStatus_refused {k : Nat} (bad : 8 ≤ k) : doorStatus k s = reply 0x41 .param .empty s := by
  unfold doorStatus
  rw [item_of_ge bad]
  rfl

theorem detectorRead_numbered (c : ChannelNo) (clearPeak : Bool) : detectorRead c.val clearPeak s =
    reply 0x37 .ok (.channelReport (channelReport s.channels[c]))
      (if clearPeak then s.modChannel c fun ch => { ch with peak := 0 } else s) := by
  unfold detectorRead
  rw [item_val]

theorem detectorRead_refused {k : Nat} (bad : 16 ≤ k) (clearPeak : Bool) :
    detectorRead k clearPeak s = reply 0x37 .param .empty s := by
  unfold detectorRead
  rw [item_of_ge bad]
  rfl

end

/-! ## Places of one length (R200) -/

theorem place_flatMap {α β : Type} {f : α → List β} {n : Nat} (length : ∀ a, (f a).length = n) :
    ∀ (l : List α) (k : Nat) (h : k < l.length), ((l.flatMap f).drop (n * k)).take n = f l[k]
  | a :: l, 0, _ => by
    rw [List.flatMap_cons, Nat.mul_zero, List.drop_zero, ← length a, List.take_left]
    rfl
  | a :: l, k + 1, h => by
    have rest := place_flatMap length l k (Nat.lt_of_succ_lt_succ h)
    have skip : ((a :: l).flatMap f).drop (n * (k + 1)) = (l.flatMap f).drop (n * k) := by
      rw [List.flatMap_cons, Nat.mul_add_one, Nat.add_comm, ← length a, ← List.drop_drop, List.drop_left]
    rw [skip, rest]
    rfl

theorem journalPlace_length (records : List Record) (k : Nat) :
    (records[k]?.elim (List.replicate 16 0) Record.bytes).length = 16 := by
  cases records[k]? with
  | none => exact List.length_replicate
  | some r => exact Record.bytes_length r

theorem journal_length (gap : Bool) (records : List Record) : (bodyBytes (.journal gap records)).length = 241 := by
  unfold bodyBytes journalBytes
  rw [List.length_append, byte_length, flatMap_length _ 16 _ fun k _ => journalPlace_length records k, List.length_range]

theorem journal_first (gap : Bool) (records : List Record) :
    (bodyBytes (.journal gap records))[0]? = some (BitVec.ofNat 8 (records.length + if gap then 128 else 0)) := rfl

theorem journal_place (gap : Bool) (records : List Record) {k : Nat} (h : k < 15) :
    ((bodyBytes (.journal gap records)).drop (1 + 16 * k)).take 16 =
      match records[k]? with | some r => Record.bytes r | none => List.replicate 16 0 := by
  have place := place_flatMap (journalPlace_length records) (List.range 15) k (by rwa [List.length_range])
  rw [List.getElem_range] at place
  unfold bodyBytes journalBytes
  rw [← List.drop_drop, ← byte_length (records.length + if gap then 128 else 0), List.drop_left, place]
  cases records[k]? <;> rfl

theorem occupancy_length (certain : Bool) (list : List Nat) : (bodyBytes (.occupancy certain list)).length = 130 := by
  unfold bodyBytes
  rw [List.length_append, List.length_append, flag_length, byte_length,
    flatMap_length _ 4 _ fun k _ => field_length 4 _, List.length_range]

theorem occupancy_head (certain : Bool) (list : List Nat) :
    (bodyBytes (.occupancy certain list)).take 2 = [if certain then 1 else 0, BitVec.ofNat 8 list.length] := by
  cases certain <;> rfl

theorem occupancy_place (certain : Bool) (list : List Nat) {k : Nat} (h : k < 32) :
    ((bodyBytes (.occupancy certain list)).drop (2 + 4 * k)).take 4 = field 4 (list.getD k 0) := by
  have place := place_flatMap (f := fun k => field 4 (list.getD k 0)) (fun _ => field_length 4 _) (List.range 32) k
    (by rwa [List.length_range])
  rw [List.getElem_range] at place
  have head : (flag certain ++ byte list.length).length = 2 := by rw [List.length_append, flag_length, byte_length]
  unfold bodyBytes
  rw [← List.drop_drop, ← head, List.drop_left]
  exact place

end Sys2Proof.Machine

namespace Sys2Proof.Proofs

open Sys2Proof.Machine

/-- Settles O3: the first power-on and the invariants at reset, by evaluation. -/
theorem resetIsASoundFirstPowerOn : Obligations.ResetIsASoundFirstPowerOn := by
  refine ⟨?_, ?_, ?_, ?_, ?_, occupancySound_reset, ?_, ?_, ?_, ?_, ?_, ?_, ?_, gateFollows_reset, ?_⟩
  · change finish (powerOn 1 0 { State.reset with store := Store.erased, journal := Journal.erased }) = _
    rw [powerOn_reset]
    exact finish_of_follows gateFollows_reset
  · unfold EstimateBounded
    decide +kernel
  · unfold JournalContiguous
    decide +kernel
  · unfold InServiceRising
    decide +kernel
  · unfold PendingFollows
    decide +kernel
  · unfold MotionsWithinSlots
    decide +kernel
  · unfold ChannelsSound
    decide +kernel
  · unfold MarksSound
    decide +kernel
  · unfold OutputsFollow
    decide +kernel
  · unfold OneCheck
    decide +kernel
  · unfold NoEntryUnderEgress
    decide +kernel
  · unfold EgressFollows
    decide +kernel
  · exact erased_inRange (s := State.reset)

/-- Settles O58: each query is a reply by its definition, and each sized reply is read off place by place. -/
theorem queriesOnlyReply : Obligations.QueriesOnlyReply := by
  refine ⟨fun s => ⟨rfl, rfl, rfl, rfl, rfl, fun z => congrArg _ (zoneStatus_numbered z),
    fun k bad => congrArg _ (zoneStatus_refused bad), fun n => congrArg _ (doorStatus_numbered n),
    fun k bad => congrArg _ (doorStatus_refused bad), fun _ => rfl, fun _ => rfl⟩,
    fun s channel clearPeak => ⟨fun h => congrArg _ (detectorRead_numbered ⟨channel, h⟩ clearPeak),
      fun bad => congrArg _ (detectorRead_refused bad clearPeak)⟩, fun s => ?_,
    fun gap certain records list c r => ⟨journal_length gap records, journal_first gap records,
      fun k h => journal_place gap records h, occupancy_length certain list, occupancy_head certain list,
      fun k h => occupancy_place certain list h, Credential.bytes_length c, Record.bytes_length r⟩⟩
  obtain ⟨inputs, detectors, zones, doors, readers, staff, outputs, sources, schedules⟩ := configItem_answers (s := s)
  refine ⟨exec_getConfig rfl, fun i => exec_getConfig (inputs i), fun c => exec_getConfig (detectors c),
    fun z => exec_getConfig (zones z), fun n => exec_getConfig (doors n), fun r => exec_getConfig (readers r),
    fun n => exec_getConfig (staff n), fun o => exec_getConfig (outputs o), fun src => exec_getConfig (sources src),
    exec_getConfig rfl, fun k hk => exec_getConfig (schedules k hk), exec_getConfig rfl, fun kind number link range => ?_⟩
  change Host.Outcome.next (getConfig kind number s) = _
  unfold getConfig
  rw [configItem_of_no_kind link range]
  rfl

end Sys2Proof.Proofs
end

section
/-! Every change of a release state leaves its ZONE_STATE record (R44). -/

namespace Sys2Proof.Machine

/-- The record tells that the zone is now in this state (R44). -/
def TellsState (z : Zone) (st : ReleaseState) (r : Record) : Prop :=
  r.kind = .zoneState ∧ r.subject = z.val + 1 ∧ r.cred = 0 ∧ Told r.detail st

/-- The records written since `s` stand at the end of the ring, and tell of every zone whose release state is not as in `s`,
the excused ones apart. -/
structure RecordedSince (X : Zone → Prop) (s : State) (journal : Journal) (release : Vector Release 4)
    (before since : List Record) : Prop where
  ring : journal.ring = before ++ since
  count : since.length = journal.newest - s.journal.newest
  later : ∀ r ∈ since, s.journal.newest < r.sequence
  tells : ∀ z : Zone, X z ∨ release[z].state = s.release[z].state ∨ ∃ r ∈ since, TellsState z release[z].state r

/-- So it is while no write has met the last sequence and the ring still holds all of them. -/
def AnnouncedBut (X : Zone → Prop) (s t : State) : Prop :=
  s.journal.newest ≤ t.journal.newest ∧
  (t.journal.newest < 4294967295 → t.journal.newest ≤ s.journal.newest + 1024 →
    ∃ before since, RecordedSince X s t.journal t.release before since)

section
variable {X Y : Zone → Prop} {s t : State}

theorem AnnouncedBut.refl (s : State) : AnnouncedBut X s s :=
  ⟨Nat.le_refl _, fun _ _ => ⟨s.journal.ring, [],
    { ring := (List.append_nil _).symm
      count := (Nat.sub_self _).symm
      later := fun _ no => absurd no List.not_mem_nil
      tells := fun _ => .inr (.inl rfl) }⟩⟩

/-- The property is about the journal and the release states alone. -/
theorem AnnouncedBut.of_same {u : State} (h : AnnouncedBut X s t) (journal : u.journal = t.journal)
    (release : ∀ z : Zone, X z ∨ u.release[z].state = t.release[z].state) : AnnouncedBut X s u := by
  obtain ⟨newest, recorded⟩ := h
  unfold AnnouncedBut
  rw [journal]
  refine ⟨newest, fun room few => ?_⟩
  obtain ⟨before, since, ring, count, later, tells⟩ := recorded room few
  refine ⟨before, since, ring, count, later, fun z => ?_⟩
  rcases release z with excused | same
  · exact .inl excused
  · rw [same]
    exact tells z

theorem AnnouncedBut.of_parts {u : State} (h : AnnouncedBut X s t) (ring : u.journal.ring = t.journal.ring)
    (newest : u.journal.newest = t.journal.newest) (release : u.release = t.release) : AnnouncedBut X s u := by
  obtain ⟨rising, recorded⟩ := h
  refine ⟨newest ▸ rising, fun room few => ?_⟩
  rw [newest] at room few
  obtain ⟨before, since, old, count, later, tells⟩ := recorded room few
  exact ⟨before, since, ring.trans old, newest ▸ count, later, release ▸ tells⟩

/-- A record may speak for zones that were excused. -/
theorem AnnouncedBut.push {k : RecordKind} {a b : Nat} {d : Detail} (h : AnnouncedBut X s t)
    (speaks : ∀ z, X z → Y z ∨ TellsState z t.release[z].state (nextRecord t k a b d)) :
    AnnouncedBut Y s (pushRecord k a b d t) := by
  obtain ⟨newest, recorded⟩ := h
  unfold pushRecord
  split
  · refine ⟨Nat.le_succ_of_le newest, fun room few => ?_⟩
    dsimp only at room few
    obtain ⟨before, since, ring, count, later, tells⟩ := recorded (by omega) (by omega)
    have fits : (if t.journal.ring.length < 1024 then 0 else 1) ≤ before.length := by
      have total := congrArg List.length ring
      rw [List.length_append] at total
      split <;> omega
    refine ⟨before.drop (if t.journal.ring.length < 1024 then 0 else 1), since ++ [nextRecord t k a b d], ?_, ?_, ?_, ?_⟩
    · change ringPush t.journal.ring _ = _
      rw [ringPush_eq]
      generalize (if t.journal.ring.length < 1024 then 0 else 1) = lost at fits ⊢
      rw [ring, List.drop_append_of_le_length fits, List.append_assoc]
    · rw [List.length_append, List.length_singleton, count]
      dsimp only
      omega
    · intro r hr
      rcases List.mem_append.1 hr with old | new
      · exact later r old
      · rw [List.mem_singleton.1 new]
        exact Nat.lt_succ_of_le newest
    · intro z
      rcases tells z with excused | same | ⟨r, hr, told⟩
      · exact (speaks z excused).imp id fun told => .inr ⟨_, List.mem_append_right _ (List.mem_singleton_self _), told⟩
      · exact .inr (.inl same)
      · exact .inr (.inr ⟨r, List.mem_append_left _ hr, told⟩)
  · next full => exact ⟨newest, fun room => absurd room full⟩

end

section
variable (X : Zone → Prop) (s : State)

theorem announced_lines : LineClosed (AnnouncedBut X s) where
  push _ _ _ _ h := h.push fun _ excused => .inl excused
  output _ h := h
  line h := h
  alarm _ _ h := h

theorem announced_doors : OverrideClosed (AnnouncedBut X s) where
  toSignalClosed := (announced_lines X s).react.signals
  door _ h := h
  queue _ _ h := h
  stop _ h := h
  start _ _ _ h := h
  egress _ h := h

end

section
variable {s t : State}

/-- Nobody excused. -/
abbrev Announced (s t : State) : Prop := AnnouncedBut (fun _ => False) s t

/-- The zone whose state changes is excused until its record is written. -/
theorem Announced.enterStateAs {d : Detail} {z : Zone} {st : ReleaseState} (told : Told d st) (h : Announced s t) :
    Announced s (enterStateAs d z st t) := by
  let entered := t.modRelease z fun r => { r with state := st, interval := false, doorHold := none, occupancyHold := none }
  have excused : AnnouncedBut (· = z) s (if ReleaseState.isStored st then storeRecord z entered else entered) := by
    have changed (y : Zone) : y = z ∨ entered.release[y].state = t.release[y].state := by
      by_cases same : y = z
      · exact .inl same
      · right
        change (t.modRelease z _).release[y].state = _
        rw [State.modRelease_release, upd_other _ _ _ _ (Ne.symm same)]
    have mono : AnnouncedBut (· = z) s t := by
      obtain ⟨newest, recorded⟩ := h
      refine ⟨newest, fun room few => ?_⟩
      obtain ⟨before, since, ring, count, later, tells⟩ := recorded room few
      exact ⟨before, since, ring, count, later, fun y => .inr ((tells y).resolve_left id)⟩
    split
    · exact mono.of_same rfl changed
    · exact mono.of_same rfl changed
  have state : (if ReleaseState.isStored st then storeRecord z entered else entered).release[z].state = st := by
    have atZ : entered.release[z].state = st := by
      change (t.modRelease z _).release[z].state = _
      rw [State.modRelease_release, upd_same]
    split
    · exact atZ
    · exact atZ
  have pushed : Announced s (pushRecord .zoneState (Zone.number z) 0 d
      (if ReleaseState.isStored st then storeRecord z entered else entered)) := excused.push fun y same => by
    subst same
    exact .inr ⟨rfl, rfl, rfl, state.symm ▸ told⟩
  have lines := announced_lines (fun _ => False) s
  unfold Machine.enterStateAs
  exact (announced_doors _ s).egressMove _ _ _
    (lines.react.setCondition _ _ (lines.react.setCondition _ _ (lines.react.setCondition _ _ pushed)))

variable (s)

theorem announced_zones : ZoneClosed True (Announced s) where
  toDoorClosed := (announced_doors _ s).toDoorClosed
  line _ h := h
  abortRun := (announced_lines _ s).abortRun
  release {t z r} state _ h := h.of_same (t := t) rfl fun y => .inr (by
    rw [State.modRelease_release, upd_get]
    split
    · next same => exact same ▸ state
    · rfl)
  firing _ {t z r} state h := h.of_same (t := t) rfl fun y => .inr (by
    rw [State.modRelease_release, upd_get]
    split
    · next same => exact same ▸ state
    · rfl)
  record _ h := h
  storeRecord _ h := h
  enterStateAs _ _ _ told _ h := h.enterStateAs told
  estimate _ _ h := h
  others _ _ _ _ _ _ _ _ _ h := h

theorem announced_closed : Closed True False False (Announced s) :=
  have lines := announced_lines (fun _ => False) s
  { announced_zones s with
    gate := fun _ _ _ h => h
    channel := fun _ h => h
    fewerListed := fun _ h => h
    applyPass := fun hf _ n p h => (announced_zones s).applyPass_of_free hf (fun h => h) n p h
    takeIntoService := fun _ h => lines.react.takeIntoService h
    leaveService := fun _ h => lines.react.leaveService h
    reLevel := fun _ h => lines.react.reLevel _ h
    suppress := fun _ h => h
    silence := fun o _ h => lines.react.refreshOutput o h
    output := fun o _ _ _ h => lines.react.refreshOutput o h
    acknowledge := fun {t sequence} _ h => by
      unfold acknowledge
      split
      · exact lines.react.setCondition Source.backlog _ (h.of_parts (t := t) rfl rfl rfl)
      · exact h
    startRun := fun _ _ h => h
    takeResult := fun faulty _ h => lines.takeResult _ faulty h
    passSeconds := fun {t} k h => h.of_same (t := t) rfl fun z => .inr (by
      simp only [passSeconds, Fin.getElem_fin, Vector.getElem_map])
    coldStart := fun _ _ no => no.elim
    store := fun _ h => h
    detector := fun _ _ _ _ h => (announced_doors _ s).writeConfig _ _ (s := State.modStore _ _) h
    sources := fun _ _ h => h
    reseatDoor := fun _ h => (announced_doors _ s).reseatDoor (fun h => h) h
    clock := fun _ h => h }

end

end Sys2Proof.Machine

namespace Sys2Proof.Proofs

open Sys2Proof.Machine

/-- Settles O13: a release state changes by `enterStateAs` alone, which writes its record, and every record of the event
stands in the ring at its end. -/
theorem releaseStateChangesAreJournalled : Obligations.ReleaseStateChangesAreJournalled := fun s c running => by
  obtain ⟨t, ht, newest, recorded⟩ := (announced_closed s).exec trivial c
    (fun ⟨straps, levels, boots⟩ => running straps levels boots) (fun no => no.elim) (AnnouncedBut.refl s)
  refine ⟨t, ht, fun room few z changed => ?_⟩
  obtain ⟨before, since, ring, _, later, tells⟩ := recorded room few
  obtain ⟨r, hr, kind, subject, cred, told⟩ := ((tells z).resolve_left id).resolve_left changed
  exact ⟨r, ring ▸ List.mem_append_right _ hr, later r hr, kind, subject, cred, told⟩

end Sys2Proof.Proofs
end

section
/-! The bolt drive (R83 to R86): what serving the queue does, door by door. -/

namespace Sys2Proof.Machine

/-! ## Frames, read back -/

theorem Frame.store_eq {parts : List Part} {srcs : List Source} {s t : State} (h : Frame parts srcs s t)
    (settings : Part.settings ∉ parts) (records : Part.records ∉ parts) : t.store = s.store := by
  obtain ⟨written, inputs, detectors, zones, doors, slots, credentials, schedules, holidays, modes, readers, staff, outputs,
    sources, threshold, receiveTimeout, testInterval⟩ := h.settings settings
  have records := h.records records
  generalize t.store = after at *
  generalize s.store = before at *
  cases after
  cases before
  dsimp only at *
  subst_vars
  rfl

/-- The gate goes on following where an event touches neither firings nor gate. -/
theorem GateFollows.of_frame {parts : List Part} {srcs : List Source} {s t : State} (h : GateFollows s)
    (frame : Frame parts srcs s t) (gate : Part.gate ∉ parts) (release : Part.release ∉ parts) : GateFollows t := by
  unfold GateFollows anyFiring
  rw [frame.gateClosed gate, show firing t = firing s from funext fun z => by unfold firing; rw [frame.release release]]
  exact h

theorem GateFollows.of_signals {s t : State} (h : GateFollows s) (same : Signals s t) : GateFollows t := by
  unfold GateFollows anyFiring
  rw [same.gateClosed, show firing t = firing s from funext fun z => by unfold firing; rw [same.release]]
  exact h

section
variable {s t : State} {n m : DoorNo}

theorem DoorFrame.store_eq (h : DoorFrame s t) : t.store = s.store := Frame.store_eq h (by decide) (by decide)

theorem DoorFrame.inputs_eq (h : DoorFrame s t) : t.inputs = s.inputs := h.inputs (by decide)

theorem active_congr (inputs : t.inputs = s.inputs) (i : InputNo) : active t i = active s i := by
  unfold active
  rw [inputs]

theorem DoorFrame.boltThrown_eq (h : DoorFrame s t) : boltThrown t n = boltThrown s n := active_congr h.inputs_eq _

theorem DoorFrame.contactOpen_eq (h : DoorFrame s t) : contactOpen t n = contactOpen s n := active_congr h.inputs_eq _

theorem DoorFrame.confirms_eq (h : DoorFrame s t) (motion : Motion) : confirms t n motion = confirms s n motion := by
  cases motion
  · exact h.boltThrown_eq
  · exact congrArg (!·) h.boltThrown_eq

/-! ## One door at a time -/

/-- What the operations of other doors leave of a door: its entry, its request, its motion, its two conditions. -/
structure SameDoor (m : DoorNo) (s t : State) : Prop where
  door : t.doors[m] = s.doors[m]
  queue : t.queue[m] = s.queue[m]
  motion : t.motions[m] = s.motions[m]
  held : t.alarm.condition[Source.held m] = s.alarm.condition[Source.held m]
  bolt : t.alarm.condition[Source.bolt m] = s.alarm.condition[Source.bolt m]

theorem SameDoor.refl (m : DoorNo) (s : State) : SameDoor m s s := ⟨rfl, rfl, rfl, rfl, rfl⟩

theorem SameDoor.trans {u : State} (h1 : SameDoor m s t) (h2 : SameDoor m t u) : SameDoor m s u :=
  ⟨h2.door.trans h1.door, h2.queue.trans h1.queue, h2.motion.trans h1.motion, h2.held.trans h1.held, h2.bolt.trans h1.bolt⟩

theorem held_ne_backlog (m : DoorNo) : Source.held m ≠ Source.backlog := by revert m; decide
theorem bolt_ne_backlog (m : DoorNo) : Source.bolt m ≠ Source.backlog := by revert m; decide
theorem held_ne_bolt (m n : DoorNo) : Source.held m ≠ Source.bolt n := by revert m n; decide
theorem held_inj {m n : DoorNo} (h : Source.held m = Source.held n) : m = n := by revert m n; decide
theorem bolt_inj {m n : DoorNo} (h : Source.bolt m = Source.bolt n) : m = n := by revert m n; decide

theorem Affects.sameDoor {srcs : List Source} (h : Affects srcs s t) (held : Source.held m ∉ srcs)
    (bolt : Source.bolt m ∉ srcs) : SameDoor m s t :=
  ⟨by rw [h.doors], by rw [h.queue], by rw [h.motions], h.conditionSame _ held (held_ne_backlog m),
    h.conditionSame _ bolt (bolt_ne_backlog m)⟩

theorem write_sameDoor (k : RecordKind) (a b : Nat) (d : Detail) (s : State) : SameDoor m s (write k a b d s) :=
  (write_affects [] k a b d s).sameDoor List.not_mem_nil List.not_mem_nil

theorem writes_sameDoor {α : Type} (k : RecordKind) (a : Nat) (cred : α → Nat) (d : α → Detail) (l : List α) (s : State) :
    SameDoor m s (forEach l (fun x => write k a (cred x) (d x)) s) :=
  forEach_rel (SameDoor.refl m) (fun _ _ _ => SameDoor.trans) _ l s fun _ _ u => write_sameDoor _ _ _ _ u

theorem setHeldCondition_sameDoor (other : m ≠ n) (b : Bool) (s : State) : SameDoor m s (setHeldCondition n b s) :=
  (setCondition_affects _ b s).sameDoor (fun mem => other (held_inj (List.mem_singleton.1 mem)))
    (fun mem => held_ne_bolt n m (List.mem_singleton.1 mem).symm)

theorem setBoltCondition_sameDoor (other : m ≠ n) (b : Bool) (s : State) : SameDoor m s (setBoltCondition n b s) :=
  (setCondition_affects _ b s).sameDoor (fun mem => held_ne_bolt m n (List.mem_singleton.1 mem))
    (fun mem => other (bolt_inj (List.mem_singleton.1 mem)))

theorem modDoor_sameDoor (other : m ≠ n) (f : Door → Door) (s : State) : SameDoor m s (s.modDoor n f) :=
  ⟨upd_other _ _ _ _ (Ne.symm other), rfl, rfl, rfl, rfl⟩

theorem setQueue_sameDoor (other : m ≠ n) (r : Option BoltRequest) (s : State) : SameDoor m s (s.setQueue n r) :=
  ⟨rfl, upd_other _ _ _ _ (Ne.symm other), rfl, rfl, rfl⟩

theorem setMotion_sameDoor (other : m ≠ n) (r : Option InMotion) (s : State) : SameDoor m s (s.setMotion n r) :=
  ⟨rfl, rfl, upd_other _ _ _ _ (Ne.symm other), rfl, rfl⟩

theorem dropPasses_sameDoor (other : m ≠ n) (k : RecordKind) (which : Pass → Bool) (s : State) :
    SameDoor m s (dropPasses k which n s) :=
  (modDoor_sameDoor other _ s).trans (writes_sameDoor k n.val Pass.cred (fun p => .direction p.dir) _ _)

theorem startWindow_sameDoor (other : m ≠ n) (s : State) : SameDoor m s (startWindow n s) := by
  unfold startWindow
  split
  · exact SameDoor.refl m s
  · exact modDoor_sameDoor other _ s

theorem startHeld_sameDoor (other : m ≠ n) (s : State) : SameDoor m s (startHeld n s) := by
  unfold startHeld
  split
  · exact SameDoor.refl m s
  · exact modDoor_sameDoor other _ s

theorem enterOpen_sameDoor (other : m ≠ n) (s : State) : SameDoor m s (enterOpen n s) :=
  (modDoor_sameDoor other _ s).trans (startHeld_sameDoor other _)

theorem enterReleased_sameDoor (other : m ≠ n) (s : State) : SameDoor m s (enterReleased n s) :=
  (modDoor_sameDoor other _ s).trans (startWindow_sameDoor other _)

theorem join_sameDoor (other : m ≠ n) (motion : Motion) (cls : BoltClass) (s : State) :
    SameDoor m s (join n motion cls s) := by
  unfold join
  split
  · split <;> exact setQueue_sameDoor other _ s
  · split
    · exact SameDoor.refl m s
    · exact setQueue_sameDoor other _ s
  · exact setQueue_sameDoor other _ s

theorem joinThrow_sameDoor (other : m ≠ n) (s : State) : SameDoor m s (joinThrow n s) := join_sameDoor other _ _ s

theorem joinWithdraw_sameDoor (other : m ≠ n) (cls : BoltClass) (s : State) : SameDoor m s (joinWithdraw n cls s) :=
  (modDoor_sameDoor other _ s).trans (join_sameDoor other _ _ _)

theorem settleDoor_sameDoor (other : m ≠ n) (s : State) : SameDoor m s (settleDoor n s) := by
  have cleared := modDoor_sameDoor other (fun d => { d with window := none, heldTimer := none }) s
  have state {u : State} (st : DoorState) := modDoor_sameDoor other (fun d => { d with state := st }) u
  unfold settleDoor
  dsimp only
  refine cleared.trans ?_
  split
  · split
    · exact (enterOpen_sameDoor other _).trans (joinWithdraw_sameDoor other _ _)
    · exact enterOpen_sameDoor other _
  · split
    · split
      · exact (state _).trans (joinWithdraw_sameDoor other _ _)
      · exact (state _).trans (modDoor_sameDoor other _ _)
    · split
      · exact (state _).trans (joinThrow_sameDoor other _)
      · exact modDoor_sameDoor other _ _

theorem motionEffect_sameDoor (other : m ≠ n) (motion : Motion) (s : State) : SameDoor m s (motionEffect n motion s) := by
  unfold motionEffect
  split
  · exact enterReleased_sameDoor other s
  · split
    · exact SameDoor.refl m s
    · exact modDoor_sameDoor other _ s
  · exact ((settleDoor_sameDoor other s).trans (setBoltCondition_sameDoor other _ _)).trans (write_sameDoor _ _ _ _ _)
  · exact SameDoor.refl m s

theorem completeMotion_sameDoor (other : m ≠ n) (motion : Motion) (s : State) :
    SameDoor m s (completeMotion n motion s) :=
  (setMotion_sameDoor other none s).trans (motionEffect_sameDoor other motion _)

theorem startMotion_sameDoor (other : m ≠ n) (s : State) : SameDoor m s (startMotion n s) := by
  unfold startMotion
  split
  · exact SameDoor.refl m s
  · next r _ =>
    have started := (setQueue_sameDoor other none s).trans
      (setMotion_sameDoor other (some ⟨r.motion, s.store.doors[n].boltTime⟩) _)
    dsimp only
    split
    · exact started.trans (completeMotion_sameDoor other _ _)
    · exact started

theorem relock_sameDoor (other : m ≠ n) (s : State) : SameDoor m s (relock n s) := by
  unfold relock
  split
  · exact modDoor_sameDoor other _ s
  · split
    · exact modDoor_sameDoor other _ s
    · exact joinThrow_sameDoor other s

/-! ## The next request to start (R84) -/

theorem startable_iff : startable s n = true ↔ s.motions[n] = none ∧
    ∃ r, s.queue[n] = some r ∧ (s.gateClosed = true → r.cls = .egress) := by
  unfold startable
  cases s.queue[n] with
  | none => simp only [Bool.false_eq_true, reduceCtorEq, false_and, exists_false, and_false]
  | some r =>
    rw [Bool.and_eq_true, Option.isNone_iff_eq_none, Bool.or_eq_true, Bool.not_eq_true', decide_eq_true_eq]
    refine and_congr_right fun _ => ⟨fun may => ⟨r, rfl, fun closed => may.resolve_left (by rw [closed]; nofun)⟩, ?_⟩
    rintro ⟨q, same, egress⟩
    cases same
    cases hc : s.gateClosed
    · exact .inl rfl
    · exact .inr (egress hc)

/-- Of a list the door whose request starts first: of the highest class, and among equal classes the lowest (R84). -/
def FirstOf (s : State) (l : List DoorNo) (n : DoorNo) : Prop :=
  startable s n = true ∧ n ∈ l ∧ ∀ m ∈ l, startable s m = true →
    queuedRank s m < queuedRank s n ∨ (queuedRank s m = queuedRank s n ∧ n ≤ m)

/-- What the search has found of a list. -/
def Found (s : State) (l : List DoorNo) : Option DoorNo → Prop
  | some n => FirstOf s l n
  | none => ∀ m ∈ l, startable s m = false

theorem betterDoor_found {best : Option DoorNo} {l : List DoorNo} (found : Found s l best) (rising : ∀ x ∈ l, x < m) :
    Found s (l ++ [m]) (betterDoor s best m) := by
  have mem {x : DoorNo} (hx : x ∈ l ++ [m]) : x ∈ l ∨ x = m := (List.mem_append.1 hx).imp id List.mem_singleton.1
  cases best with
  | none =>
    unfold betterDoor
    cases here : startable s m with
    | true =>
      refine ⟨here, List.mem_append_right _ (List.mem_singleton_self m), fun x hx starts => ?_⟩
      rcases mem hx with old | rfl
      · rw [found x old] at starts
        cases starts
      · exact .inr ⟨rfl, Fin.le_refl x⟩
    | false => exact fun x hx => (mem hx).elim (found x) fun same => same ▸ here
  | some b =>
    obtain ⟨starts, inList, first⟩ := found
    unfold betterDoor
    dsimp only
    split
    · next better =>
      obtain ⟨here, above⟩ := Bool.and_eq_true_iff.1 better
      have above := of_decide_eq_true above
      refine ⟨here, List.mem_append_right _ (List.mem_singleton_self m), fun x hx startsX => ?_⟩
      rcases mem hx with old | rfl
      · left
        exact (first x old startsX).elim (Nat.lt_trans · above) fun same => same.1 ▸ above
      · exact .inr ⟨rfl, Fin.le_refl x⟩
    · next worse =>
      refine ⟨starts, List.mem_append_left _ inList, fun x hx startsX => ?_⟩
      rcases mem hx with old | rfl
      · exact first x old startsX
      · rw [startsX, Bool.true_and, decide_eq_true_eq] at worse
        rcases Nat.lt_or_eq_of_le (Nat.le_of_not_lt worse) with below | same
        · exact .inl below
        · exact .inr ⟨same, Fin.le_of_lt (rising b inList)⟩

theorem foldl_betterDoor : ∀ (rest before : List DoorNo) {best : Option DoorNo}, (before ++ rest).Pairwise (· < ·) →
    Found s before best → Found s (before ++ rest) (rest.foldl (betterDoor s) best)
  | [], before, _, _, found => by rwa [List.append_nil]
  | m :: rest, before, _, rising, found => by
    have apart : ∀ x ∈ before, x < m := fun x hx =>
      (List.pairwise_append.1 rising).2.2 x hx m List.mem_cons_self
    have all := foldl_betterDoor rest (before ++ [m]) (by rwa [List.append_assoc]) (betterDoor_found found apart)
    rwa [List.append_assoc] at all

theorem nextStart_found (s : State) : Found s allDoors (nextStart s) :=
  foldl_betterDoor allDoors [] (by decide) fun _ no => absurd no List.not_mem_nil

theorem nextStart_startable (h : nextStart s = some n) : startable s n = true := by
  have found := nextStart_found s
  rw [h] at found
  exact found.1

theorem nextStart_none (h : nextStart s = none) (n : DoorNo) : startable s n = false := by
  have found := nextStart_found s
  rw [h] at found
  exact found n (List.mem_finRange n)

/-- The request that stands first is the one that starts. -/
theorem nextStart_of_first (h : FirstOf s allDoors n) : nextStart s = some n := by
  have found := nextStart_found s
  cases picked : nextStart s with
  | none =>
    have idle := nextStart_none picked n
    rw [h.1] at idle
    cases idle
  | some b =>
    rw [picked] at found
    have ranksBelow := found.2.2 n (List.mem_finRange n) h.1
    have ranksAbove := h.2.2 b (List.mem_finRange b) found.1
    rcases ranksBelow with below | ⟨_, least⟩
    · omega
    · rcases ranksAbove with below | ⟨_, most⟩
      · omega
      · exact congrArg some (Fin.le_antisymm least most)

/-! ## Serving -/

/-- A property that every start keeps is kept by serving the queue. -/
theorem serveLoop_induction {P : State → Prop}
    (start : ∀ (m : DoorNo) (u : State), startable u m = true → P u → P (startMotion m u)) :
    ∀ (fuel : Nat) {s : State}, P s → P (serveLoop fuel s)
  | 0, _, h => h
  | fuel + 1, s, h => by
    unfold serveLoop
    split
    · split
      · next m picked => exact serveLoop_induction start fuel (start m s (nextStart_startable picked) h)
      · exact h
    · exact h

theorem serve_induction {P : State → Prop}
    (start : ∀ (m : DoorNo) (u : State), startable u m = true → P u → P (startMotion m u)) (h : P s) : P (serve s) :=
  serveLoop_induction start 16 h

/-- A motion in progress is let run, and what is not queued is not started. -/
theorem serveLoop_motion (fuel : Nat) (h : s.motions[n].isSome = true) : SameDoor n s (serveLoop fuel s) := by
  refine (serveLoop_induction (P := fun u => SameDoor n s u) (fun m u starts same => same.trans ?_) fuel (SameDoor.refl n s))
  refine startMotion_sameDoor (fun here => ?_) u
  subst here
  obtain ⟨idle, _⟩ := startable_iff.1 starts
  rw [same.motion] at idle
  rw [idle] at h
  cases h

theorem serve_motion (h : s.motions[n].isSome = true) : SameDoor n s (serve s) := serveLoop_motion 16 h

theorem serve_unqueued (h : s.queue[n] = none) : SameDoor n s (serve s) := by
  refine (serve_induction (P := fun u => SameDoor n s u) (fun m u starts same => same.trans ?_) (SameDoor.refl n s))
  refine startMotion_sameDoor (fun here => ?_) u
  subst here
  obtain ⟨_, r, queued, _⟩ := startable_iff.1 starts
  rw [same.queue, h] at queued
  cases queued

/-- A request that the gate keeps back stays. -/
theorem serve_gated (closed : s.gateClosed = true) {r : BoltRequest} (queued : s.queue[n] = some r) (cls : r.cls ≠ .egress) :
    SameDoor n s (serve s) := by
  refine (serve_induction (P := fun u => SameDoor n s u ∧ u.gateClosed = true) (fun m u starts same => ?_)
    ⟨SameDoor.refl n s, closed⟩).1
  obtain ⟨same, stillClosed⟩ := same
  refine ⟨same.trans (startMotion_sameDoor (fun here => ?_) u),
    ((startMotion_frame m u).gateClosed (by decide)).trans stillClosed⟩
  subst here
  obtain ⟨_, q, queuedQ, egress⟩ := startable_iff.1 starts
  rw [same.queue, queued] at queuedQ
  cases queuedQ
  exact cls (egress stillClosed)

/-- A request whose position the bolt sense does not show starts as a motion. -/
theorem startMotion_unconfirmed {r : BoltRequest} (queued : s.queue[n] = some r) (away : confirms s n r.motion = false) :
    startMotion n s = (s.setQueue n none).setMotion n (some ⟨r.motion, s.store.doors[n].boltTime⟩) := by
  unfold startMotion
  rw [queued]
  dsimp only
  rw [away]
  rfl

/-- One whose position it shows completes at once (R85). -/
theorem startMotion_confirmed {r : BoltRequest} (queued : s.queue[n] = some r) (shown : confirms s n r.motion = true) :
    startMotion n s = completeMotion n r.motion
      ((s.setQueue n none).setMotion n (some ⟨r.motion, s.store.doors[n].boltTime⟩)) := by
  unfold startMotion
  rw [queued]
  dsimp only
  rw [shown]
  rfl

/-- The door's request waits, or its motion is in progress. -/
structure Underway (n : DoorNo) (d : Door) (motion : Motion) (t : State) : Prop where
  door : t.doors[n] = d
  coming : t.queue[n].map BoltRequest.motion = some motion ∨
    (t.queue[n] = none ∧ t.motions[n].map InMotion.motion = some motion)

theorem Underway.to_coming {d : Door} {motion : Motion} (h : Underway n d motion t) : Coming t n motion :=
  h.coming.imp id And.right

/-- An unconfirmed request, served or not, is on its way; the door is as it was. -/
theorem serve_underway {d : Door} {motion : Motion} (away : confirms s n motion = false) (h : Underway n d motion s) :
    Underway n d motion (serve s) := by
  refine (serve_induction (P := fun u => DoorFrame s u ∧ Underway n d motion u) (fun m u starts now => ?_)
    ⟨DoorFrame.refl s, h⟩).2
  obtain ⟨frame, door, coming⟩ := now
  refine ⟨frame.trans (startMotion_frame m u), ?_⟩
  by_cases here : n = m
  · subst here
    obtain ⟨_, r, queued, _⟩ := startable_iff.1 starts
    have toward : r.motion = motion := by
      rcases coming with waits | ⟨none, _⟩
      · rw [queued] at waits
        exact Option.some.inj waits
      · rw [none] at queued
        cases queued
    have unconfirmed : confirms u n r.motion = false := by rw [frame.confirms_eq, toward, away]
    rw [startMotion_unconfirmed queued unconfirmed]
    refine ⟨door, .inr ⟨?_, ?_⟩⟩
    · rw [State.setMotion_queue, State.setQueue_queue, upd_same]
    · rw [State.setMotion_motions, upd_same]
      exact congrArg some toward
  · have same := startMotion_sameDoor here u
    refine ⟨same.door.trans door, ?_⟩
    rw [same.queue, same.motion]
    exact coming

end

end Sys2Proof.Machine
end

section
/-! The bolt drive's queue is served to the end, within the gate and the slots (R38, R83 to R85). -/

namespace Sys2Proof.Machine

variable {s : State} {n m : DoorNo}

/-! ## Sixteen starts are enough -/

/-- How many starts the drive can still make at a door by itself: a fault settled at the start of its RETRY can queue one
throw more. -/
def startsLeft (s : State) (n : DoorNo) : Nat :=
  if s.queue[n] = none ∨ s.motions[n] ≠ none then 0 else if s.doors[n].state = .boltFault then 2 else 1

theorem startsLeft_le (s : State) (n : DoorNo) : startsLeft s n ≤ 2 := by
  unfold startsLeft
  split
  · omega
  · split <;> omega

theorem startsLeft_of_startable (h : startable s n = true) :
    startsLeft s n = if s.doors[n].state = .boltFault then 2 else 1 := by
  obtain ⟨idle, r, queued, _⟩ := startable_iff.1 h
  unfold startsLeft
  rw [if_neg]
  rintro (empty | moving)
  · rw [queued] at empty
    cases empty
  · exact moving idle

theorem startsLeft_of_unqueued (h : s.queue[n] = none) : startsLeft s n = 0 := if_pos (.inl h)

theorem startsLeft_of_sound (h : s.doors[n].state ≠ .boltFault) : startsLeft s n ≤ 1 := by
  unfold startsLeft
  rw [if_neg h]
  split <;> omega

theorem SameDoor.startsLeft_eq {t : State} (h : SameDoor m s t) : startsLeft t m = startsLeft s m := by
  unfold startsLeft
  rw [h.door, h.queue, h.motion]

theorem join_doors (motion : Motion) (cls : BoltClass) : (join n motion cls s).doors = s.doors := by
  unfold join
  split
  · split <;> rfl
  · split <;> rfl
  · rfl

theorem setMark_state : (setMark n s).doors[n].state = s.doors[n].state := modDoor_state _

theorem joinWithdraw_state (cls : BoltClass) : (joinWithdraw n cls s).doors[n].state = s.doors[n].state := by
  unfold joinWithdraw
  rw [join_doors, setMark_state]

theorem joinThrow_doors : (joinThrow n s).doors = s.doors := join_doors _ _

theorem joinThrow_state : (joinThrow n s).doors[n].state = s.doors[n].state := by rw [joinThrow_doors]

theorem enterOpen_state : (enterOpen n s).doors[n].state = .opened := by
  rw [enterOpen_eq, modDoor_state]

theorem secureDoor_state : (secureDoor n s).doors[n].state = .secured := modDoor_state _

theorem enterReleased_queue : (enterReleased n s).queue = s.queue := by
  unfold enterReleased startWindow
  split <;> rfl

/-- The settled door is in no fault (R88). -/
theorem settleDoor_sound (n : DoorNo) (s : State) : (settleDoor n s).doors[n].state ≠ .boltFault := by
  unfold settleDoor
  dsimp only
  generalize s.modDoor n (fun d => { d with window := none, heldTimer := none }) = u
  split
  · split
    · rw [joinWithdraw_state, enterOpen_state]
      nofun
    · rw [enterOpen_state]
      nofun
  · split
    · split
      · rw [joinWithdraw_state, setDoorState_state]
        nofun
      · rw [setMark_state, setDoorState_state]
        nofun
    · split
      · intro fault
        rw [joinThrow_state, setDoorState_state] at fault
        cases fault
      · rw [secureDoor_state]
        nofun

/-- A completion leaves the door nothing to start, but for the throw that settling a fault may queue. -/
theorem startsLeft_motionEffect (motion : Motion) (queue : s.queue[n] = none) :
    startsLeft (motionEffect n motion s) n < if s.doors[n].state = .boltFault then 2 else 1 := by
  have idle {t : State} (h : t.queue = s.queue) : startsLeft t n < if s.doors[n].state = .boltFault then 2 else 1 := by
    rw [startsLeft_of_unqueued (by rw [h, queue])]
    split <;> omega
  unfold motionEffect
  split
  · exact idle enterReleased_queue
  · split <;> exact idle rfl
  · next fault =>
    rw [if_pos fault]
    have sound := settleDoor_sound n s
    have signals := (setCondition_signals (Source.bolt n) false (settleDoor n s)).trans (write_signals .boltFault n.val 0 .recovered _)
    refine Nat.lt_succ_of_le (startsLeft_of_sound ?_)
    unfold setBoltCondition
    rwa [signals.doors]
  · exact idle rfl

/-- Each start uses up one of the starts of its door. -/
theorem startsLeft_startMotion (h : startable s n = true) : startsLeft (startMotion n s) n < startsLeft s n := by
  obtain ⟨_, r, queued, _⟩ := startable_iff.1 h
  rw [startsLeft_of_startable h]
  cases shown : confirms s n r.motion with
  | true =>
    rw [startMotion_confirmed queued shown]
    exact startsLeft_motionEffect r.motion (by
      rw [State.setMotion_queue, State.setMotion_queue, State.setQueue_queue, upd_same])
  | false =>
    rw [startMotion_unconfirmed queued shown, startsLeft_of_unqueued (by
      rw [State.setMotion_queue, State.setQueue_queue, upd_same])]
    split <;> omega

theorem sum_map_le {α : Type} {f : α → Nat} {k : Nat} (h : ∀ a, f a ≤ k) : ∀ l : List α, (l.map f).sum ≤ l.length * k
  | [] => Nat.zero_le _
  | a :: l => by
    have tail := sum_map_le h l
    have head := h a
    rw [List.map_cons, List.sum_cons, List.length_cons, Nat.succ_mul]
    omega

/-- Where no term grows, a sum does not; where one of its terms falls, it falls. -/
theorem sum_map_mono {α : Type} {f g : α → Nat} (h : ∀ a, f a ≤ g a) :
    ∀ l : List α, (l.map f).sum ≤ (l.map g).sum ∧ ∀ a ∈ l, f a < g a → (l.map f).sum < (l.map g).sum
  | [] => ⟨Nat.le_refl _, fun _ mem => absurd mem List.not_mem_nil⟩
  | a :: l => by
    obtain ⟨tail, falls⟩ := sum_map_mono h l
    have head := h a
    rw [List.map_cons, List.map_cons, List.sum_cons, List.sum_cons]
    refine ⟨Nat.add_le_add head tail, fun b mem less => ?_⟩
    obtain same | later := List.mem_cons.1 mem
    · rw [same] at less
      exact Nat.add_lt_add_of_lt_of_le less tail
    · exact Nat.add_lt_add_of_le_of_lt head (falls b later less)

/-- How many starts the drive can still make. -/
def startsInAll (s : State) : Nat := (allDoors.map (startsLeft s)).sum

theorem startsInAll_le (s : State) : startsInAll s ≤ 16 := sum_map_le (startsLeft_le s) allDoors

theorem startsInAll_startMotion (h : startable s n = true) : startsInAll (startMotion n s) < startsInAll s :=
  (sum_map_mono (fun m => if same : m = n then by rw [same]; exact Nat.le_of_lt (startsLeft_startMotion h)
    else Nat.le_of_eq (startMotion_sameDoor same s).startsLeft_eq) allDoors).2 n (List.mem_finRange n)
    (startsLeft_startMotion h)

/-- Given the fuel, serving stops only where nothing may start. -/
theorem serveLoop_serves : ∀ (fuel : Nat) {s : State}, startsInAll s ≤ fuel →
    motionsInProgress (serveLoop fuel s) < (serveLoop fuel s).store.slots →
    ∀ n : DoorNo, startable (serveLoop fuel s) n = false
  | 0, s, spent, _, n => by
    rw [← Bool.not_eq_true]
    intro starts
    have fewer : startsInAll (startMotion n s) < startsInAll s := startsInAll_startMotion starts
    exact absurd (Nat.lt_of_lt_of_le fewer spent) (Nat.not_lt_zero _)
  | fuel + 1, s, spent, room, n => by
    unfold serveLoop at room ⊢
    split at room
    · next slots =>
      rw [if_pos slots]
      cases picked : nextStart s with
      | none => exact nextStart_none picked n
      | some m =>
        rw [picked] at room
        have fewer := startsInAll_startMotion (nextStart_startable picked)
        exact serveLoop_serves fuel (by omega) room n
    · next full => exact absurd room full

theorem serve_serves (room : motionsInProgress (serve s) < s.store.slots) (n : DoorNo) : startable (serve s) n = false :=
  serveLoop_serves 16 (startsInAll_le s) (by rwa [← (serve_frame s).store_eq] at room) n

/-! ## The first request starts (R84) -/

/-- Serving, where the first request's position does not show yet: it starts, and the rest is served after it. -/
theorem serve_first {r : BoltRequest} (first : FirstOf s allDoors n) (queued : s.queue[n] = some r)
    (away : confirms s n r.motion = false) (room : motionsInProgress s < s.store.slots) :
    serve s = serveLoop 15 ((s.setQueue n none).setMotion n (some ⟨r.motion, s.store.doors[n].boltTime⟩)) := by
  unfold serve
  rw [serveLoop, if_pos room, nextStart_of_first first, ← startMotion_unconfirmed queued away]

/-- A start takes a slot. -/
theorem motionsInProgress_started (idle : s.motions[n] = none) (m : InMotion) :
    motionsInProgress s + 1 ≤ motionsInProgress (s.setMotion n (some m)) := by
  obtain ⟨below, above, split⟩ : ∃ below above : List DoorNo, allDoors = below ++ n :: above :=
    List.append_of_mem (List.mem_finRange n)
  have more (l : List DoorNo) : l.countP (fun x => s.motions[x].isSome) ≤
      l.countP fun x => (s.setMotion n (some m)).motions[x].isSome :=
    List.countP_mono_left fun x _ moving => by
      rw [State.setMotion_motions, upd_get]
      split
      · rfl
      · exact moving
  have here : (s.setMotion n (some m)).motions[n].isSome = true := by rw [State.setMotion_motions, upd_same]; rfl
  have before : s.motions[n].isSome = false := by rw [idle]; rfl
  have first := more below
  have last := more above
  unfold motionsInProgress
  rw [split, List.countP_append, List.countP_append, List.countP_cons_of_neg (by rw [before]; nofun),
    List.countP_cons_of_pos (p := fun x : DoorNo => (s.setMotion n (some m)).motions[x].isSome) here]
  omega

theorem queuedRank_of_queued {r : BoltRequest} (queued : s.queue[n] = some r) : queuedRank s n = BoltClass.rank r.cls := by
  unfold queuedRank
  rw [queued]

theorem firstOf_allDoors {r : BoltRequest} (queued : s.queue[n] = some r) (starts : startable s n = true)
    (first : ∀ (m : DoorNo) (q : BoltRequest), s.queue[m] = some q → startable s m = true →
      BoltClass.rank q.cls < BoltClass.rank r.cls ∨ (q.cls = r.cls ∧ n ≤ m)) : FirstOf s allDoors n := by
  refine ⟨starts, List.mem_finRange n, fun m _ startsM => ?_⟩
  obtain ⟨_, q, queuedM, _⟩ := startable_iff.1 startsM
  rw [queuedRank_of_queued queued, queuedRank_of_queued queuedM]
  exact (first m q queuedM startsM).imp id fun same => ⟨congrArg _ same.1, same.2⟩

theorem confirms_of_away {motion : Motion} (away : boltThrown s n ≠ decide (motion = .throw)) :
    confirms s n motion = false := by
  cases motion
  · exact Bool.eq_false_iff.2 away
  · exact congrArg (!·) (Bool.of_not_eq_false away)

end Sys2Proof.Machine

namespace Sys2Proof.Proofs
open Sys2Proof.Machine

/-- Settles O27: serving walks through the startable requests in order; each start uses one of at most sixteen. -/
theorem serveKeepsToGateAndSlots : Obligations.ServeKeepsToGateAndSlots := by
  refine ⟨fun s => ⟨serve_serves, fun n moving => (serve_motion moving).motion, fun closed n r queued cls => ?_⟩,
    fun s n r queued starts first away room => ?_, fun _ _ => startable_iff⟩
  · have same := serve_gated closed queued cls
    exact ⟨same.queue.trans queued, same.motion⟩
  · obtain ⟨idle, _⟩ := startable_iff.1 starts
    have served := serve_first (firstOf_allDoors queued starts first) queued (confirms_of_away away) room
    have started : ((s.setQueue n none).setMotion n (some ⟨r.motion, s.store.doors[n].boltTime⟩)).motions[n] =
        some ⟨r.motion, s.store.doors[n].boltTime⟩ := by rw [State.setMotion_motions, upd_same]
    constructor
    · rw [served, (serveLoop_motion 15 (by rw [started]; rfl)).motion, started]
    · intro last
      have full := motionsInProgress_started (s := s.setQueue n none) idle ⟨r.motion, s.store.doors[n].boltTime⟩
      rw [served, serveLoop, if_neg]
      exact Nat.not_lt_of_le (Nat.le_trans (Nat.le_of_eq last.symm) full)

end Sys2Proof.Proofs
end

section
/-! The door controller (chapter 4), door by door: what the small operations make of their own door, and what serving the
bolt queue can do to a door by the state it finds it in. -/

namespace Sys2Proof.Machine

variable {s t : State} {n m : DoorNo}

/-! ## Conditions as set (R150) -/

/-- A condition stands as its owner set it. -/
theorem setCondition_condition {src : Source} (b : Bool) (s : State) (owned : src ≠ Source.backlog) :
    (setCondition src b s).alarm.condition[src] = b := by
  unfold setCondition setConditionWith
  split
  · next same => exact same
  · have delivered := (deliver_keepsFlags src (s.modAlarm fun a => { a with condition := upd a.condition src fun _ => b })).condition
      src owned
    have here : (deliver src (s.modAlarm fun a =>
        { a with condition := upd a.condition src fun _ => b })).alarm.condition[src] = b :=
      delivered.trans (upd_same _ _ _)
    dsimp only
    split
    · exact here
    · exact (setPending_condition _ _ owned).trans here

theorem setHeldCondition_held (b : Bool) (s : State) :
    (setHeldCondition n b s).alarm.condition[Source.held n] = b := setCondition_condition b s (held_ne_backlog n)

theorem setBoltCondition_bolt (b : Bool) (s : State) :
    (setBoltCondition n b s).alarm.condition[Source.bolt n] = b := setCondition_condition b s (bolt_ne_backlog n)

/-! ## A door's entry -/

/-- A door that is secured (R69). -/
def Door.secured (d : Door) : Door := { d with state := .secured, mark := none, window := none, heldTimer := none }

theorem secureDoor_door : (secureDoor n s).doors[n] = s.doors[n].secured := upd_same _ _ _

theorem setDoorState_door (st : DoorState) : (setDoorState n st s).doors[n] = { s.doors[n] with state := st } :=
  upd_same _ _ _

/-- A door that is let go, without an override (R70, R75). -/
theorem enterReleased_door : (enterReleased n s).doors[n] = { s.doors[n] with
    state := .released
    window := if overridden s n then s.doors[n].window else some s.store.doors[n].unlockWindow } := by
  unfold enterReleased startWindow setDoorState
  rw [overridden_modDoor]
  change (if overridden s n = true then _ else _ : State).doors[n] = _
  split
  · exact upd_same _ _ _
  · rw [modDoor_modDoor]
    exact upd_same _ _ _

theorem dropPasses_door (k : RecordKind) (which : Pass → Bool) : (dropPasses k which n s).doors[n] =
    { s.doors[n] with passes := s.doors[n].passes.filter fun p => !which p } := by
  rw [dropPasses_doors, upd_same]

theorem dropUnused_door : (dropUnused n s).doors[n] = { s.doors[n] with passes := [] } := by
  unfold dropUnused
  rw [dropPasses_door, List.filter_eq_nil_iff.2 fun _ _ => by simp only [Bool.not_true, Bool.false_eq_true, not_false_eq_true]]

theorem setMark_door : (setMark n s).doors[n] = { s.doors[n] with mark := markedAs s n } := by
  rw [setMark_eq]
  exact upd_same _ _ _

/-- Of the request that a part hands the drive the door knows only the mark (R69). -/
theorem joinWithdraw_door (cls : BoltClass) :
    (joinWithdraw n cls s).doors[n] = { s.doors[n] with mark := markedAs s n } := by
  unfold joinWithdraw
  rw [join_doors, setMark_door]

theorem modDoor_door (f : Door → Door) : (s.modDoor n f).doors[n] = f s.doors[n] := upd_same _ _ _

theorem join_door (motion : Motion) (cls : BoltClass) : (join n motion cls s).doors[n] = s.doors[n] := by rw [join_doors]

theorem joinThrow_door : (joinThrow n s).doors[n] = s.doors[n] := by rw [joinThrow_doors]

theorem Signals.door (h : Signals s t) : t.doors[n] = s.doors[n] := by rw [h.doors]

/-! ## The queue -/

/-- The door's request waits, or its motion is in progress with no request behind it. -/
abbrev OnItsWay (n : DoorNo) (motion : Motion) (t : State) : Prop :=
  t.queue[n].map BoltRequest.motion = some motion ∨ (t.queue[n] = none ∧ t.motions[n].map InMotion.motion = some motion)

theorem setQueue_queued (motion : Motion) (cls : BoltClass) :
    ((s.setQueue n (some ⟨motion, cls⟩)).queue[n]).map BoltRequest.motion = some motion := by
  rw [State.setQueue_queue, upd_same]
  rfl

/-- A request that joins waits in the queue, or its motion is in progress already and nothing changes (R83). -/
theorem join_cases (motion : Motion) (cls : BoltClass) :
    (join n motion cls s).queue[n].map BoltRequest.motion = some motion ∨
    (join n motion cls s = s ∧ s.queue[n] = none ∧ s.motions[n].map InMotion.motion = some motion) := by
  unfold join
  split
  · split <;> exact .inl (setQueue_queued _ _)
  · next m empty moving =>
    split
    · next same =>
      refine .inr ⟨rfl, empty, ?_⟩
      rw [moving, ← same]
      rfl
    · exact .inl (setQueue_queued _ _)
  · exact .inl (setQueue_queued _ _)

theorem join_coming (motion : Motion) (cls : BoltClass) : OnItsWay n motion (join n motion cls s) := by
  refine (join_cases motion cls).imp id fun already => ?_
  obtain ⟨same, empty, moving⟩ := already
  rw [same]
  exact ⟨empty, moving⟩

theorem joinWithdraw_coming (cls : BoltClass) : OnItsWay n .withdraw (joinWithdraw n cls s) := join_coming _ _
theorem joinThrow_coming : OnItsWay n .throw (joinThrow n s) := join_coming _ _

/-- The throw of a door whose bolt is on its way back is queued behind the motion (R83). -/
theorem joinThrow_behind (coming : noWithdraw s n = false) :
    (joinThrow n s).queue[n].map BoltRequest.motion = some .throw := by
  refine (join_cases _ _).resolve_right fun already => ?_
  obtain ⟨_, empty, moving⟩ := already
  unfold noWithdraw boltMotor at coming
  rw [empty, moving] at coming
  exact absurd coming (by decide)

theorem join_motions (motion : Motion) (cls : BoltClass) : (join n motion cls s).motions = s.motions := by
  unfold join
  split
  · split <;> rfl
  · split <;> rfl
  · rfl

/-! ## What serving can do to a door -/

/-- A door at rest in its state is left as it is by serving. -/
def RestState (st : DoorState) : Prop := st ≠ .releasing ∧ st ≠ .securing ∧ st ≠ .boltFault

theorem startMotion_cases (h : startable s n = true) : ∃ (r : BoltRequest) (u : State), s.queue[n] = some r ∧
    u.doors = s.doors ∧ DoorFrame s u ∧ u.queue[n] = none ∧
    (startMotion n s = u ∧ confirms s n r.motion = false ∧ u.motions[n].map InMotion.motion = some r.motion ∨
      startMotion n s = motionEffect n r.motion u ∧ confirms s n r.motion = true ∧ u.motions[n] = none) := by
  obtain ⟨_, r, queued, _⟩ := startable_iff.1 h
  cases shown : confirms s n r.motion with
  | false =>
    refine ⟨r, (s.setQueue n none).setMotion n (some ⟨r.motion, s.store.doors[n].boltTime⟩), queued, rfl,
      (setQueue_frame n none s).trans (setMotion_frame n _ _), upd_same _ _ _,
      .inl ⟨startMotion_unconfirmed queued shown, shown, ?_⟩⟩
    rw [State.setMotion_motions, upd_same]
    rfl
  | true =>
    exact ⟨r, ((s.setQueue n none).setMotion n (some ⟨r.motion, s.store.doors[n].boltTime⟩)).setMotion n none, queued, rfl,
      ((setQueue_frame n none s).trans (setMotion_frame n _ _)).trans (setMotion_frame n _ _), upd_same _ _ _,
      .inr ⟨startMotion_confirmed queued shown, shown, upd_same _ _ _⟩⟩

/-- What the completions keep of a door's entry, serving keeps. -/
theorem serve_door {Q : Door → Prop}
    (effect : ∀ (motion : Motion) (u : State), DoorFrame s u → Q u.doors[n] → Q (motionEffect n motion u).doors[n])
    (h : Q s.doors[n]) : Q (serve s).doors[n] := by
  refine (serve_induction (P := fun u => DoorFrame s u ∧ Q u.doors[n]) (fun m u starts now => ?_) ⟨DoorFrame.refl s, h⟩).2
  obtain ⟨frame, now⟩ := now
  refine ⟨frame.trans (startMotion_frame m u), ?_⟩
  by_cases here : n = m
  · subst here
    obtain ⟨r, v, _, doors, moved, _, ⟨started, _⟩ | ⟨done, _⟩⟩ := startMotion_cases starts
    · rw [started, doors]
      exact now
    · rw [done]
      exact effect r.motion v (frame.trans moved) (by rwa [doors])
  · rwa [(startMotion_sameDoor here u).door]

theorem motionEffect_rest (motion : Motion) (rest : RestState s.doors[n].state) : motionEffect n motion s = s := by
  obtain ⟨notReleasing, notSecuring, sound⟩ := rest
  unfold motionEffect
  split
  · next h => exact absurd h notReleasing
  · next h => exact absurd h notSecuring
  · next h => exact absurd h sound
  · rfl

theorem serve_rest (rest : RestState s.doors[n].state) : (serve s).doors[n] = s.doors[n] :=
  serve_door (Q := fun d => d = s.doors[n])
    (fun motion u _ same => by rw [motionEffect_rest motion (same ▸ rest), same]) rfl

/-- A door that is being let go goes on waiting, or it is let go (R85). -/
theorem serve_releasing (releasing : s.doors[n].state = .releasing) :
    (serve s).doors[n].state = .releasing ∨ (serve s).doors[n].state = .released :=
  serve_door (Q := fun d => d.state = .releasing ∨ d.state = .released) (fun motion u _ now => by
    rcases now with waits | gone
    · unfold motionEffect
      rw [waits]
      split
      · right
        rw [enterReleased_door]
      · next bad => cases bad
      · next bad => cases bad
      · exact .inl waits
    · rw [motionEffect_rest motion (by rw [gone]; exact ⟨nofun, nofun, nofun⟩)]
      exact .inr gone) (.inl releasing)

/-- A door that is being secured goes on waiting, or it is secured (R85). -/
theorem serve_securing (securing : s.doors[n].state = .securing) :
    (serve s).doors[n] = s.doors[n] ∨ (serve s).doors[n] = s.doors[n].secured :=
  serve_door (Q := fun d => d = s.doors[n] ∨ d = s.doors[n].secured) (fun motion u _ now => by
    rcases now with waits | done
    · unfold motionEffect
      rw [waits, securing]
      split
      · next bad => cases bad
      · split
        · exact .inl waits
        · right
          rw [secureDoor_door, waits]
      · next bad => cases bad
      · exact .inl waits
    · rw [motionEffect_rest motion (by rw [done]; exact ⟨nofun, nofun, nofun⟩)]
      exact .inr done) (.inl rfl)

/-! ### What the drive leaves alone: the overrides, the passes, an overridden door's mark -/

/-- The overrides and the passes of a door are as they were; so is the mark of an overridden door that is not about to be
secured, and it is not about to be. -/
structure Carried (d e : Door) : Prop where
  egress : e.egress = d.egress
  free : e.free = d.free
  passes : e.passes = d.passes
  mark : d.egress = true ∨ d.free = true → d.mark.isSome = true → d.state ≠ .securing →
    e.mark = d.mark ∧ e.state ≠ .securing

theorem Carried.refl (d : Door) : Carried d d := ⟨rfl, rfl, rfl, fun _ _ other => ⟨rfl, other⟩⟩

theorem Carried.trans {d e f : Door} (h1 : Carried d e) (h2 : Carried e f) : Carried d f :=
  ⟨h2.egress.trans h1.egress, h2.free.trans h1.free, h2.passes.trans h1.passes, fun under marked other => by
    obtain ⟨mark, notSecuring⟩ := h1.mark under marked other
    obtain ⟨mark', notSecuring'⟩ := h2.mark (by rwa [h1.egress, h1.free]) (by rwa [mark]) notSecuring
    exact ⟨mark'.trans mark, notSecuring'⟩⟩

theorem overridden_iff : overridden s n = true ↔ s.doors[n].egress = true ∨ s.doors[n].free = true :=
  Bool.or_eq_true_iff

theorem Carried.markedAs : Carried s.doors[n] { s.doors[n] with mark := Machine.markedAs s n } :=
  ⟨rfl, rfl, rfl, fun _ marked other => by
    obtain ⟨m, hm⟩ := Option.isSome_iff_exists.1 marked
    rw [Machine.markedAs, hm]
    exact ⟨rfl, other⟩⟩

theorem setMark_carried : Carried s.doors[n] (setMark n s).doors[n] := by
  rw [setMark_door]
  exact .markedAs

theorem joinWithdraw_carried (cls : BoltClass) : Carried s.doors[n] (joinWithdraw n cls s).doors[n] := by
  rw [joinWithdraw_door]
  exact .markedAs

theorem setDoorState_carried {st : DoorState} (other : st ≠ .securing) :
    Carried s.doors[n] (setDoorState n st s).doors[n] := by
  rw [setDoorState_door]
  exact ⟨rfl, rfl, rfl, fun _ _ _ => ⟨rfl, other⟩⟩

/-- The mark of a door under no override does not matter here. -/
theorem Carried.of_plain {e : Door} (plain : overridden s n = false) (egress : e.egress = s.doors[n].egress)
    (free : e.free = s.doors[n].free) (passes : e.passes = s.doors[n].passes) : Carried s.doors[n] e :=
  ⟨egress, free, passes, fun under => by rw [← overridden_iff, plain] at under; cases under⟩

theorem enterOpen_carried : Carried s.doors[n] (enterOpen n s).doors[n] := by
  rw [enterOpen_eq, State.modDoor_doors, upd_same]
  exact ⟨rfl, rfl, rfl, fun _ _ _ => ⟨rfl, nofun⟩⟩

theorem settleDoor_carried : Carried s.doors[n] (settleDoor n s).doors[n] := by
  have cleared : Carried s.doors[n] (s.modDoor n fun d => { d with window := none, heldTimer := none }).doors[n] := by
    rw [State.modDoor_doors, upd_same]
    exact ⟨rfl, rfl, rfl, fun _ _ other => ⟨rfl, other⟩⟩
  unfold settleDoor
  dsimp only
  refine cleared.trans ?_
  generalize s.modDoor n (fun d => { d with window := none, heldTimer := none }) = u
  split
  · split
    · exact enterOpen_carried.trans (joinWithdraw_carried _)
    · exact enterOpen_carried
  · split
    · split
      · exact (setDoorState_carried (s := u) (st := .releasing) nofun).trans (joinWithdraw_carried _)
      · exact (setDoorState_carried (s := u) (st := .released) nofun).trans setMark_carried
    · next plain =>
      have plain := Bool.eq_false_iff.2 plain
      split
      · rw [joinThrow_door, setDoorState_door]
        exact .of_plain plain rfl rfl rfl
      · rw [secureDoor_door]
        exact .of_plain plain rfl rfl rfl

theorem motionEffect_carried (motion : Motion) : Carried s.doors[n] (motionEffect n motion s).doors[n] := by
  unfold motionEffect
  split
  · rw [enterReleased_door]
    exact ⟨rfl, rfl, rfl, fun _ _ _ => ⟨rfl, nofun⟩⟩
  · next securing =>
    split
    · exact .refl _
    · rw [secureDoor_door]
      exact ⟨rfl, rfl, rfl, fun _ _ other => absurd securing other⟩
  · have signals := (setCondition_signals (Source.bolt n) false (settleDoor n s)).trans (write_signals .boltFault n.val 0 .recovered _)
    unfold setBoltCondition
    rw [signals.door]
    exact settleDoor_carried
  · exact .refl _

theorem serve_carried : Carried s.doors[n] (serve s).doors[n] :=
  serve_door (fun motion _ _ now => now.trans (motionEffect_carried motion)) (.refl _)

/-! ### The throw of a door that is being secured -/

/-- Where the throw of the securing door `d` leads: it is on its way, or it was found thrown and the door is secured once
its contact shows it closed. With the bolt thrown a motion is in progress only if one was before, which `moved` says. -/
inductive Throwing (n : DoorNo) (d : Door) (moved : Prop) (t : State) : Prop
  | waits : t.doors[n] = d → t.queue[n].map BoltRequest.motion = some .throw → Throwing n d moved t
  | moves : t.doors[n] = d → t.queue[n] = none → t.motions[n].map InMotion.motion = some .throw →
      boltThrown t n = false ∨ moved → Throwing n d moved t
  | shut : t.doors[n] = d.secured → t.queue[n] = none → boltThrown t n = true → contactOpen t n = false →
      Throwing n d moved t
  | stands : t.doors[n] = d → t.queue[n] = none → boltThrown t n = true → contactOpen t n = true → Throwing n d moved t

section
variable {d : Door} {moved : Prop}

theorem Throwing.startMotion (securing : d.state = .securing) (h : Throwing n d moved s) (starts : startable s n = true) :
    Throwing n d moved (Machine.startMotion n s) := by
  obtain ⟨r, u, queued, doors, frame, empty, outcome⟩ := startMotion_cases starts
  have started (door : s.doors[n] = d) (toward : r.motion = .throw) : Throwing n d moved (Machine.startMotion n s) := by
    rw [toward] at outcome
    rcases outcome with ⟨started, away, moving⟩ | ⟨done, thrown, _⟩
    · rw [started]
      exact .moves (by rw [doors, door]) empty moving (.inl (frame.boltThrown_eq.trans away))
    · rw [done]
      have thrown : boltThrown u n = true := frame.boltThrown_eq.trans thrown
      unfold motionEffect
      rw [doors, door, securing]
      dsimp only
      split
      · next stands => exact .stands (by rw [doors, door]) empty thrown stands
      · next shut =>
        refine .shut (by rw [secureDoor_door, doors, door]) empty ?_ ?_
        · exact (secureDoor_frame n u).boltThrown_eq.trans thrown
        · exact (secureDoor_frame n u).contactOpen_eq.trans (Bool.eq_false_iff.2 shut)
  have unqueued (none_queued : s.queue[n] = none) : Throwing n d moved (Machine.startMotion n s) := by
    rw [none_queued] at queued
    cases queued
  cases h with
  | waits door waits =>
    rw [queued] at waits
    exact started door (Option.some.inj waits)
  | moves _ none_queued => exact unqueued none_queued
  | shut _ none_queued => exact unqueued none_queued
  | stands _ none_queued => exact unqueued none_queued

theorem Throwing.of_same (same : SameDoor n s t) (frame : DoorFrame s t) (h : Throwing n d moved s) :
    Throwing n d moved t := by
  have bolt := frame.boltThrown_eq (n := n)
  have contact := frame.contactOpen_eq (n := n)
  cases h with
  | waits door waits => exact .waits (same.door.trans door) (by rwa [same.queue])
  | moves door empty moving before =>
    exact .moves (same.door.trans door) (same.queue.trans empty) (by rwa [same.motion]) (by rwa [bolt])
  | shut door empty thrown closed =>
    exact .shut (same.door.trans door) (same.queue.trans empty) (bolt.trans thrown) (contact.trans closed)
  | stands door empty thrown stands =>
    exact .stands (same.door.trans door) (same.queue.trans empty) (bolt.trans thrown) (contact.trans stands)

theorem serve_throwing (securing : d.state = .securing) (h : Throwing n d moved s) : Throwing n d moved (serve s) :=
  serve_induction (P := Throwing n d moved) (fun m u starts now => by
    by_cases here : n = m
    · subst here
      exact now.startMotion securing starts
    · exact now.of_same (startMotion_sameDoor here u) (startMotion_frame m u)) h

/-- The throw of a securing door that joins the queue, served (R82, R84). -/
theorem serve_joinThrow (securing : s.doors[n].state = .securing) :
    Throwing n s.doors[n] True (serve (joinThrow n s)) := by
  refine serve_throwing securing ?_
  rcases joinThrow_coming (n := n) (s := s) with waits | ⟨empty, moving⟩
  · exact .waits joinThrow_door waits
  · exact .moves joinThrow_door empty moving (.inr trivial)

end

end Sys2Proof.Machine
end

section
/-! The door timers (R75, R76, R86). -/

namespace Sys2Proof.Machine

variable {s t : State} {n m : DoorNo}

theorem motorBolt_of_strike (h : s.store.doors[n].lock = .strike) : motorBolt s n = false := by
  unfold motorBolt
  rw [h]
  rfl

theorem motorBolt_of_bolt (h : s.store.doors[n].lock = .motorBolt) : motorBolt s n = true := decide_eq_true h

theorem filter_all {α : Type} (l : List α) : l.filter (fun _ => true) = l := List.filter_eq_self.2 fun _ _ => rfl

theorem filter_none {α : Type} (l : List α) : l.filter (fun _ => false) = [] := List.filter_eq_nil_iff.2 fun _ _ => nofun

theorem dropUnused_eq : dropUnused n s = forEach s.doors[n].passes (writePass .passUnused n)
    (s.modDoor n fun d => { d with passes := [] }) := by
  unfold dropUnused dropPasses
  simp only [filter_all, Bool.not_true, filter_none]

theorem dropUnused_signals : Signals (s.modDoor n fun d => { d with passes := [] }) (dropUnused n s) := by
  rw [dropUnused_eq]
  exact forEach_rel Signals.refl (fun _ _ _ => Signals.trans) _ _ _ fun p _ u => write_signals _ _ _ _ u

theorem dropUnused_sameQueue : (dropUnused n s).queue = s.queue ∧ (dropUnused n s).motions = s.motions :=
  ⟨dropUnused_signals.queue, dropUnused_signals.motions⟩

/-! ## The unlock window (R75) -/

/-- The window of a released door has run out: its passes go and it is secured. -/
def windowOver (n : DoorNo) (s : State) : State :=
  dropUnused n (s.modDoor n fun d => { d with state := .securing, window := none })

theorem windowOver_door :
    (windowOver n s).doors[n] = { s.doors[n] with state := .securing, window := none, passes := [] } := by
  unfold windowOver
  rw [dropUnused_door, State.modDoor_doors, upd_same]

theorem windowOver_eq : windowOver n s =
    forEach s.doors[n].passes (fun p => write .passUnused n.val p.cred (.direction p.dir))
      (s.modDoor n fun d => { d with state := .securing, window := none, passes := [] }) := by
  unfold windowOver
  rw [dropUnused_eq, modDoor_modDoor, State.modDoor_doors, upd_same]
  rfl

theorem expireWindow_strike (runs : s.doors[n].window.isSome = true) (released : s.doors[n].state = .released)
    (lock : s.store.doors[n].lock = .strike) : expireWindow n s = secureDoor n (windowOver n s) := by
  unfold expireWindow
  rw [if_pos ⟨runs, released⟩, motorBolt_of_strike lock]
  rfl

theorem expireWindow_bolt (runs : s.doors[n].window.isSome = true) (released : s.doors[n].state = .released)
    (lock : s.store.doors[n].lock = .motorBolt) : expireWindow n s = serve (joinThrow n (windowOver n s)) := by
  unfold expireWindow
  rw [if_pos ⟨runs, released⟩, motorBolt_of_bolt lock]
  rfl

theorem expireWindow_over (stopped : s.doors[n].window = none ∨ s.doors[n].state ≠ .released) : expireWindow n s = s := by
  unfold expireWindow
  rw [if_neg]
  rintro ⟨runs, released⟩
  rcases stopped with idle | other
  · rw [idle] at runs
    cases runs
  · exact other released

/-- The throw that follows the window (R75). -/
theorem expireWindow_throwing (runs : s.doors[n].window.isSome = true) (released : s.doors[n].state = .released)
    (lock : s.store.doors[n].lock = .motorBolt) :
    Throwing n { s.doors[n] with state := .securing, window := none, passes := [] } True (expireWindow n s) := by
  rw [expireWindow_bolt runs released lock, ← windowOver_door]
  exact serve_joinThrow (by rw [windowOver_door])

theorem OnItsWay.to_coming {motion : Motion} (h : OnItsWay n motion t) : Coming t n motion := h.imp id And.right

/-! ## The bolt time (R86) -/

/-- The motion of a door has not been confirmed in time. -/
def boltFailed (n : DoorNo) (motion : Motion) (s : State) : State :=
  write .boltFault n.val 0 (.motion motion) (setBoltCondition n true (setHeldCondition n false
    ((dropUnused n ((s.setMotion n none).setQueue n none)).modDoor n fun d =>
      { d with state := .boltFault, window := none, heldTimer := none })))

theorem boltFailed_signals (motion : Motion) :
    Signals ((dropUnused n ((s.setMotion n none).setQueue n none)).modDoor n fun d =>
      { d with state := .boltFault, window := none, heldTimer := none }) (boltFailed n motion s) :=
  ((setCondition_signals (Source.held n) false _).trans (setCondition_signals (Source.bolt n) true _)).trans
    (write_signals .boltFault n.val 0 (.motion motion) _)

theorem boltFailed_door (motion : Motion) : (boltFailed n motion s).doors[n] =
    { s.doors[n] with state := .boltFault, passes := [], window := none, heldTimer := none } := by
  rw [(boltFailed_signals motion).door, State.modDoor_doors, upd_same, dropUnused_door]
  rfl

theorem boltFailed_motions (motion : Motion) : (boltFailed n motion s).motions[n] = none := by
  rw [(boltFailed_signals motion).motions, State.modDoor_motions, dropUnused_sameQueue.2]
  exact upd_same _ _ _

theorem boltFailed_queue (motion : Motion) : (boltFailed n motion s).queue[n] = none := by
  rw [(boltFailed_signals motion).queue, State.modDoor_queue, dropUnused_sameQueue.1]
  exact upd_same _ _ _

theorem boltFailed_held (motion : Motion) : (boltFailed n motion s).alarm.condition[Source.held n] = false :=
  ((write_affects [] .boltFault n.val 0 (.motion motion) _).conditionSame _ List.not_mem_nil (held_ne_backlog n)).trans
    (((setCondition_affects (Source.bolt n) true _).conditionSame _ (fun h => held_ne_bolt n n (List.mem_singleton.1 h))
      (held_ne_backlog n)).trans (setHeldCondition_held false _))

theorem boltFailed_bolt (motion : Motion) : (boltFailed n motion s).alarm.condition[Source.bolt n] = true :=
  ((write_affects [] .boltFault n.val 0 (.motion motion) _).conditionSame _ List.not_mem_nil (bolt_ne_backlog n)).trans
    (setBoltCondition_bolt true _)

theorem expireBolt_unconfirmed {motion : Motion} (moving : boltMotor s n = some motion) :
    expireBolt n motion s = serve (boltFailed n motion s) := if_pos moving

/-- The failed door has nothing queued, so serving the others leaves it. -/
theorem expireBolt_sameDoor {motion : Motion} (moving : boltMotor s n = some motion) :
    SameDoor n (boltFailed n motion s) (expireBolt n motion s) := by
  rw [expireBolt_unconfirmed moving]
  exact serve_unqueued (boltFailed_queue motion)

end Sys2Proof.Machine

namespace Sys2Proof.Proofs
open Sys2Proof.Machine

/-- Settles O22, timer by timer; after a bolt fault nothing of the door is queued, so serving leaves it alone. -/
theorem doorTimersExpire : Obligations.DoorTimersExpire := by
  refine ⟨fun s n => ⟨fun runs released lock => ?_, fun runs released lock => ?_, fun stopped => ?_⟩,
    fun s n => ⟨fun runs opened => ?_, fun stopped => ?_⟩, fun s n motion => ⟨fun moving => ?_, fun other => ?_⟩⟩
  · change Host.Outcome.next (expireWindow n s) = _
    rw [expireWindow_strike runs released lock, windowOver_eq]
    rfl
  · refine ⟨_, rfl, expireWindow_frame n s, ?_⟩
    have throwing := expireWindow_throwing runs released lock
    have frame := expireWindow_frame n s
    have bolt := frame.boltThrown_eq (n := n)
    have contact := frame.contactOpen_eq (n := n)
    cases throwing with
    | waits door waits =>
      rw [door]
      exact ⟨rfl, rfl, fun _ => ⟨rfl, .inl waits⟩, fun _ _ => .inr ⟨rfl, .inl waits⟩⟩
    | moves door _ moving =>
      rw [door]
      exact ⟨rfl, rfl, fun _ => ⟨rfl, .inr moving⟩, fun _ _ => .inr ⟨rfl, .inr moving⟩⟩
    | shut door _ thrown =>
      rw [door]
      refine ⟨rfl, rfl, fun away => ?_, fun _ _ => .inl ⟨rfl, rfl⟩⟩
      rw [bolt, away] at thrown
      cases thrown
    | stands door _ thrown stands =>
      rw [door]
      refine ⟨rfl, rfl, fun away => ?_, fun _ closed => ?_⟩
      · rw [bolt, away] at thrown
        cases thrown
      · rw [contact, closed] at stands
        cases stands
  · exact congrArg Host.Outcome.next (expireWindow_over stopped)
  · exact congrArg Host.Outcome.next (if_pos ⟨runs, opened⟩)
  · refine congrArg Host.Outcome.next (if_neg ?_)
    rintro ⟨runs, opened⟩
    rcases stopped with none_runs | other
    · rw [none_runs] at runs
      cases runs
    · exact other opened
  · have same := expireBolt_sameDoor moving
    exact ⟨_, rfl, expireBolt_frame n motion s, same.door.trans (boltFailed_door motion),
      same.motion.trans (boltFailed_motions motion), same.queue.trans (boltFailed_queue motion),
      same.held.trans (boltFailed_held motion), same.bolt.trans (boltFailed_bolt motion)⟩
  · exact congrArg Host.Outcome.next (expireBolt_stale other)

end Sys2Proof.Proofs
end

section
/-! Requests, overrides and relocking at one door (R70, R74, R79, R80), and DOOR_COMMAND (R81, R87). -/

namespace Sys2Proof.Machine

variable {s t u : State} {n m : DoorNo}

/-! ## What serving can do to a door, by its state -/

/-- The entry `d` of a door after serving: the overrides and passes stand, and only a release, a relock or a fault under way
can come to its end. -/
structure Served (d e : Door) : Prop extends Carried d e where
  rest : RestState d.state → e = d
  releasing : d.state = .releasing → e.state = .releasing ∨ e.state = .released
  securing : d.state = .securing → e = d ∨ e = d.secured

theorem rest_secured {d : Door} (h : d.state = .secured) : RestState d.state := by rw [h]; exact ⟨nofun, nofun, nofun⟩
theorem rest_released {d : Door} (h : d.state = .released) : RestState d.state := by rw [h]; exact ⟨nofun, nofun, nofun⟩
theorem rest_opened {d : Door} (h : d.state = .opened) : RestState d.state := by rw [h]; exact ⟨nofun, nofun, nofun⟩

theorem Served.of_eq {d e : Door} (h : e = d) : Served d e := by
  subst h
  exact ⟨.refl e, fun _ => rfl, .inl, fun _ => .inl rfl⟩

theorem Served.trans {d e f : Door} (h1 : Served d e) (h2 : Served e f) : Served d f where
  toCarried := h1.toCarried.trans h2.toCarried
  rest h := by rw [h2.rest (by rwa [h1.rest h]), h1.rest h]
  releasing h := by
    rcases h1.releasing h with still | done
    · exact h2.releasing still
    · rw [h2.rest (rest_released done)]
      exact .inr done
  securing h := by
    rcases h1.securing h with same | done
    · subst same
      exact h2.securing h
    · exact .inr ((h2.rest (by rw [done]; exact ⟨nofun, nofun, nofun⟩)).trans done)

theorem serve_served : Served s.doors[n] (serve s).doors[n] := ⟨serve_carried, serve_rest, serve_releasing, serve_securing⟩

/-! ## Relocking (R74, R80) -/

theorem relock_strike (lock : s.store.doors[n].lock = .strike) : relock n s = secureDoor n s := by
  unfold relock
  rw [motorBolt_of_strike lock]
  rfl

theorem relock_thrown (lock : s.store.doors[n].lock = .motorBolt) (thrown : boltThrown s n = true)
    (none_coming : noWithdraw s n = true) : relock n s = secureDoor n s := by
  unfold relock
  rw [motorBolt_of_bolt lock, thrown, none_coming]
  rfl

theorem relock_joins (lock : s.store.doors[n].lock = .motorBolt) (away : boltThrown s n = false ∨ noWithdraw s n = false) :
    relock n s = joinThrow n s := by
  unfold relock
  rw [motorBolt_of_bolt lock]
  rcases away with away | coming
  · rw [away]
    rfl
  · rw [coming, Bool.and_false]
    rfl

/-- What a relock reads of the state beside the door's own entry. -/
structure RelockSame (n : DoorNo) (s u : State) : Prop where
  frame : DoorFrame s u
  queue : u.queue = s.queue
  motions : u.motions = s.motions

theorem RelockSame.noWithdraw_eq (h : RelockSame n s u) : noWithdraw u n = noWithdraw s n := by
  unfold noWithdraw boltMotor
  rw [h.queue, h.motions]

theorem secured_after_serve (n : DoorNo) (u : State) : (serve (secureDoor n u)).doors[n] = u.doors[n].secured := by
  rw [serve_rest (rest_secured secureDoor_state), secureDoor_door]

theorem joinThrow_motions : (joinThrow n s).motions = s.motions := join_motions _ _

/-- Relocked and served: the closed door is secured, or its throw is to come (R74, R80, R85). -/
theorem serve_relock (same : RelockSame n s u) (securing : u.doors[n].state = .securing)
    (mark : u.doors[n].mark = s.doors[n].mark) : Relocked s (serve (relock n u)) n := by
  have settings : u.store = s.store := same.frame.store_eq
  have frame : DoorFrame s (serve (relock n u)) := (same.frame.trans (relock_frame n u)).trans (serve_frame _)
  have secures (now : relock n u = secureDoor n u) :
      (serve (relock n u)).doors[n].state = .secured ∧ (serve (relock n u)).doors[n].mark = none := by
    rw [now, secured_after_serve]
    exact ⟨rfl, rfl⟩
  refine ⟨fun lock => ?_, fun lock thrown idle => ?_, fun lock thrown coming shut => ?_, fun lock away => ?_⟩
  · exact secures (relock_strike (settings ▸ lock))
  · exact secures (relock_thrown (settings ▸ lock) (same.frame.boltThrown_eq.trans thrown) (same.noWithdraw_eq.trans idle))
  · have coming := same.noWithdraw_eq.trans coming
    have queued := joinThrow_behind coming
    rw [relock_joins (settings ▸ lock) (.inr coming)] at shut ⊢
    by_cases back : boltMotor s n = some .withdraw
    · right
      have moving : (joinThrow n u).motions[n].isSome = true := by
        rw [joinThrow_motions, same.motions, ← Option.isSome_map (f := InMotion.motion)]
        exact congrArg Option.isSome back
      have left := serve_motion moving
      rw [left.door, left.queue, joinThrow_door]
      exact ⟨securing, queued⟩
    · cases serve_throwing (moved := False) securing (.waits joinThrow_door queued) with
      | waits door waits => exact .inr ⟨by rw [door, securing], waits⟩
      | moves _ _ _ now =>
        refine (now.elim (fun away => ?_) id).elim
        have kept := (joinThrow_frame n u).trans (serve_frame _)
        rw [(same.frame.trans kept).boltThrown_eq, thrown] at away
        cases away
      | shut door => exact .inl ⟨by rw [door]; exact ⟨rfl, rfl⟩, back⟩
      | stands _ _ _ stands => rw [shut] at stands; cases stands
  · have kept := (same.frame.trans (joinThrow_frame n u)).trans (serve_frame _)
    have notThrown : boltThrown (serve (joinThrow n u)) n ≠ true := by
      rw [kept.boltThrown_eq, away]
      nofun
    rw [relock_joins (settings ▸ lock) (.inl (same.frame.boltThrown_eq.trans away))]
    cases serve_joinThrow securing with
    | waits door waits => exact ⟨by rw [door, securing], by rw [door, mark], .inl waits⟩
    | moves door _ moving => exact ⟨by rw [door, securing], by rw [door, mark], .inr moving⟩
    | shut _ _ thrown => exact absurd thrown notThrown
    | stands _ _ thrown => exact absurd thrown notThrown

/-! ## A request at a secured door (R70) -/

theorem LetGo.of_signals {passes : List Pass} (same : Signals s u) (h : LetGo u t n passes) : LetGo s t n passes := by
  obtain ⟨strike, bolt⟩ := h
  have thrown : boltThrown u n = boltThrown s n := active_congr same.inputs _
  rw [same.store, same.doors] at strike bolt
  exact ⟨strike, fun lock h => bolt lock (thrown.trans h)⟩

theorem markedAs_ordinary_of_plain (unmarked : s.doors[n].mark = none) (plain : overridden s n = false) :
    markedAs s n = some .ordinary := by
  rw [markedAs, unmarked, plain]
  rfl

theorem releaseLock_strike (secured : s.doors[n].state = .secured) (lock : s.store.doors[n].lock = .strike) (cls : BoltClass) :
    releaseLock n cls s = enterReleased n (setMark n s) := by
  unfold releaseLock
  rw [secured, motorBolt_of_strike lock]
  rfl

theorem releaseLock_bolt (secured : s.doors[n].state = .secured) (lock : s.store.doors[n].lock = .motorBolt)
    (cls : BoltClass) : releaseLock n cls s = joinWithdraw n cls (setDoorState n .releasing s) := by
  unfold releaseLock
  rw [secured, motorBolt_of_bolt lock]
  rfl

theorem markedAs_setDoorState (st : DoorState) : markedAs (setDoorState n st s) n = markedAs s n := by
  unfold setDoorState
  rw [markedAs, markedAs, overridden_modDoor, State.modDoor_doors, upd_same]
  rfl

theorem overridden_setMark : overridden (setMark n s) n = overridden s n := by
  rw [setMark_eq, overridden_modDoor]
  rfl

/-- The strike of a secured door is dropped (R70). -/
theorem releaseLock_strike_door (secured : s.doors[n].state = .secured) (lock : s.store.doors[n].lock = .strike)
    (cls : BoltClass) : (releaseLock n cls s).doors[n] = { s.doors[n] with
      state := .released
      mark := markedAs s n
      window := if overridden s n then s.doors[n].window else some s.store.doors[n].unlockWindow } := by
  rw [releaseLock_strike secured lock, enterReleased_door, overridden_setMark, setMark_door]
  rfl

/-- A thrown bolt has its withdraw on its way (R70). -/
theorem releaseLock_bolt_underway (secured : s.doors[n].state = .secured) (lock : s.store.doors[n].lock = .motorBolt)
    (cls : BoltClass) : Underway n { s.doors[n] with state := .releasing, mark := markedAs s n } .withdraw
      (releaseLock n cls s) := by
  rw [releaseLock_bolt secured lock]
  exact ⟨by rw [joinWithdraw_door, markedAs_setDoorState, setDoorState_door], joinWithdraw_coming cls⟩

theorem confirms_withdraw_of_thrown (thrown : boltThrown s n = true) : confirms s n .withdraw = false := by
  rw [confirms, thrown]
  rfl

/-- A served release at a secured door: what the passes leave of the door's entry aside, the lock lets it go (R70). -/
theorem serve_letGo {cls : BoltClass} {passes : List Pass} (secured : s.doors[n].state = .secured)
    (unmarked : s.doors[n].mark = none) (plain : overridden s n = false)
    (door : u.doors[n] = { (releaseLock n cls s).doors[n] with passes := passes })
    (queue : u.queue = (releaseLock n cls s).queue) (motions : u.motions = (releaseLock n cls s).motions)
    (frame : DoorFrame (releaseLock n cls s) u) : LetGo s (serve u) n passes := by
  have mark := markedAs_ordinary_of_plain unmarked plain
  constructor
  · intro lock
    rw [releaseLock_strike_door secured lock, mark, plain] at door
    rw [serve_rest (rest_released (by rw [door])), door]
    rfl
  · intro lock thrown
    have under := releaseLock_bolt_underway secured lock cls
    have away : confirms u n .withdraw = false := confirms_withdraw_of_thrown
      (((releaseLock_frame n cls s).trans frame).boltThrown_eq.trans thrown)
    have served := serve_underway (d := u.doors[n]) away ⟨rfl, by rw [queue, motions]; exact under.coming⟩
    rw [served.door, door, under.door, mark]
    exact ⟨rfl, served.to_coming⟩

theorem startWindow_passes : (startWindow n s).doors[n].passes = s.doors[n].passes := by
  unfold startWindow
  split
  · rfl
  · exact (congrArg Door.passes <| modDoor_door (s := s) fun d => { d with window := some s.store.doors[n].unlockWindow }).trans rfl

theorem releaseLock_passes (cls : BoltClass) : (releaseLock n cls s).doors[n].passes = s.doors[n].passes := by
  unfold releaseLock
  split
  · split
    · rw [joinWithdraw_door, setDoorState_door]
    · rw [enterReleased_door, setMark_door]
  · rw [join_doors]
  · exact startWindow_passes
  · rw [joinWithdraw_door, setDoorState_door]
  · rfl

theorem releaseLock_letGo {cls : BoltClass} (secured : s.doors[n].state = .secured) (unmarked : s.doors[n].mark = none)
    (plain : overridden s n = false) : LetGo s (serve (releaseLock n cls s)) n s.doors[n].passes := by
  refine serve_letGo secured unmarked plain ?_ rfl rfl (DoorFrame.refl _)
  rw [← releaseLock_passes cls]

/-- A thrown bolt is being withdrawn, whatever the door's mark (R70). -/
theorem releaseLock_bolt_releasing {cls : BoltClass} (secured : s.doors[n].state = .secured)
    (lock : s.store.doors[n].lock = .motorBolt) (thrown : boltThrown s n = true) :
    (serve (releaseLock n cls s)).doors[n].state = .releasing := by
  have away : confirms (releaseLock n cls s) n .withdraw = false :=
    confirms_withdraw_of_thrown ((releaseLock_frame n cls s).boltThrown_eq.trans thrown)
  rw [(serve_underway away (releaseLock_bolt_underway secured lock cls)).door]

/-! ## Overrides (R79, R80) -/

/-- What an override start does at the lock, the mark already set (R79). -/
def overrideLock (n : DoorNo) (s : State) : State :=
  match s.doors[n].state with
  | .secured =>
    if motorBolt s n then joinWithdraw n .egress (setDoorState n .releasing s) else setDoorState n .released s
  | .releasing => join n .withdraw .egress s
  | .released => s.modDoor n fun d => { d with window := none }
  | .opened => s.modDoor n fun d => { d with heldTimer := none }
  | .held => setHeldCondition n false (setDoorState n .opened s)
  | .forced => if motorBolt s n then joinWithdraw n .egress (setDoorState n .opened s) else setDoorState n .opened s
  | .securing => joinWithdraw n .egress (setDoorState n .releasing s)
  | .boltFault => turnRetry n .withdraw .egress s
  | .starting => s

theorem overrideStart_eq : overrideStart n s =
    serve (overrideLock n (s.modDoor n fun d => { d with mark := some .override })) := rfl

section
variable {d : Door}

theorem markedAs_of_marked {mk : Mark} (marked : s.doors[n].mark = some mk) : markedAs s n = some mk := by
  rw [markedAs, marked]
  rfl

theorem joinWithdraw_door_marked {st : DoorState} (marked : s.doors[n].mark = some .override) :
    (joinWithdraw n .egress (setDoorState n st s)).doors[n] = { s.doors[n] with state := st } := by
  rw [joinWithdraw_door, markedAs_setDoorState, markedAs_of_marked marked, setDoorState_door, ← marked]

theorem turnRetry_state (motion : Motion) (cls : BoltClass) : (turnRetry n motion cls s).doors[n] = s.doors[n] := by
  unfold turnRetry
  split
  · exact join_door motion cls
  · rfl

/-- The door's entry after the start of an override, its mark aside (R79). -/
def Door.letOpen (bolt : Bool) (d : Door) : Door :=
  match d.state with
  | .secured => { d with state := if bolt then .releasing else .released }
  | .released => { d with window := none }
  | .opened => { d with heldTimer := none }
  | .held => { d with state := .opened }
  | .forced => { d with state := .opened }
  | .securing => { d with state := .releasing }
  | .releasing | .boltFault | .starting => d

theorem overrideLock_door (marked : s.doors[n].mark = some .override) :
    (overrideLock n s).doors[n] = s.doors[n].letOpen (motorBolt s n) := by
  unfold overrideLock
  split <;> rename_i state <;> unfold Door.letOpen <;> rw [state]
  · split
    · exact joinWithdraw_door_marked marked
    · exact setDoorState_door _
  · exact join_door _ _
  · exact (modDoor_door _).trans (by rw [state])
  · exact (modDoor_door _).trans (by rw [state])
  · exact (Signals.door (setCondition_signals _ _ _)).trans (setDoorState_door _)
  · split
    · exact joinWithdraw_door_marked marked
    · exact setDoorState_door _
  · exact joinWithdraw_door_marked marked
  · exact turnRetry_state _ _

theorem Door.letOpen_carried (bolt : Bool) (d : Door) : Carried d (d.letOpen bolt) ∧ (d.letOpen bolt).mark = d.mark ∧
    (d.letOpen bolt).state ≠ .securing := by
  obtain ⟨st, egress, free, passes, mark, window, heldTimer⟩ := d
  cases st <;> cases bolt <;> exact ⟨⟨rfl, rfl, rfl, fun _ _ _ => ⟨rfl, nofun⟩⟩, rfl, nofun⟩

/-- An override started at the door (R79). -/
abbrev overrideStarted (n : DoorNo) (s : State) : Door :=
  Door.letOpen (motorBolt s n) { s.doors[n] with mark := some .override }

theorem overrideStart_served : Served (overrideStarted n s) (overrideStart n s).doors[n] := by
  rw [overrideStart_eq]
  have door : (overrideLock n (s.modDoor n fun d => { d with mark := some .override })).doors[n] = overrideStarted n s := by
    rw [overrideLock_door (by rw [modDoor_door]), modDoor_door]
    rfl
  rw [← door]
  exact serve_served

theorem overrideStart_carried : (overrideStart n s).doors[n].egress = s.doors[n].egress ∧
    (overrideStart n s).doors[n].free = s.doors[n].free ∧ (overrideStart n s).doors[n].passes = s.doors[n].passes := by
  obtain ⟨started, _, _⟩ := Door.letOpen_carried (motorBolt s n) { s.doors[n] with mark := some .override }
  have served := overrideStart_served (n := n) (s := s)
  exact ⟨served.egress.trans started.egress, served.free.trans started.free, served.passes.trans started.passes⟩

/-- The started override's mark stands (R69). -/
theorem overrideStart_mark (under : overridden s n = true) : (overrideStart n s).doors[n].mark = some .override ∧
    (overrideStart n s).doors[n].state ≠ .securing := by
  obtain ⟨started, mark, notSecuring⟩ := Door.letOpen_carried (motorBolt s n) { s.doors[n] with mark := some .override }
  have under := overridden_iff.1 under
  have served := overrideStart_served (n := n) (s := s)
  obtain ⟨same, still⟩ := served.mark (by rwa [started.egress, started.free]) (by rw [mark]; rfl) notSecuring
  exact ⟨same.trans mark, still⟩

theorem overrideStart_rest (rest : RestState (overrideStarted n s).state) :
    (overrideStart n s).doors[n] = overrideStarted n s := overrideStart_served.rest rest

/-- The override of a secured door whose bolt is thrown waits for its withdraw (R79). -/
theorem overrideStart_releasing (secured : s.doors[n].state = .secured) (lock : s.store.doors[n].lock = .motorBolt)
    (thrown : boltThrown s n = true) : (overrideStart n s).doors[n].state = .releasing := by
  rw [overrideStart_eq]
  have marked : (s.modDoor n fun d => { d with mark := some .override }).doors[n].mark = some .override := by
    rw [modDoor_door]
  have secured' : (s.modDoor n fun d => { d with mark := some .override }).doors[n].state = .secured := by
    rw [modDoor_door, secured]
  have bolt : motorBolt (s.modDoor n fun d => { d with mark := some .override }) n = true := motorBolt_of_bolt lock
  have thrown' : boltThrown (s.modDoor n fun d => { d with mark := some .override }) n = true := thrown
  generalize s.modDoor n (fun d => { d with mark := some .override }) = u at marked secured' bolt thrown'
  have locked : overrideLock n u = joinWithdraw n .egress (setDoorState n .releasing u) := by
    unfold overrideLock
    rw [secured', bolt]
    rfl
  have frame := (setDoorState_frame n .releasing u).trans (joinWithdraw_frame n .egress _)
  rw [locked, (serve_underway (confirms_withdraw_of_thrown (frame.boltThrown_eq.trans thrown'))
    ⟨rfl, joinWithdraw_coming _⟩).door, joinWithdraw_door_marked marked]

/-- A faulty door with no RETRY queued stays as it is (R79, R87). -/
theorem overrideStart_fault (fault : s.doors[n].state = .boltFault) (unqueued : s.queue[n] = none) :
    (overrideStart n s).doors[n] = { s.doors[n] with mark := some .override } := by
  have same : overrideLock n (s.modDoor n fun d => { d with mark := some .override }) =
      s.modDoor n fun d => { d with mark := some .override } := by
    unfold overrideLock
    rw [modDoor_state, fault]
    unfold turnRetry
    rw [State.modDoor_queue, unqueued]
    rfl
  rw [overrideStart_eq, same]
  exact (serve_unqueued (s := s.modDoor n _) unqueued).door.trans (modDoor_door _)

theorem join_alarm (motion : Motion) (cls : BoltClass) : (join n motion cls s).alarm = s.alarm := by
  unfold join
  split
  · split <;> rfl
  · split <;> rfl
  · rfl

theorem joinWithdraw_alarm (cls : BoltClass) : (joinWithdraw n cls s).alarm = s.alarm := by
  unfold joinWithdraw
  rw [join_alarm]
  rfl

theorem enterOpen_alarm : (enterOpen n s).alarm = s.alarm := by
  rw [enterOpen_eq]
  rfl

theorem settleDoor_alarm : (settleDoor n s).alarm = s.alarm := by
  unfold settleDoor
  dsimp only
  split
  · split
    · rw [joinWithdraw_alarm, enterOpen_alarm]
      rfl
    · rw [enterOpen_alarm]
      rfl
  · split
    · split
      · rw [joinWithdraw_alarm]
        rfl
      · rfl
    · split
      · exact join_alarm _ _
      · rfl

/-- A door's HELD condition is no matter of the bolt drive (R76). -/
theorem motionEffect_held (motion : Motion) :
    (motionEffect m motion s).alarm.condition[Source.held n] = s.alarm.condition[Source.held n] := by
  unfold motionEffect
  split
  · unfold enterReleased startWindow
    split <;> rfl
  · split <;> rfl
  · have written := (write_affects [] .boltFault m.val 0 .recovered
      (setBoltCondition m false (settleDoor m s))).conditionSame (Source.held n) List.not_mem_nil (held_ne_backlog n)
    have bolt := (setCondition_affects (Source.bolt m) false (settleDoor m s)).conditionSame (Source.held n)
      (fun h => held_ne_bolt n m (List.mem_singleton.1 h)) (held_ne_backlog n)
    rw [written]
    exact bolt.trans (by rw [settleDoor_alarm])
  · rfl

theorem serve_held : (serve s).alarm.condition[Source.held n] = s.alarm.condition[Source.held n] := by
  refine serve_induction (P := fun u => u.alarm.condition[Source.held n] = s.alarm.condition[Source.held n])
    (fun m u starts now => Eq.trans ?_ now) rfl
  obtain ⟨_, r, queued, _⟩ := startable_iff.1 starts
  cases shown : confirms u m r.motion with
  | true =>
    rw [startMotion_confirmed queued shown]
    exact motionEffect_held r.motion
  | false =>
    rw [startMotion_unconfirmed queued shown]
    rfl

/-- The HELD condition of a held door ends with the override's start (R79). -/
theorem overrideStart_held (held : s.doors[n].state = .held) :
    (overrideStart n s).alarm.condition[Source.held n] = false := by
  rw [overrideStart_eq, serve_held]
  unfold overrideLock
  rw [modDoor_state, held]
  exact setHeldCondition_held _ _

/-! ### The end of an override (R80) -/

/-- What an override end does at the lock (R80). -/
def overrideUnlock (n : DoorNo) (s : State) : State :=
  match s.doors[n].state with
  | .released => relock n (dropUnused n (setDoorState n .securing s))
  | .releasing => relock n (dropUnused n (setDoorState n .securing s))
  | .opened => startHeld n s
  | .boltFault => turnRetry n .throw .relock s
  | _ => s

theorem overrideEnd_eq : overrideEnd n s = serve (overrideUnlock n s) := rfl

theorem overrideUnlock_resting (resting : s.doors[n].state = .released ∨ s.doors[n].state = .releasing) :
    overrideUnlock n s = relock n (dropUnused n (setDoorState n .securing s)) := by
  unfold overrideUnlock
  rcases resting with h | h <;> rw [h]

theorem unlocked_door : (dropUnused n (setDoorState n .securing s)).doors[n] =
    { s.doors[n] with state := .securing, passes := [] } := by
  rw [dropUnused_door, setDoorState_door]

/-- A resting door is relocked at the end of its override, its passes dropped (R80). -/
theorem overrideEnd_relocked (resting : s.doors[n].state = .released ∨ s.doors[n].state = .releasing) :
    Relocked s (overrideEnd n s) n := by
  rw [overrideEnd_eq, overrideUnlock_resting resting]
  refine serve_relock ⟨(setDoorState_frame n .securing s).trans (dropUnused_frame n _), ?_, ?_⟩ ?_ ?_
  · rw [dropUnused_sameQueue.1]
    rfl
  · rw [dropUnused_sameQueue.2]
    rfl
  · rw [unlocked_door]
  · rw [unlocked_door]

theorem relock_door : (relock n s).doors[n] = s.doors[n] ∨ (relock n s).doors[n] = s.doors[n].secured := by
  unfold relock
  split
  · exact .inr secureDoor_door
  · split
    · exact .inr secureDoor_door
    · exact .inl joinThrow_door

/-- What is left of a resting door's entry at the end of its override. -/
theorem overrideEnd_door (resting : s.doors[n].state = .released ∨ s.doors[n].state = .releasing) :
    (overrideEnd n s).doors[n] = { s.doors[n] with state := .securing, passes := [] } ∨
    (overrideEnd n s).doors[n] = Door.secured { s.doors[n] with passes := [] } := by
  rw [overrideEnd_eq, overrideUnlock_resting resting]
  rcases relock_door (n := n) (s := dropUnused n (setDoorState n .securing s)) with same | done
  · rw [unlocked_door] at same
    rcases serve_securing (n := n) (s := relock n (dropUnused n (setDoorState n .securing s))) (by rw [same]) with h | h
    · exact .inl (h.trans same)
    · exact .inr (h.trans (by rw [same]; rfl))
  · rw [unlocked_door] at done
    right
    rw [serve_rest (rest_secured (by rw [done]; rfl)), done]
    rfl

/-- An open door's held timer starts at the end of its override (R80). -/
theorem overrideEnd_opened (opened : s.doors[n].state = .opened) (plain : overridden s n = false) :
    (overrideEnd n s).doors[n] = { s.doors[n] with heldTimer := some s.store.doors[n].heldTime } := by
  have started : overrideUnlock n s = s.modDoor n fun d => { d with heldTimer := some s.store.doors[n].heldTime } := by
    unfold overrideUnlock
    rw [opened]
    unfold startHeld
    rw [plain]
    rfl
  rw [overrideEnd_eq, started, serve_rest (rest_opened (by rw [modDoor_door, opened])), modDoor_door]

/-- The end of an override leaves the flags; only a resting door's passes go. -/
theorem overrideEnd_carried : (overrideEnd n s).doors[n].egress = s.doors[n].egress ∧
    (overrideEnd n s).doors[n].free = s.doors[n].free := by
  have kept : (overrideUnlock n s).doors[n].egress = s.doors[n].egress ∧
      (overrideUnlock n s).doors[n].free = s.doors[n].free := by
    have relocked : (relock n (dropUnused n (setDoorState n .securing s))).doors[n].egress = s.doors[n].egress ∧
        (relock n (dropUnused n (setDoorState n .securing s))).doors[n].free = s.doors[n].free := by
      rcases relock_door (n := n) (s := dropUnused n (setDoorState n .securing s)) with h | h <;>
        (rw [h, unlocked_door]; exact ⟨rfl, rfl⟩)
    unfold overrideUnlock
    split
    · exact relocked
    · exact relocked
    · unfold startHeld
      split
      · exact ⟨rfl, rfl⟩
      · exact ⟨(congrArg Door.egress (modDoor_door _)).trans rfl, (congrArg Door.free (modDoor_door _)).trans rfl⟩
    · rw [turnRetry_state]
      exact ⟨rfl, rfl⟩
    · exact ⟨rfl, rfl⟩
  have served := serve_carried (n := n) (s := overrideUnlock n s)
  rw [overrideEnd_eq]
  exact ⟨served.egress.trans kept.1, served.free.trans kept.2⟩

end

end Sys2Proof.Machine
end

section
/-! DOOR_COMMAND (R81, R87). -/

namespace Sys2Proof.Machine

variable {s t u : State} {n m : DoorNo}

/-! ## A reply after a door's change -/

theorem reply_frame {parts : List Part} {srcs : List Source} (link : Part.link ∈ parts) (kind : Nat) (status : Status)
    (body : ReplyBody) (s : State) : Frame parts srcs s (reply kind status body s) := by
  constructor <;> intros <;> first | rfl | exact Nat.le_refl _ | exact SameSettings.refl _ | contradiction

theorem DoorFrame.replied (h : DoorFrame s u) (kind : Nat) (status : Status) (body : ReplyBody) :
    Frame [.doors, .link] doorSources s (reply kind status body u) :=
  (Frame.mono h (by decide) fun _ hs => hs).trans (reply_frame (by decide) kind status body u)

theorem DoorFrame.link_eq (h : DoorFrame s u) : u.link = s.link := h.link (by decide)

theorem DoorFrame.answered (h : DoorFrame s u) (kind : Nat) (status : Status) (body : ReplyBody) :
    Replied (BitVec.ofNat 8 kind) status body s (reply kind status body u) := replied_reply h.link_eq kind status body

theorem Relocked.of_reply {kind : Nat} {status : Status} {body : ReplyBody} (h : Relocked s t n) :
    Relocked s (reply kind status body t) n := h

theorem LetGo.of_reply {passes : List Pass} {kind : Nat} {status : Status} {body : ReplyBody} (h : LetGo s t n passes) :
    LetGo s (reply kind status body t) n passes := h

/-! ## FREE and AUTO (R81) -/

theorem writeConfig_signals (a : Nat) (d : Detail) (s : State) : Signals s (writeConfig a d s) := write_signals _ _ _ _ s

theorem Relocked.of_same (same : RelockSame n s u) (mark : u.doors[n].mark = s.doors[n].mark) (h : Relocked u t n) :
    Relocked s t n := by
  have thrown : boltThrown u n = boltThrown s n := same.frame.boltThrown_eq
  have moving : boltMotor u n = boltMotor s n := by
    unfold boltMotor
    rw [same.motions]
  unfold Relocked at h ⊢
  rwa [same.frame.store_eq, thrown, same.noWithdraw_eq, moving, mark] at h

/-- A door's FREE flag as a command sets it, with its CONFIG record (R81). -/
def setFree (n : DoorNo) (action : DoorAction) (b : Bool) (s : State) : State :=
  (writeConfig n.val (.door action) s).modDoor n fun d => { d with free := b }

theorem setFree_door (action : DoorAction) (b : Bool) :
    (setFree n action b s).doors[n] = { s.doors[n] with free := b } := by
  unfold setFree
  rw [modDoor_door, (writeConfig_signals _ _ s).door]

theorem setFree_frame (n : DoorNo) (action : DoorAction) (b : Bool) (s : State) : DoorFrame s (setFree n action b s) :=
  (write_frame .config n.val 0 (.door action) s).trans (modDoor_frame n _ _)

theorem setFree_queue (action : DoorAction) (b : Bool) : (setFree n action b s).queue = s.queue :=
  (writeConfig_signals n.val (.door action) s).queue

theorem setFree_motions (action : DoorAction) (b : Bool) : (setFree n action b s).motions = s.motions :=
  (writeConfig_signals n.val (.door action) s).motions

/-- What DOOR_COMMAND FREE does to the door. -/
def freeDoor (n : DoorNo) (s : State) : State :=
  if overridden s n then setFree n .free true s else overrideStart n (setFree n .free true s)

/-- What DOOR_COMMAND AUTO does to the door. -/
def autoDoor (n : DoorNo) (s : State) : State :=
  if s.doors[n].free && !s.doors[n].egress then overrideEnd n (setFree n .auto false s) else setFree n .auto false s

theorem freeDoor_frame (n : DoorNo) (s : State) : DoorFrame s (freeDoor n s) := by
  unfold freeDoor
  split
  · exact setFree_frame n _ _ s
  · exact (setFree_frame n _ _ s).trans (overrideStart_frame n _)

theorem autoDoor_frame (n : DoorNo) (s : State) : DoorFrame s (autoDoor n s) := by
  unfold autoDoor
  split
  · exact (setFree_frame n _ _ s).trans (overrideEnd_frame n _)
  · exact setFree_frame n _ _ s

theorem doorFree_eq (served : s.doors[n].state ≠ .starting) :
    doorFree n.val s = reply 0x40 .ok .empty (freeDoor n s) := by
  unfold doorFree
  rw [item_val]
  exact if_neg served

theorem doorAuto_eq (served : s.doors[n].state ≠ .starting) :
    doorAuto n.val s = reply 0x40 .ok .empty (autoDoor n s) := by
  unfold doorAuto
  rw [item_val]
  exact if_neg served

theorem doorFree_starting (starting : s.doors[n].state = .starting) : doorFree n.val s = reply 0x40 .state .empty s := by
  unfold doorFree
  rw [item_val]
  exact if_pos starting

theorem doorAuto_starting (starting : s.doors[n].state = .starting) : doorAuto n.val s = reply 0x40 .state .empty s := by
  unfold doorAuto
  rw [item_val]
  exact if_pos starting

/-! ### A started override, by the state it finds (R79) -/

theorem overrideStart_of {e : Door} (started : overrideStarted n s = e) (rest : RestState e.state) :
    (overrideStart n s).doors[n] = e := by
  rw [overrideStart_rest (by rwa [started]), started]

theorem overrideStart_strike (secured : s.doors[n].state = .secured) (lock : s.store.doors[n].lock = .strike) :
    (overrideStart n s).doors[n].state = .released := by
  rw [overrideStart_of (e := { s.doors[n] with state := .released, mark := some .override }) ?_ ⟨nofun, nofun, nofun⟩]
  unfold overrideStarted Door.letOpen
  rw [secured, motorBolt_of_strike lock]
  rfl

theorem overrideStart_released (released : s.doors[n].state = .released) :
    (overrideStart n s).doors[n].state = .released ∧ (overrideStart n s).doors[n].window = none := by
  rw [overrideStart_of (e := { s.doors[n] with state := .released, mark := some .override, window := none }) ?_
    ⟨nofun, nofun, nofun⟩]
  · exact ⟨rfl, rfl⟩
  · unfold overrideStarted Door.letOpen
    rw [released]

theorem overrideStart_opened (opened : s.doors[n].state = .opened) :
    (overrideStart n s).doors[n].state = .opened ∧ (overrideStart n s).doors[n].heldTimer = none := by
  rw [overrideStart_of (e := { s.doors[n] with state := .opened, mark := some .override, heldTimer := none }) ?_
    ⟨nofun, nofun, nofun⟩]
  · exact ⟨rfl, rfl⟩
  · unfold overrideStarted Door.letOpen
    rw [opened]

theorem overrideStart_standing (standing : s.doors[n].state = .held ∨ s.doors[n].state = .forced) :
    (overrideStart n s).doors[n].state = .opened := by
  rw [overrideStart_of (e := { s.doors[n] with state := .opened, mark := some .override }) ?_ ⟨nofun, nofun, nofun⟩]
  unfold overrideStarted Door.letOpen
  rcases standing with h | h <;> rw [h]

end Sys2Proof.Machine

namespace Sys2Proof.Proofs
open Sys2Proof.Machine

/-- Settles O25: FREE is an override start, AUTO an override end, each with its flag and its CONFIG record before it. -/
theorem doorCommandsFreeAndAuto : Obligations.DoorCommandsFreeAndAuto := by
  refine ⟨fun s door => ⟨fun h => ?_, fun bad => ?_⟩, fun s door => ⟨fun h => ?_, fun bad => ?_⟩⟩
  · intro n d
    have door_eq := setFree_door (n := n) (s := s) .free true
    refine ⟨fun served => ⟨_, congrArg Host.Outcome.next (doorFree_eq served), (freeDoor_frame n s).replied _ _ _,
      (freeDoor_frame n s).answered _ _ _, ?_⟩, fun starting => congrArg Host.Outcome.next (doorFree_starting starting)⟩
    rw [reply_doors, reply_alarm]
    cases under : overridden s n with
    | true =>
      have now : freeDoor n s = setFree n .free true s := if_pos under
      rw [now, door_eq]
      exact ⟨rfl, rfl, rfl, fun _ => rfl, nofun⟩
    | false =>
      have now : freeDoor n s = overrideStart n (setFree n .free true s) := if_neg (by rw [under]; nofun)
      rw [now]
      have settings : (setFree n .free true s).store = s.store := (setFree_frame n .free true s).store_eq
      have queue := setFree_queue (n := n) (s := s) .free true
      have thrown : boltThrown (setFree n .free true s) n = boltThrown s n := (setFree_frame n .free true s).boltThrown_eq
      have state : (setFree n .free true s).doors[n].state = d.state := by rw [door_eq]
      obtain ⟨egress, free, passes⟩ := overrideStart_carried (n := n) (s := setFree n .free true s)
      obtain ⟨mark, _⟩ := overrideStart_mark (n := n) (s := setFree n .free true s)
        (overridden_iff.2 (.inr (by rw [door_eq])))
      rw [egress, free, passes, door_eq]
      refine ⟨rfl, rfl, rfl, nofun, fun _ => ⟨fun _ => mark, fun secured lock => ?_, fun secured lock out => ?_,
        fun released => ?_, fun opened => ?_, fun held => ?_, fun forced => ?_, fun fault unqueued => ?_⟩⟩
      · exact overrideStart_strike (state.trans secured) (by rwa [settings])
      · exact overrideStart_releasing (state.trans secured) (by rwa [settings]) (thrown.trans out)
      · exact overrideStart_released (state.trans released)
      · exact overrideStart_opened (state.trans opened)
      · exact ⟨overrideStart_standing (.inl (state.trans held)), overrideStart_held (state.trans held)⟩
      · exact overrideStart_standing (.inr (state.trans forced))
      · rw [overrideStart_fault (state.trans fault) (by rw [queue, unqueued]), door_eq]
        exact fault
  · exact congrArg Host.Outcome.next (by unfold doorFree; rw [item_of_ge bad]; rfl)
  · intro n d ends resting
    have door_eq := setFree_door (n := n) (s := s) .auto false
    refine ⟨fun served => ⟨_, congrArg Host.Outcome.next (doorAuto_eq served), (autoDoor_frame n s).replied _ _ _,
      (autoDoor_frame n s).answered _ _ _, ?_⟩, fun starting => congrArg Host.Outcome.next (doorAuto_starting starting)⟩
    rw [reply_doors]
    have state : (setFree n .auto false s).doors[n].state = d.state := by rw [door_eq]
    have ended (finished : ends) : autoDoor n s = overrideEnd n (setFree n .auto false s) :=
      if_pos (by rw [finished.1, finished.2]; rfl)
    refine ⟨fun stays => ?_, fun finished rest => ?_, fun finished rest => ?_, fun finished opened => ?_⟩
    · have now : autoDoor n s = setFree n .auto false s := if_neg fun both => stays (by
        obtain ⟨free, egress⟩ := Bool.and_eq_true_iff.1 both
        exact ⟨free, by rwa [Bool.not_eq_true'] at egress⟩)
      rw [now, door_eq]
    · rw [ended finished]
      rcases overrideEnd_door (n := n) (s := setFree n .auto false s) (by rwa [state]) with h | h <;>
        (rw [h, door_eq]; exact ⟨rfl, rfl⟩)
    · rw [ended finished]
      have relocked := overrideEnd_relocked (n := n) (s := setFree n .auto false s) (by rwa [state])
      exact (relocked.of_same ⟨setFree_frame n .auto false s, setFree_queue _ _, setFree_motions _ _⟩
        (by rw [door_eq])).of_reply
    · have plain : overridden (setFree n .auto false s) n = false := by
        rw [← Bool.not_eq_true, overridden_iff, door_eq]
        rintro (egress | free)
        · rw [finished.2] at egress
          cases egress
        · cases free
      rw [ended finished, overrideEnd_opened (state.trans opened) plain, door_eq, (setFree_frame n .auto false s).store_eq]
  · exact congrArg Host.Outcome.next (by unfold doorAuto; rw [item_of_ge bad]; rfl)

end Sys2Proof.Proofs
end

section
/-! DOOR_COMMAND PULSE and RETRY (R81, R87), and the egress override at the doors of a zone (R25). -/

namespace Sys2Proof.Machine

variable {s t u : State} {n m : DoorNo}

/-! ## PULSE -/

/-- A door state in which a request is served (R78, R81). -/
def ClosedState (st : DoorState) : Prop := st = .secured ∨ st = .releasing ∨ st = .released ∨ st = .securing

theorem takesRequest_iff : takesRequest s n = true ↔ ClosedState s.doors[n].state := by
  unfold takesRequest ClosedState
  cases s.doors[n].state <;> decide

/-- What DOOR_COMMAND PULSE does to the door. -/
def pulseDoor (n : DoorNo) (s : State) : State := serve (releaseLock n .access (writeConfig n.val (.door .pulse) s))

theorem pulseDoor_frame (n : DoorNo) (s : State) : DoorFrame s (pulseDoor n s) :=
  ((write_frame .config n.val 0 (.door .pulse) s).trans (releaseLock_frame n .access _)).trans (serve_frame _)

theorem doorPulse_served (closed : ClosedState s.doors[n].state) (clear : interlockClear s n = true) :
    doorPulse n.val s = reply 0x40 .ok .empty (pulseDoor n s) := by
  unfold doorPulse
  rw [item_val]
  dsimp only
  rw [takesRequest_iff.2 closed, clear]
  rfl

theorem doorPulse_interlock (closed : ClosedState s.doors[n].state) (locked : interlockClear s n = false) :
    doorPulse n.val s = reply 0x40 .state .empty (write .refuse n.val 0 (.refusal .interlock) s) := by
  unfold doorPulse
  rw [item_val]
  dsimp only
  rw [takesRequest_iff.2 closed, locked]
  rfl

theorem doorPulse_state (other : ¬ ClosedState s.doors[n].state) : doorPulse n.val s = reply 0x40 .state .empty s := by
  unfold doorPulse
  rw [item_val]
  dsimp only
  rw [Bool.eq_false_iff.2 (fun takes => other (takesRequest_iff.1 takes))]
  rfl

theorem pulseDoor_passes : (pulseDoor n s).doors[n].passes = s.doors[n].passes := by
  unfold pulseDoor
  rw [serve_carried.passes, releaseLock_passes, (writeConfig_signals _ _ s).door]

theorem Signals.overridden_eq (same : Signals s t) : overridden t n = overridden s n := by
  unfold overridden
  rw [same.doors]

theorem pulseDoor_letGo (secured : s.doors[n].state = .secured) (unmarked : s.doors[n].mark = none)
    (plain : overridden s n = false) : LetGo s (pulseDoor n s) n s.doors[n].passes := by
  have written := writeConfig_signals n.val (.door .pulse) s
  rw [← written.door] at secured unmarked ⊢
  exact (releaseLock_letGo secured unmarked (written.overridden_eq.trans plain)).of_signals written

theorem pulseDoor_releasing (secured : s.doors[n].state = .secured) (lock : s.store.doors[n].lock = .motorBolt)
    (thrown : boltThrown s n = true) : (pulseDoor n s).doors[n].state = .releasing := by
  have written := writeConfig_signals n.val (.door .pulse) s
  refine releaseLock_bolt_releasing (by rwa [written.door]) (by rwa [written.store]) ?_
  exact (active_congr written.inputs _).trans thrown

/-! ## RETRY (R87) -/

/-- The position a RETRY turns to: back under an override, else out. -/
abbrev retryMotion (s : State) (n : DoorNo) : Motion := if overridden s n then .withdraw else .throw

/-- A door at which RETRY is taken: in fault, and under an override or closed. -/
def TakesRetry (s : State) (n : DoorNo) : Prop :=
  s.doors[n].state = .boltFault ∧ (overridden s n = true ∨ contactOpen s n = false)

/-- What DOOR_COMMAND RETRY hands the drive. -/
def retryJoin (n : DoorNo) (s : State) : State :=
  if overridden s n then joinWithdraw n .egress (writeConfig n.val (.door .retry) s)
  else joinThrow n (writeConfig n.val (.door .retry) s)

theorem doorRetry_taken (takes : TakesRetry s n) : doorRetry n.val s = reply 0x40 .ok .empty (serve (retryJoin n s)) := by
  unfold doorRetry
  rw [item_val]
  refine if_neg ?_
  obtain ⟨fault, may⟩ := takes
  rintro (sound | ⟨plain, opened⟩)
  · exact sound fault
  · rcases may with under | closed
    · rw [plain] at under
      cases under
    · rw [opened] at closed
      cases closed

theorem doorRetry_refused (refused : ¬ TakesRetry s n) : doorRetry n.val s = reply 0x40 .state .empty s := by
  unfold doorRetry
  rw [item_val]
  refine if_pos ?_
  by_cases fault : s.doors[n].state = .boltFault
  · right
    exact ⟨Bool.eq_false_iff.2 fun under => refused ⟨fault, .inl under⟩,
      Bool.of_not_eq_false fun closed => refused ⟨fault, .inr closed⟩⟩
  · exact .inl fault

theorem retryJoin_frame (n : DoorNo) (s : State) : DoorFrame s (retryJoin n s) := by
  unfold retryJoin
  split
  · exact (write_frame _ _ _ _ s).trans (joinWithdraw_frame n _ _)
  · exact (write_frame _ _ _ _ s).trans (joinThrow_frame n _)

theorem retryJoin_state : (retryJoin n s).doors[n].state = s.doors[n].state := by
  have written := (writeConfig_signals n.val (.door .retry) s).door (n := n)
  rcases Bool.eq_false_or_eq_true (overridden s n) with under | plain
  · rw [show retryJoin n s = _ from if_pos under, joinWithdraw_state, written]
  · rw [show retryJoin n s = _ from if_neg (by rw [plain]; nofun), joinThrow_door, written]

theorem retryJoin_coming : OnItsWay n (retryMotion s n) (retryJoin n s) := by
  rcases Bool.eq_false_or_eq_true (overridden s n) with under | plain
  · rw [show retryJoin n s = _ from if_pos under, show retryMotion s n = _ from if_pos under]
    exact joinWithdraw_coming _
  · rw [show retryJoin n s = _ from if_neg (by rw [plain]; nofun),
      show retryMotion s n = _ from if_neg (by rw [plain]; nofun)]
    exact joinThrow_coming

/-- The bolt does not stand where the RETRY turns it to. -/
theorem retry_away (away : boltThrown s n = overridden s n) : confirms s n (retryMotion s n) = false := by
  unfold retryMotion confirms
  rw [away]
  cases overridden s n <;> rfl

/-- An unconfirmed RETRY is on its way, the door still in its fault (R87). -/
theorem retry_underway (away : boltThrown s n = overridden s n) :
    Underway n (retryJoin n s).doors[n] (retryMotion s n) (serve (retryJoin n s)) := by
  refine serve_underway ?_ ⟨rfl, retryJoin_coming⟩
  rw [(retryJoin_frame n s).confirms_eq]
  exact retry_away away

/-! ## The interlock (R72) -/

theorem interlockClear_iff : interlockClear s n = true ↔ s.store.doors[n].group = 0 ∨
    ∀ m : DoorNo, m ≠ n → s.store.doors[m].group = s.store.doors[n].group →
      s.doors[m].state = .secured ∧ s.doors[m].egress = false ∧ s.doors[m].free = false := by
  unfold interlockClear
  rw [Bool.or_eq_true, decide_eq_true_eq, List.all_eq_true]
  refine or_congr_right ⟨fun all m other group => ?_, fun all m _ => ?_⟩
  · have here := all m (List.mem_finRange m)
    rw [Bool.or_eq_true, decide_eq_true_eq, Bool.and_eq_true, decide_eq_true_eq, Bool.not_eq_true'] at here
    obtain ⟨secured, plain⟩ := here.resolve_left fun either => either.elim other fun apart => apart group
    exact ⟨secured, Bool.or_eq_false_iff.1 plain⟩
  · rw [Bool.or_eq_true, decide_eq_true_eq, Bool.and_eq_true, decide_eq_true_eq, Bool.not_eq_true']
    by_cases apart : m = n ∨ s.store.doors[m].group ≠ s.store.doors[n].group
    · exact .inl apart
    · obtain ⟨secured, plain⟩ := all m (fun same => apart (.inl same)) (Classical.not_not.1 fun group => apart (.inr group))
      exact .inr ⟨secured, Bool.or_eq_false_iff.2 plain⟩

end Sys2Proof.Machine

namespace Sys2Proof.Proofs
open Sys2Proof.Machine

/-- Settles O26: PULSE is a release request without passes, RETRY a request of the drive toward the intended position. -/
theorem doorCommandsPulseAndRetry : Obligations.DoorCommandsPulseAndRetry := by
  refine ⟨fun s door => ⟨fun h => ?_, fun bad => ?_⟩, fun s door => ⟨fun h => ?_, fun bad => ?_⟩,
    fun s n => interlockClear_iff⟩
  · obtain ⟨n, rfl⟩ : ∃ n : DoorNo, door = n.val := ⟨⟨door, h⟩, rfl⟩
    refine ⟨fun served clear => ?_, fun served locked => ?_, fun other => ?_⟩
    · have frame := pulseDoor_frame n s
      have answer := doorPulse_served served clear
      refine ⟨_, congrArg Host.Outcome.next answer, frame.replied _ _ _, frame.answered _ _ _, ?_⟩
      rw [reply_doors]
      exact ⟨pulseDoor_passes, fun secured unmarked plain => (pulseDoor_letGo secured unmarked plain).of_reply,
        pulseDoor_releasing⟩
    · exact congrArg Host.Outcome.next (doorPulse_interlock served locked)
    · exact congrArg Host.Outcome.next (doorPulse_state other)
  · exact congrArg Host.Outcome.next (by unfold doorPulse; rw [item_of_ge bad]; rfl)
  · obtain ⟨n, rfl⟩ : ∃ n : DoorNo, door = n.val := ⟨⟨door, h⟩, rfl⟩
    refine ⟨fun taken => ?_, fun refused => ?_⟩
    · have frame := (retryJoin_frame n s).trans (serve_frame _)
      refine ⟨_, congrArg Host.Outcome.next (doorRetry_taken taken), frame.replied _ _ _, frame.answered _ _ _,
        fun away => ?_⟩
      have under := retry_underway away
      rw [reply_doors, reply_queue, reply_motions, under.door, retryJoin_state]
      exact ⟨taken.1, under.to_coming⟩
    · exact congrArg Host.Outcome.next (doorRetry_refused refused)
  · exact congrArg Host.Outcome.next (by unfold doorRetry; rw [item_of_ge bad]; rfl)

end Sys2Proof.Proofs
end

section
/-! The egress override at the doors of a zone (R25). -/

namespace Sys2Proof.Machine

variable {s t u : State} {n m : DoorNo} {z : Zone}

/-! ## What one door's override does to another door: it may only serve it -/

theorem turnRetry_sameDoor (other : m ≠ n) (motion : Motion) (cls : BoltClass) (s : State) :
    SameDoor m s (turnRetry n motion cls s) := by
  unfold turnRetry
  split
  · exact join_sameDoor other motion cls s
  · exact SameDoor.refl m s

theorem overrideLock_sameDoor (other : m ≠ n) (s : State) : SameDoor m s (overrideLock n s) := by
  have moved (st : DoorState) := modDoor_sameDoor other (fun d => { d with state := st }) s
  unfold overrideLock
  split
  · split
    · exact (moved _).trans (joinWithdraw_sameDoor other _ _)
    · exact moved _
  · exact join_sameDoor other _ _ s
  · exact modDoor_sameDoor other _ s
  · exact modDoor_sameDoor other _ s
  · exact (moved _).trans (setHeldCondition_sameDoor other _ _)
  · split
    · exact (moved _).trans (joinWithdraw_sameDoor other _ _)
    · exact moved _
  · exact (moved _).trans (joinWithdraw_sameDoor other _ _)
  · exact turnRetry_sameDoor other _ _ s
  · exact SameDoor.refl m s

theorem overrideUnlock_sameDoor (other : m ≠ n) (s : State) : SameDoor m s (overrideUnlock n s) := by
  have relocked : SameDoor m s (relock n (dropUnused n (setDoorState n .securing s))) :=
    ((modDoor_sameDoor other _ s).trans (dropPasses_sameDoor other _ _ _)).trans (relock_sameDoor other _)
  unfold overrideUnlock
  split
  · exact relocked
  · exact relocked
  · exact startHeld_sameDoor other s
  · exact turnRetry_sameDoor other _ _ s
  · exact SameDoor.refl m s

theorem serve_served_of_same (same : SameDoor m s u) : Served s.doors[m] (serve u).doors[m] := by
  rw [← same.door]
  exact serve_served

theorem overrideStart_other (other : m ≠ n) (s : State) : Served s.doors[m] (overrideStart n s).doors[m] := by
  rw [overrideStart_eq]
  exact serve_served_of_same ((modDoor_sameDoor other _ s).trans (overrideLock_sameDoor other _))

theorem overrideEnd_other (other : m ≠ n) (s : State) : Served s.doors[m] (overrideEnd n s).doors[m] := by
  rw [overrideEnd_eq]
  exact serve_served_of_same (overrideUnlock_sameDoor other s)

/-- A door with its ENTRY passes dropped and its egress flag set (R25). -/
def egressFlagged (n : DoorNo) (s : State) : State :=
  (dropPasses .passDropped (fun p => decide (p.dir = .entry)) n s).modDoor n fun d => { d with egress := true }

theorem egressFlagged_sameDoor (other : m ≠ n) (s : State) : SameDoor m s (egressFlagged n s) :=
  (dropPasses_sameDoor other _ _ s).trans (modDoor_sameDoor other _ _)

theorem egressDoor_under (under : overridden s n = true) : egressDoor n s = egressFlagged n s := if_pos under

theorem egressDoor_plain (plain : overridden s n = false) : egressDoor n s = overrideStart n (egressFlagged n s) :=
  if_neg (by rw [plain]; nofun)

theorem egressDoor_other (other : m ≠ n) (s : State) : Served s.doors[m] (egressDoor n s).doors[m] := by
  have flagged := egressFlagged_sameDoor other s
  rcases Bool.eq_false_or_eq_true (overridden s n) with under | plain
  · rw [egressDoor_under under]
    exact .of_eq flagged.door
  · rw [egressDoor_plain plain, ← flagged.door]
    exact overrideStart_other other _

/-- A door with its egress flag cleared (R25). -/
def egressCleared (n : DoorNo) (s : State) : State := s.modDoor n fun d => { d with egress := false }

/-- The egress override that ends is the door's only one. -/
abbrev EgressEnds (d : Door) : Prop := d.egress = true ∧ d.free = false

theorem egressEndDoor_ends (ends : EgressEnds s.doors[n]) : egressEndDoor n s = overrideEnd n (egressCleared n s) := by
  obtain ⟨egress, free⟩ := ends
  exact if_pos (by rw [egress, free]; rfl)

theorem egressEndDoor_stays (stays : ¬ EgressEnds s.doors[n]) : egressEndDoor n s = egressCleared n s :=
  if_neg fun both => stays (by
    obtain ⟨egress, free⟩ := Bool.and_eq_true_iff.1 both
    exact ⟨egress, by rwa [Bool.not_eq_true'] at free⟩)

theorem egressEndDoor_other (other : m ≠ n) (s : State) : Served s.doors[m] (egressEndDoor n s).doors[m] := by
  have cleared : SameDoor m s (egressCleared n s) := modDoor_sameDoor other _ s
  by_cases ends : EgressEnds s.doors[n]
  · rw [egressEndDoor_ends ends, ← cleared.door]
    exact overrideEnd_other other _
  · rw [egressEndDoor_stays ends]
    exact .of_eq cleared.door

/-! ## The visit of one door among the doors of its zone -/

theorem forEach_others {f : DoorNo → State → State} (others : ∀ {m n : DoorNo}, m ≠ n → ∀ s, Served s.doors[m] (f n s).doors[m])
    {l : List DoorNo} (absent : m ∉ l) (s : State) : Served s.doors[m] (forEach l f s).doors[m] :=
  forEach_rel (R := fun s t => Served s.doors[m] t.doors[m]) (fun _ => .of_eq rfl) (fun _ _ _ => .trans) f l s
    fun n mem s => others (fun same : m = n => absent (by rwa [same])) s

theorem forEach_congr {α : Type} {f g : α → State → State} : ∀ {l : List α}, (∀ a ∈ l, ∀ s, f a s = g a s) →
    ∀ {s : State}, forEach l f s = forEach l g s
  | [], _, _ => rfl
  | a :: l, same, s => by
    have head := same a List.mem_cons_self s
    have tail := forEach_congr (l := l) (fun b mem => same b (List.mem_cons_of_mem a mem)) (s := g a s)
    unfold forEach at tail ⊢
    rw [List.foldl_cons, List.foldl_cons, head, tail]

theorem zoneDoors_nodup : (zoneDoors s z).Nodup := (List.nodup_finRange 8).filter _

/-- Of the doors of a zone each is visited once; before and after its visit it is only served. -/
theorem forEach_zoneDoors {f : DoorNo → State → State}
    (others : ∀ {m n : DoorNo}, m ≠ n → ∀ s, Served s.doors[m] (f n s).doors[m])
    (keeps : ∀ (n : DoorNo) (s : State), DoorFrame s (f n s)) (inZone : inside s n = some z) :
    ∃ before : State, DoorFrame s before ∧ Served s.doors[n] before.doors[n] ∧
      Served (f n before).doors[n] (forEach (zoneDoors s z) f s).doors[n] := by
  obtain ⟨first, last, split⟩ := List.append_of_mem (mem_zoneDoors.2 inZone)
  have nodup := zoneDoors_nodup (s := s) (z := z)
  rw [split] at nodup ⊢
  obtain ⟨_, nodupRest, apart⟩ := List.nodup_append.1 nodup
  obtain ⟨notLast, _⟩ := List.nodup_cons.1 nodupRest
  have notFirst : n ∉ first := fun mem => apart n mem n List.mem_cons_self rfl
  refine ⟨forEach first f s, forEach_rel DoorFrame.refl (fun _ _ _ => DoorFrame.trans) f first s fun a _ => keeps a,
    forEach_others others notFirst s, ?_⟩
  have after := forEach_others (f := f) others notLast (f n (forEach first f s))
  unfold forEach at after ⊢
  rwa [List.foldl_append, List.foldl_cons]

/-! ## The door's own visit -/

theorem egressFlagged_door : (egressFlagged n s).doors[n] =
    { s.doors[n] with egress := true, passes := s.doors[n].passes.filter fun p => decide (p.dir = .exit) } := by
  unfold egressFlagged
  rw [modDoor_door, dropPasses_door]
  have exits : (fun p : Pass => !decide (p.dir = .entry)) = fun p => decide (p.dir = .exit) := by
    funext p
    cases p.dir <;> rfl
  rw [exits]

/-- What the egress request makes of the door's entry (R25). -/
theorem egressDoor_own : (egressDoor n s).doors[n].egress = true ∧ (egressDoor n s).doors[n].free = s.doors[n].free ∧
    (egressDoor n s).doors[n].passes = s.doors[n].passes.filter (fun p => decide (p.dir = .exit)) ∧
    (overridden s n = false →
      (egressDoor n s).doors[n].mark = some .override ∧ (egressDoor n s).doors[n].state ≠ .securing) := by
  rcases Bool.eq_false_or_eq_true (overridden s n) with under | plain
  · rw [egressDoor_under under, egressFlagged_door]
    refine ⟨rfl, rfl, rfl, fun plain => ?_⟩
    rw [under] at plain
    cases plain
  · obtain ⟨egress, free, passes⟩ := overrideStart_carried (n := n) (s := egressFlagged n s)
    rw [egressDoor_plain plain, egress, free, passes, egressFlagged_door]
    exact ⟨rfl, rfl, rfl, fun _ => overrideStart_mark (overridden_iff.2 (.inl (by rw [egressFlagged_door])))⟩

theorem egressCleared_door : (egressCleared n s).doors[n] = { s.doors[n] with egress := false } := modDoor_door _

abbrev Resting (st : DoorState) : Prop := st = .released ∨ st = .releasing

theorem Served.resting {d e : Door} (h : Served d e) (resting : Resting d.state) : Resting e.state := by
  rcases resting with released | releasing
  · rw [h.rest (rest_released released)]
    exact .inl released
  · exact (h.releasing releasing).symm

/-- The end of a door's only override relocks it where it rests (R25, R80). -/
theorem egressEndDoor_resting (ends : EgressEnds s.doors[n]) (resting : Resting s.doors[n].state) :
    (egressEndDoor n s).doors[n].passes = [] ∧
    (s.store.doors[n].lock = .strike →
      (egressEndDoor n s).doors[n].state = .secured ∧ (egressEndDoor n s).doors[n].mark = none) ∧
    ((egressEndDoor n s).doors[n].state = .secured ∨ (egressEndDoor n s).doors[n].state = .securing) := by
  have cleared := egressCleared_door (n := n) (s := s)
  have state : Resting (egressCleared n s).doors[n].state := by rwa [cleared]
  rw [egressEndDoor_ends ends]
  obtain ⟨strike, _⟩ := overrideEnd_relocked state
  refine ⟨?_, strike, ?_⟩ <;> rcases overrideEnd_door state with h | h <;> rw [h]
  · rfl
  · exact .inr rfl
  · exact .inl rfl

theorem egressEndDoor_opened (ends : EgressEnds s.doors[n]) (opened : s.doors[n].state = .opened) :
    (egressEndDoor n s).doors[n] =
      { s.doors[n] with egress := false, heldTimer := some s.store.doors[n].heldTime } := by
  have cleared := egressCleared_door (n := n) (s := s)
  have plain : overridden (egressCleared n s) n = false := by
    rw [← Bool.not_eq_true, overridden_iff, cleared]
    rintro (egress | free)
    · cases egress
    · rw [ends.2] at free
      cases free
  rw [egressEndDoor_ends ends, overrideEnd_opened (by rw [cleared, opened]) plain, cleared]
  rfl

theorem egressEndDoor_flags : (egressEndDoor n s).doors[n].egress = false ∧
    (egressEndDoor n s).doors[n].free = s.doors[n].free := by
  have cleared := egressCleared_door (n := n) (s := s)
  by_cases ends : EgressEnds s.doors[n]
  · rw [egressEndDoor_ends ends]
    obtain ⟨egress, free⟩ := overrideEnd_carried (n := n) (s := egressCleared n s)
    rw [egress, free, cleared]
    exact ⟨rfl, rfl⟩
  · rw [egressEndDoor_stays ends, cleared]
    exact ⟨rfl, rfl⟩

/-- At a door under another override the egress request drops the ENTRY passes and sets the flag (R25). -/
theorem egressDoor_overridden (under : overridden s n = true) : egressDoor n s =
    (forEach (s.doors[n].passes.filter fun p => decide (p.dir = .entry))
      (fun p => write .passDropped n.val p.cred (.direction .entry))
      (s.modDoor n fun v => { v with passes := v.passes.filter fun p => decide (p.dir = .exit) })).modDoor n
        fun v => { v with egress := true } := by
  rw [egressDoor_under under]
  unfold egressFlagged dropPasses
  have exits : (fun v : Door => { v with passes := v.passes.filter fun p => !decide (p.dir = Direction.entry) }) =
      fun v => { v with passes := v.passes.filter fun p => decide (p.dir = Direction.exit) } := by
    funext v
    refine congrArg (fun q => ({ v with passes := v.passes.filter q } : Door)) (funext fun p => ?_)
    cases p.dir <;> rfl
  rw [exits]
  refine congrArg (State.modDoor · n _) (forEach_congr fun p mem u => ?_)
  obtain ⟨_, entry⟩ := List.mem_filter.1 mem
  unfold writePass
  rw [of_decide_eq_true entry]

end Sys2Proof.Machine

namespace Sys2Proof.Proofs
open Sys2Proof.Machine

/-- Settles O31: each door of the zone is visited once, and the visits of the others can only serve it. -/
theorem egressReachesTheZonesDoors : Obligations.EgressReachesTheZonesDoors := by
  intro s z n d
  refine ⟨fun inZone => ⟨?_, ?_⟩, fun apart => ?_, fun under => ?_⟩
  · obtain ⟨before, frame, served, after⟩ := forEach_zoneDoors egressDoor_other egressDoor_frame inZone
    obtain ⟨egress, free, passes, marked⟩ := egressDoor_own (n := n) (s := before)
    refine ⟨after.egress.trans egress, (after.free.trans free).trans served.free, ?_, fun plain => ?_⟩
    · exact after.passes.trans (passes.trans (by rw [served.passes]))
    · have plain' : overridden before n = false := by
        unfold overridden
        rw [served.egress, served.free]
        exact plain
      obtain ⟨mark, notSecuring⟩ := marked plain'
      exact (after.mark (.inl egress) (by rw [mark]; rfl) notSecuring).1.trans mark
  · obtain ⟨before, frame, served, after⟩ := forEach_zoneDoors egressEndDoor_other egressEndDoor_frame inZone
    obtain ⟨egress, free⟩ := egressEndDoor_flags (n := n) (s := before)
    have same : EgressEnds d → EgressEnds before.doors[n] := fun ends => ⟨served.egress.trans ends.1, served.free.trans ends.2⟩
    intro t ends
    have after : Served (egressEndDoor n before).doors[n] t.doors[n] := after
    refine ⟨after.egress.trans egress, (after.free.trans free).trans served.free, fun stays => ?_, fun now resting => ?_,
      fun now opened => ?_⟩
    · have stays' : ¬ EgressEnds before.doors[n] := fun h => stays ⟨served.egress ▸ h.1, served.free ▸ h.2⟩
      rw [after.passes, egressEndDoor_stays stays', egressCleared_door]
      exact served.passes
    · obtain ⟨passes, strike, relocked⟩ := egressEndDoor_resting (same now) (served.resting resting)
      refine ⟨after.passes.trans passes, fun lock => ?_, fun _ => ?_⟩
      · obtain ⟨secured, mark⟩ := strike (by rw [frame.store_eq, lock])
        rw [after.rest (rest_secured secured)]
        exact ⟨secured, mark⟩
      · rcases relocked with secured | securing
        · rw [after.rest (rest_secured secured)]
          exact .inl secured
        · rcases after.securing securing with h | h <;> rw [h]
          · exact .inr securing
          · exact .inl rfl
    · have door := served.rest (rest_opened opened)
      have own := egressEndDoor_opened (same now) (by rw [door]; exact opened)
      rw [after.rest (rest_opened (by rw [own, door]; exact opened)), own, door, frame.store_eq]
      exact ⟨opened, rfl⟩
  · have absent : n ∉ zoneDoors s z := fun mem => apart (mem_zoneDoors.1 mem)
    have requested := forEach_others (f := egressDoor) egressDoor_other absent s
    have ended := forEach_others (f := egressEndDoor) egressEndDoor_other absent s
    exact ⟨requested.egress, requested.passes, ended.egress, ended.passes⟩
  · exact egressDoor_overridden under

end Sys2Proof.Proofs
end

section
/-! Presentations (sections 6.2, 6.3): the checks on the record, the PIN, the people timers. -/

namespace Sys2Proof.Machine

variable {s t u : State} {r : ReaderNo} {c : Credential} {cred : Nat} {digits : List Nat} {n : DoorNo} {z : Zone}

/-! ## The verdict on a record (R97) -/

abbrev Undatable (s : State) (c : Credential) : Prop := s.clock.set = false ∧ (c.validFrom ≠ 0 ∨ c.validUntil ≠ 0)
abbrev TooEarly (s : State) (c : Credential) : Prop := c.validFrom ≠ 0 ∧ s.clock.day < c.validFrom
abbrev TooLate (s : State) (c : Credential) : Prop := c.validUntil ≠ 0 ∧ c.validUntil < s.clock.day

theorem if_of_iff {α : Type} {a b : Prop} [Decidable a] [Decidable b] {x y v w : α} (same : a ↔ b) (yes : x = v)
    (no : y = w) : (if a then x else y) = if b then v else w :=
  ite_congr (propext same) (fun _ => yes) fun _ => no

theorem verdict_eq : verdict s c = if Undatable s c then .clock else if TooEarly s c then .notYetValid
    else if TooLate s c then .expired else .valid := by
  unfold verdict
  rw [if_of_iff And.comm rfl rfl]

/-- Of three conditions in order the first that holds decides. -/
theorem firstOfThree {a b d : Prop} [Decidable a] [Decidable b] [Decidable d] {v : Verdict}
    (h : v = if a then .clock else if b then .notYetValid else if d then .expired else .valid) :
    (v = .clock ↔ a) ∧ (v = .notYetValid ↔ ¬ a ∧ b) ∧ (v = .expired ↔ ¬ a ∧ ¬ b ∧ d) ∧ (v = .valid ↔ ¬ a ∧ ¬ b ∧ ¬ d) := by
  subst h
  by_cases one : a
  · simp only [one, if_true, reduceCtorEq, not_true, false_and, and_self]
  · by_cases two : b
    · simp only [one, two, if_true, if_false, reduceCtorEq, not_true, not_false_eq_true, false_and, and_false, and_self]
    · by_cases three : d <;> simp only [one, two, three, if_true, if_false, reduceCtorEq, not_true, not_false_eq_true,
        and_false, and_self]

/-! ## What a presentation comes to -/

theorem finish_refuse (follows : GateFollows s) (code : RefusalCode) :
    finish (refuseEntry r code cred s) = .next (write .refuse r.val cred (.refusal code) s) :=
  finish_of_follows (follows.of_signals (write_signals _ _ _ _ s))

theorem present_locked (locked : s.readers[r].lockout.isSome = true) :
    present r cred digits s = refuseEntry r .readerLocked cred s := if_pos locked

theorem present_unknown (opened : s.readers[r].lockout = none) (unknown : lookup s cred = none) :
    present r cred digits s = refuseEntry r .unknown cred s := by
  unfold present
  rw [opened, unknown]
  rfl

theorem present_refused {code : RefusalCode} (opened : s.readers[r].lockout = none) (known : lookup s cred = some c)
    (refused : recordRefusal s r c = some code) : present r cred digits s = refuseEntry r code cred s := by
  unfold present
  rw [opened, known]
  dsimp only
  rw [refused]
  rfl

theorem present_pinStage (opened : s.readers[r].lockout = none) (known : lookup s cred = some c)
    (passed : recordRefusal s r c = none) : present r cred digits s = pinStage r c digits s := by
  unfold present
  rw [opened, known]
  dsimp only
  rw [passed]
  rfl

/-! ## Checks 3 to 9 (R112) -/

theorem recordRefusal_suspended (suspended : c.suspended = true) : recordRefusal s r c = some .suspended := if_pos suspended

theorem recordRefusal_verdict {v : Verdict} (active : c.suspended = false) (judged : verdict s c = v) :
    recordRefusal s r c = match (generalizing := false) v with
      | .clock => some .clock
      | .notYetValid => some .notYetValid
      | .expired => some .expired
      | .valid => match s.store.readers[r].direction with
        | .entry => accessRefusal s r c
        | .exit => none := by
  subst judged
  unfold recordRefusal
  rw [active]
  rfl

theorem recordRefusal_entry (active : c.suspended = false) (valid : verdict s c = .valid)
    (entry : s.store.readers[r].direction = .entry) : recordRefusal s r c = accessRefusal s r c := by
  rw [recordRefusal_verdict active valid, entry]

theorem accessRefusal_noDoor (barred : c.doors.getLsbD s.store.readers[r].door.val = false) :
    accessRefusal s r c = some .noDoor := if_pos barred

theorem accessRefusal_schedule (admitted : c.doors.getLsbD s.store.readers[r].door.val = true)
    (inactive : scheduleActive s c.schedule = false) : accessRefusal s r c = some .schedule := by
  unfold accessRefusal
  rw [admitted, inactive]
  rfl

theorem targetZone_entry (entry : s.store.readers[r].direction = .entry) :
    targetZone s r = s.store.doors[s.store.readers[r].door].inside := by
  unfold targetZone
  rw [entry]

theorem accessRefusal_zone (admitted : c.doors.getLsbD s.store.readers[r].door.val = true)
    (active : scheduleActive s c.schedule = true) (entry : s.store.readers[r].direction = .entry)
    (inside : s.store.doors[s.store.readers[r].door].inside = some z) : accessRefusal s r c = zoneRefusal s z := by
  unfold accessRefusal
  rw [admitted, active, targetZone_entry entry, inside]
  rfl

/-- Toward a zone from the start of its release to the end of the discharge nobody passes checks 3 to 9 (R112). -/
theorem recordRefusal_inSpan (entry : s.store.readers[r].direction = .entry)
    (inside : s.store.doors[s.store.readers[r].door].inside = some z)
    (span : ReleaseState.inSpan s.release[z].state = true) : recordRefusal s r c ≠ none := by
  cases active : c.suspended with
  | true =>
    rw [recordRefusal_suspended active]
    nofun
  | false =>
    cases judged : verdict s c with
    | clock => rw [recordRefusal_verdict active judged]; nofun
    | notYetValid => rw [recordRefusal_verdict active judged]; nofun
    | expired => rw [recordRefusal_verdict active judged]; nofun
    | valid =>
      rw [recordRefusal_entry active judged entry]
      cases admitted : c.doors.getLsbD s.store.readers[r].door.val with
      | false => rw [accessRefusal_noDoor admitted]; nofun
      | true =>
        cases scheduled : scheduleActive s c.schedule with
        | false => rw [accessRefusal_schedule admitted scheduled]; nofun
        | true =>
          rw [accessRefusal_zone admitted scheduled entry inside, zoneRefusal, span]
          split <;> nofun

/-- There a presentation writes its refusal and nothing else. -/
theorem present_inSpan (entry : s.store.readers[r].direction = .entry)
    (inside : s.store.doors[s.store.readers[r].door].inside = some z)
    (span : ReleaseState.inSpan s.release[z].state = true) :
    ∃ code, present r cred digits s = refuseEntry r code cred s := by
  cases locked : s.readers[r].lockout with
  | some left => exact ⟨_, present_locked (by rw [locked]; rfl)⟩
  | none =>
    cases known : lookup s cred with
    | none => exact ⟨_, present_unknown locked known⟩
    | some c =>
      obtain ⟨code, refused⟩ := Option.ne_none_iff_exists'.1 (recordRefusal_inSpan (c := c) entry inside span)
      exact ⟨code, present_refused locked known refused⟩

/-! ## The PIN (R113 to R115) -/

theorem pinStage_refused {code : RefusalCode} (found : pinCheck s r c.pin digits = .refused code) (other : code ≠ .badPin) :
    pinStage r c digits s = refuseEntry r code c.number s := by
  unfold pinStage
  rw [found]
  split
  · next bad => cases bad
  · next bad => cases bad
  · next bad =>
    cases bad
    exact absurd rfl other
  · next code' _ same =>
    cases same
    rfl

theorem modReader_congr {f g : Reader → Reader} (same : f s.readers[r] = g s.readers[r]) :
    s.modReader r f = s.modReader r g := by
  unfold State.modReader upd
  rw [same]

theorem modReader_modReader (f g : Reader → Reader) : (s.modReader r f).modReader r g = s.modReader r fun v => g (f v) := by
  unfold State.modReader
  rw [upd_upd]

theorem modReader_reader (f : Reader → Reader) : (s.modReader r f).readers[r] = f s.readers[r] := upd_same _ _ _

theorem write_readers (k : RecordKind) (a b : Nat) (d : Detail) (s : State) : (write k a b d s).readers = s.readers :=
  (write_signals k a b d s).readers

/-- Below the limit a bad PIN is counted (R115). -/
theorem badPin_counts (few : s.readers[r].bad < 2) : badPin r cred s =
    (write .refuse r.val cred (.refusal .badPin) s).modReader r fun v => { v with bad := v.bad + 1 } := by
  unfold badPin
  have same : (refuseEntry r .badPin cred s).readers[r] = s.readers[r] := by
    unfold refuseEntry
    rw [write_readers]
  dsimp only
  rw [if_neg]
  · refine modReader_congr ?_
    rw [same, Nat.min_eq_right (by omega)]
  · rw [modReader_reader, same]
    dsimp only
    omega

/-- The third bad PIN locks the reader (R115). -/
theorem badPin_locks (many : 2 ≤ s.readers[r].bad) : badPin r cred s = write .refuse r.val 0 (.refusal .lockout)
    ((write .refuse r.val cred (.refusal .badPin) s).modReader r fun _ => ⟨3, some 60⟩) := by
  unfold badPin
  have same : (refuseEntry r .badPin cred s).readers[r] = s.readers[r] := by
    unfold refuseEntry
    rw [write_readers]
  have three : min 3 (s.readers[r].bad + 1) = 3 := by omega
  dsimp only
  rw [if_pos]
  · rw [modReader_modReader]
    refine congrArg (refuseEntry r .lockout 0) (modReader_congr ?_)
    rw [same, three]
  · rw [modReader_reader, same]
    exact three

end Sys2Proof.Machine

namespace Sys2Proof.Proofs
open Sys2Proof.Machine

/-- Settles O36, check by check; toward a zone in its span every presentation comes to a refusal. -/
theorem presentationChecksOneToNine : Obligations.PresentationChecksOneToNine := by
  refine ⟨fun s c => ?_, fun s r cred digits follows => ?_, fun s r cred digits z follows entry inside span => ?_⟩
  · exact firstOfThree verdict_eq
  · intro refused
    have refuses {code : RefusalCode} (now : present r cred digits s = refuseEntry r code cred s) : refused code :=
      (congrArg finish now).trans (finish_refuse follows code)
    refine ⟨fun locked => refuses (present_locked locked), fun opened => ⟨fun unknown => refuses (present_unknown opened unknown),
      fun c _ known => ?_⟩⟩
    have record {code : RefusalCode} (found : recordRefusal s r c = some code) : refused code :=
      refuses (present_refused opened known found)
    refine ⟨fun suspended => record (recordRefusal_suspended suspended), fun active =>
      ⟨fun judged => record (recordRefusal_verdict active judged), fun judged => record (recordRefusal_verdict active judged),
        fun judged => record (recordRefusal_verdict active judged), fun valid entry => ?_⟩⟩
    have access {code : RefusalCode} (found : accessRefusal s r c = some code) : refused code :=
      record ((recordRefusal_entry active valid entry).trans found)
    refine ⟨fun barred => access (accessRefusal_noDoor barred),
      fun admitted inactive => access (accessRefusal_schedule admitted inactive), fun admitted scheduled z inside => ?_⟩
    have zone := accessRefusal_zone (c := c) admitted scheduled entry inside
    refine ⟨fun lockdown => access (zone.trans (if_pos lockdown)), fun unlocked span => access (zone.trans ?_)⟩
    unfold zoneRefusal
    rw [if_neg unlocked, if_pos span]
  · obtain ⟨code, now⟩ := present_inSpan (cred := cred) (digits := digits) entry inside span
    have signals := write_signals .refuse r.val cred (.refusal code) s
    exact ⟨_, (congrArg finish now).trans (finish_refuse follows code), signals.doors, signals.queue, signals.motions,
      signals.custody, Frame.write _ _ _ _ s⟩

end Sys2Proof.Proofs
end

section
/-! Grants and custody (R118 to R121): what a presentation can set going, and the people timers. -/

namespace Sys2Proof.Machine

variable {s t u : State} {r : ReaderNo} {c : Credential} {cred : Nat} {digits : List Nat} {n : DoorNo} {z : Zone}

/-! ## The frame of a presentation -/

/-- What a grant can set going: the reader's count, a custody window, the door, the occupancy lists. -/
abbrev GrantParts : List Part := [.readers, .custody, .occupancy, .lone, .gate] ++ zoneParts

abbrev GrantFrame (s t : State) : Prop := Frame GrantParts inputSources s t

theorem doorSource_input : ∀ src ∈ doorSources, src ∈ inputSources := by decide

theorem DoorFrame.granted (h : DoorFrame s t) : GrantFrame s t := Frame.mono h (by decide) doorSource_input

theorem refuseEntry_granted (r : ReaderNo) (code : RefusalCode) (cred : Nat) (s : State) :
    GrantFrame s (refuseEntry r code cred s) := Frame.write _ _ _ _ s

theorem refusals_granted (r : ReaderNo) (code : RefusalCode) (creds : List Nat) (s : State) :
    GrantFrame s (forEach creds (refuseEntry r code) s) :=
  forEach_rel Frame.refl (fun _ _ _ => Frame.trans) _ _ _ fun c _ u => refuseEntry_granted r code c u

theorem modReader_frame {parts : List Part} {srcs : List Source} (allowed : Part.readers ∈ parts) (r : ReaderNo)
    (f : Reader → Reader) (s : State) : Frame parts srcs s (s.modReader r f) :=
  { Frame.refl s with readers := fun no => absurd allowed no }

theorem setCustody_frame {parts : List Part} {srcs : List Source} (allowed : Part.custody ∈ parts) (n : DoorNo)
    (w : Option CustodyWindow) (s : State) : Frame parts srcs s (s.setCustody n w) :=
  { Frame.refl s with custody := fun no => absurd allowed no }

theorem closeCustody_granted (n : DoorNo) (s : State) : GrantFrame s (closeCustody n s) := by
  unfold closeCustody
  split
  · exact (setCustody_frame (by decide) n none s).trans (Frame.write _ _ _ _ _)
  · exact Frame.refl s

theorem applyPasses_granted (n : DoorNo) (passes : List Pass) (s : State) :
    GrantFrame s (forEach passes (applyPass n) s) :=
  forEach_rel Frame.refl (fun _ _ _ => Frame.trans) _ _ _ fun p _ u =>
    (applyPass_frame n p u).mono (by decide) fun _ hs => hs

theorem serveGrant_granted (r : ReaderNo) (n : DoorNo) (d : Detail) (passes : List Pass) (s : State) :
    GrantFrame s (serveGrant r n d passes s) := by
  have counted (u : State) : GrantFrame u ((forEach passes (fun p => write .grant r.val p.cred d) u).modReader r fun v =>
      { v with bad := 0 }) :=
    (forEach_rel (R := GrantFrame) Frame.refl (fun _ _ _ => Frame.trans) _ passes u
      fun p _ u => Frame.write .grant r.val p.cred d u).trans (modReader_frame (by decide) r _ _)
  unfold serveGrant
  dsimp only
  split
  · exact (counted s).trans (applyPasses_granted n passes _)
  · exact (release_frame n .access passes s).granted.trans (counted _)

theorem grant_granted (r : ReaderNo) (d : Detail) (creds : List Nat) (s : State) : GrantFrame s (grant r d creds s) := by
  unfold grant
  dsimp only
  split
  · exact refusals_granted _ _ _ s
  · split
    · exact refusals_granted _ _ _ s
    · exact serveGrant_granted _ _ _ _ s

theorem secondPresenter_granted (r : ReaderNo) (n : DoorNo) (w : CustodyWindow) (c : Credential) (s : State) :
    GrantFrame s (secondPresenter r n w c s) := by
  unfold secondPresenter
  split
  · exact refuseEntry_granted _ _ _ s
  · split
    · exact (refuseEntry_granted _ _ _ s).trans (closeCustody_granted n _)
    · exact (setCustody_frame (by decide) n none s).trans (grant_granted _ _ _ _)

theorem custodyOrGrant_granted (r : ReaderNo) (c : Credential) (s : State) : GrantFrame s (custodyOrGrant r c s) := by
  unfold custodyOrGrant
  dsimp only
  split
  · exact grant_granted _ _ _ s
  · split
    · split
      · exact (setCustody_frame (by decide) _ _ s).trans (Frame.write _ _ _ _ _)
      · exact secondPresenter_granted _ _ _ _ s
    · exact grant_granted _ _ _ s

theorem afterPin_granted (r : ReaderNo) (c : Credential) (s : State) : GrantFrame s (afterPin r c s) := by
  have room (u : State) : GrantFrame u (roomChecks r c u) := by
    unfold roomChecks
    split
    · exact refuseEntry_granted _ _ _ u
    · exact custodyOrGrant_granted r c u
  unfold afterPin
  split
  · exact refuseEntry_granted _ _ _ s
  · refine Frame.trans ?_ (room _)
    split
    · exact refuseEntry_granted _ _ _ s
    · exact Frame.refl s

/-! ## A PIN given under duress (R114) -/

/-- The duress record and source. -/
def duressNoted (r : ReaderNo) (cred : Nat) (s : State) : State :=
  write .duress r.val cred .blank (edgeEvent (Source.duress r) s)

theorem duress_ne_backlog (r : ReaderNo) : Source.duress r ≠ Source.backlog := by revert r; decide
theorem duress_not_input (r : ReaderNo) : Source.duress r ∉ inputSources := by revert r; decide

theorem duressNoted_pending : (duressNoted r cred s).alarm.pending[Source.duress r] = true :=
  ((write_affects [] .duress r.val cred .blank _).pendingSame _ List.not_mem_nil (duress_ne_backlog r)).trans
    (setPending_pending true (.inl (duress_ne_backlog r)))

theorem duressNoted_frame : Frame GrantParts (Source.duress r :: inputSources) s (duressNoted r cred s) :=
  (Frame.edgeEvent List.mem_cons_self s).trans (Frame.write _ _ _ _ _)

theorem pinStage_duress (found : pinCheck s r c.pin digits = .duress) :
    pinStage r c digits s = afterPin r c (duressNoted r c.number s) := by
  unfold pinStage
  rw [found]
  rfl

theorem pinStage_badPin (found : pinCheck s r c.pin digits = .refused .badPin) :
    pinStage r c digits s = badPin r c.number s := by
  unfold pinStage
  rw [found]

theorem pinStage_ok (found : pinCheck s r c.pin digits = .ok) : pinStage r c digits s = afterPin r c s := by
  unfold pinStage
  rw [found]

section
variable (required : pinRequired s r = true)
include required

theorem pinCheck_none (none_given : digits = []) : pinCheck s r c.pin digits = .refused .pinRequired := by
  unfold pinCheck
  rw [required, if_neg (by nofun), if_pos none_given]

theorem pinCheck_noPin (given : digits ≠ []) (no_pin : c.pin = []) : pinCheck s r c.pin digits = .refused .noPin := by
  unfold pinCheck
  rw [required, if_neg (by nofun), if_neg given, if_pos no_pin]

theorem pinCheck_wrong (given : digits ≠ []) (pin : c.pin ≠ []) (wrong : digits ≠ c.pin)
    (form : digits ≠ duressForm c.pin) : pinCheck s r c.pin digits = .refused .badPin := by
  unfold pinCheck
  rw [required, if_neg (by nofun), if_neg given, if_neg pin, if_neg wrong, if_neg form]

theorem pinCheck_duress (given : digits ≠ []) (pin : c.pin ≠ []) (wrong : digits ≠ c.pin)
    (form : digits = duressForm c.pin) : pinCheck s r c.pin digits = .duress := by
  unfold pinCheck
  rw [required, if_neg (by nofun), if_neg given, if_neg pin, if_neg wrong, if_pos form]

end

/-! ## The people timers -/

/-- A lone timer that runs out alarms and starts again (R135). -/
theorem expireLone_alarms (running : s.loneOutrun[z] = false) (timer : s.loneTimer[z].isSome = true) : expireLone z s =
    (write .lone (z.val + 1) (s.occupancy[z].list.headD 0) .blank (edgeEvent (Source.lone z) s)).setLone z
      (some (60 * s.store.zones[z].loneTime)) := by
  have same := (edgeEvent_signals (Source.lone z) s).trans
    (write_signals .lone (z.val + 1) (s.occupancy[z].list.headD 0) .blank _)
  unfold expireLone
  rw [if_neg (by rw [running]; nofun), if_pos timer, ← same.store]
  rfl

end Sys2Proof.Machine

namespace Sys2Proof.Proofs
open Sys2Proof.Machine

/-- Settles O38, by the outcome of check 10. -/
theorem pinFailuresCountAndDuressSignals : Obligations.PinFailuresCountAndDuressSignals := by
  intro s r c digits follows opened known passed required refused present
  have stage : present = finish (pinStage r c digits s) := congrArg finish (present_pinStage opened known passed)
  have refuses {code : RefusalCode} (found : pinCheck s r c.pin digits = .refused code) (other : code ≠ .badPin) :
      present = .next (refused (.refusal code) s) :=
    stage.trans ((congrArg finish (pinStage_refused found other)).trans (finish_refuse follows code))
  refine ⟨fun none_given => refuses (pinCheck_none required none_given) nofun,
    fun given no_pin => refuses (pinCheck_noPin required given no_pin) nofun, fun given pin wrong form => ?_,
    fun given pin wrong form => ?_⟩
  · have bad : present = finish (badPin r c.number s) :=
      stage.trans (congrArg finish (pinStage_badPin (pinCheck_wrong required given pin wrong form)))
    have written : GateFollows (refused (.refusal .badPin) s) := follows.of_signals (write_signals _ _ _ _ s)
    refine ⟨fun few => ?_, fun many => ?_⟩
    · rw [bad, badPin_counts few]
      exact finish_of_follows (written.of_frame (modReader_frame (parts := [.readers]) (srcs := []) (by decide) r _ _)
        (by decide) (by decide))
    · rw [bad, badPin_locks many]
      exact finish_of_follows ((written.of_frame (modReader_frame (parts := [.readers]) (srcs := []) (by decide) r _ _)
        (by decide) (by decide)).of_signals (write_signals _ _ _ _ _))
  · have now : present = finish (afterPin r c (duressNoted r c.number s)) :=
      stage.trans (congrArg finish (pinStage_duress (pinCheck_duress required given pin wrong form)))
    have after : GrantFrame (duressNoted r c.number s) (settleGate (afterPin r c (duressNoted r c.number s))) :=
      (afterPin_granted r c _).settleGate (by decide) doorSource_input
    refine ⟨_, now, duressNoted_frame.trans (after.mono (fun _ h => h) fun _ => List.mem_cons_of_mem _), ?_⟩
    exact (after.pendingSame _ (duress_not_input r) (duress_ne_backlog r)).trans duressNoted_pending

/-- Settles O40, timer by timer. -/
theorem peopleTimersExpire : Obligations.PeopleTimersExpire := by
  refine ⟨fun s r n => ⟨fun locked => ?_, fun opened => ?_, fun w held => ?_, fun none_held => ?_⟩,
    fun s z => ⟨fun outrun => ?_, fun running timer => ?_, fun running stopped => ?_⟩⟩
  · exact congrArg Host.Outcome.next (if_pos locked)
  · exact congrArg Host.Outcome.next (if_neg (by rw [opened]; nofun))
  · refine congrArg Host.Outcome.next ?_
    unfold closeCustody
    rw [held]
  · refine congrArg Host.Outcome.next ?_
    unfold closeCustody
    rw [none_held]
  · exact congrArg Host.Outcome.next (expireLone_outrun outrun)
  · exact congrArg Host.Outcome.next (expireLone_alarms running timer)
  · refine congrArg Host.Outcome.next ?_
    unfold expireLone
    rw [if_neg (by rw [running]; nofun), if_neg (by rw [stopped]; nofun)]

end Sys2Proof.Proofs
end

section
/-! A grant at a secured door lets it go (R70, R71, R118), alone and in custody (R119, R120). -/

namespace Sys2Proof.Machine

variable {s t u : State} {r : ReaderNo} {c : Credential} {cred : Nat} {digits : List Nat} {n m : DoorNo} {z : Zone}

/-! ## Passes taken where the credential holds none (R71) -/

/-- No door holds a pass of the credential. -/
def HoldsNone (cred : Nat) (s : State) : Prop := ∀ m : DoorNo, ∀ p ∈ s.doors[m].passes, p.cred ≠ cred

theorem dropPasses_none {k : RecordKind} {which : Pass → Bool} (none_picked : ∀ p ∈ s.doors[m].passes, which p = false) :
    dropPasses k which m s = s := by
  have picked : s.doors[m].passes.filter which = [] :=
    List.filter_eq_nil_iff.2 fun p mem => by rw [none_picked p mem]; nofun
  have kept : s.doors[m].passes.filter (fun p => !which p) = s.doors[m].passes :=
    List.filter_eq_self.2 fun p mem => by rw [none_picked p mem]; rfl
  have same : s.modDoor m (fun d => { d with passes := d.passes.filter fun p => !which p }) = s := by
    unfold State.modDoor
    rw [upd_eq_self (by rw [kept])]
  unfold dropPasses
  rw [picked, same]
  rfl

/-- A pass of a credential that holds none is added at the end. -/
theorem addPass_new {p : Pass} (new : HoldsNone p.cred s) :
    addPass n p s = s.modDoor n fun d => { d with passes := d.passes ++ [p] } := by
  have dropped : forEach allDoors (dropPasses .passDropped fun q => decide (q.cred = p.cred)) s = s :=
    forEach_keeps (P := fun u => u = s) _ _ s (fun m _ u same => by
      subst same
      exact dropPasses_none fun q mem => decide_eq_false (new m q mem)) rfl
  unfold addPass
  rw [dropped]

theorem releaseLock_sameDoor (other : m ≠ n) (cls : BoltClass) (s : State) : SameDoor m s (releaseLock n cls s) := by
  unfold releaseLock
  split
  · split
    · exact (modDoor_sameDoor other _ s).trans (joinWithdraw_sameDoor other _ _)
    · exact (modDoor_sameDoor other _ s).trans (enterReleased_sameDoor other _)
  · exact join_sameDoor other _ _ s
  · exact startWindow_sameDoor other s
  · exact (modDoor_sameDoor other _ s).trans (joinWithdraw_sameDoor other _ _)
  · exact SameDoor.refl m s

theorem HoldsNone.releaseLock (h : HoldsNone cred s) (cls : BoltClass) : HoldsNone cred (releaseLock n cls s) := by
  intro m p mem
  by_cases here : m = n
  · subst here
    rw [releaseLock_passes] at mem
    exact h m p mem
  · rw [(releaseLock_sameDoor here cls s).door] at mem
    exact h m p mem

theorem HoldsNone.addPass (h : HoldsNone cred s) {p : Pass} (other : p.cred ≠ cred) :
    HoldsNone cred (s.modDoor n fun d => { d with passes := d.passes ++ [p] }) := by
  intro m q mem
  rw [State.modDoor_doors, upd_get] at mem
  split at mem
  · next here =>
    subst here
    rcases List.mem_append.1 mem with old | new
    · exact h n q old
    · rw [List.mem_singleton.1 new]
      exact other
  · exact h m q mem

/-! ## The grant at a secured door -/

/-- A secured door under no override, with no pass and its interlock clear: where a grant is served at once. -/
structure Grantable (s : State) (n : DoorNo) : Prop where
  secured : s.doors[n].state = .secured
  unmarked : s.doors[n].mark = none
  plain : overridden s n = false
  clear : interlockClear s n = true
  empty : s.doors[n].passes = []

theorem Grantable.request (h : Grantable s n) {passes : List Pass} (few : passes.length ≤ 4) :
    requestRefusal s n passes = none := by
  have noEgress : s.doors[n].egress = false := (Bool.or_eq_false_iff.1 h.plain).1
  unfold requestRefusal
  dsimp only
  rw [h.secured, noEgress, h.clear, h.empty, if_neg (by rintro (bad | bad) <;> cases bad), if_neg (by rintro ⟨_, bad⟩; cases bad),
    if_neg (by nofun), if_neg (by rintro ⟨_, bad⟩; rw [List.length_nil] at bad; omega)]

/-- What the passes leave of the request at the door is a release. -/
theorem Grantable.release_one (h : Grantable s n) {p : Pass} (new : HoldsNone p.cred s) :
    LetGo s (release n .access [p] s) n [p] := by
  have door := addPass_new (n := n) (new.releaseLock .access (n := n))
  unfold release
  change LetGo s (serve (addPass n p (releaseLock n .access s))) n [p]
  rw [door]
  refine serve_letGo (cls := .access) h.secured h.unmarked h.plain ?_ rfl rfl (modDoor_frame n _ _)
  rw [modDoor_door, releaseLock_passes, h.empty]
  rfl

theorem Grantable.release_two (h : Grantable s n) {p q : Pass} (newP : HoldsNone p.cred s) (newQ : HoldsNone q.cred s)
    (apart : p.cred ≠ q.cred) : LetGo s (release n .access [p, q] s) n [p, q] := by
  have first := addPass_new (n := n) (newP.releaseLock .access (n := n))
  have second := addPass_new (n := n) ((newQ.releaseLock .access (n := n)).addPass (n := n) apart)
  unfold release
  change LetGo s (serve (addPass n q (addPass n p (releaseLock n .access s)))) n [p, q]
  rw [first, second, modDoor_modDoor]
  refine serve_letGo (cls := .access) h.secured h.unmarked h.plain ?_ rfl rfl (modDoor_frame n _ _)
  rw [modDoor_door, releaseLock_passes, h.empty]
  rfl

theorem Grantable.grant (h : Grantable s s.store.readers[r].door) {creds : List Nat} (few : creds.length ≤ 4) (d : Detail) :
    grant r d creds s = (forEach (creds.map fun c => Pass.mk c s.store.readers[r].direction)
      (fun p => write .grant r.val p.cred d)
      (release s.store.readers[r].door .access (creds.map fun c => Pass.mk c s.store.readers[r].direction) s)).modReader r
        fun v => { v with bad := 0 } := by
  have closed : standsOpen s s.store.readers[r].door = false := by
    unfold standsOpen
    rw [h.secured]
  unfold Machine.grant
  dsimp only
  rw [if_neg (by rw [h.clear]; nofun), h.request (by rw [List.length_map]; exact few)]
  unfold serveGrant
  rw [closed]
  rfl

theorem Grantable.grant_one (h : Grantable s s.store.readers[r].door) (d : Detail) (cred : Nat) : Machine.grant r d [cred] s =
    (write .grant r.val cred d (release s.store.readers[r].door .access [⟨cred, s.store.readers[r].direction⟩] s)).modReader r
      fun v => { v with bad := 0 } := by
  have granted := h.grant (creds := [cred]) (Nat.le_of_ble_eq_true rfl) d
  simp only [List.map_cons, List.map_nil, forEach, List.foldl_cons, List.foldl_nil] at granted
  exact granted

theorem Grantable.grant_two (h : Grantable s s.store.readers[r].door) (d : Detail) (first second : Nat) :
    Machine.grant r d [first, second] s = (write .grant r.val second d (write .grant r.val first d
      (release s.store.readers[r].door .access
        [⟨first, s.store.readers[r].direction⟩, ⟨second, s.store.readers[r].direction⟩] s))).modReader r
          fun v => { v with bad := 0 } := by
  have granted := h.grant (creds := [first, second]) (Nat.le_of_ble_eq_true rfl) d
  simp only [List.map_cons, List.map_nil, forEach, List.foldl_cons, List.foldl_nil] at granted
  exact granted

/-! ## A presentation that passes checks 1 to 14 -/

theorem PassesChecks.roomChecks (h : PassesChecks s r c digits) : roomChecks r c s = custodyOrGrant r c s := by
  have room : ((entryZone s r).bind fun z => roomRefusal s s.store.readers[r].door z c) = none := by
    cases toward : entryZone s r with
    | none => rfl
    | some z => exact h.room z toward
  unfold Machine.roomChecks
  rw [room]

theorem PassesChecks.present (h : PassesChecks s r c digits) : present r c.number digits s = custodyOrGrant r c s := by
  rw [present_pinStage h.lockout h.record h.nine, pinStage_ok h.pin]
  unfold afterPin
  rw [h.door, h.passback]
  exact h.roomChecks

theorem custodyOrGrant_single (free : ∀ z, entryZone s r = some z → custodyApplies s s.store.readers[r].door z = false) :
    custodyOrGrant r c s = grant r .single [c.number] s := by
  unfold custodyOrGrant
  dsimp only
  split
  · rfl
  · next z toward => rw [if_neg (by rw [free z toward]; nofun)]

section
variable (toward : entryZone s r = some z) (applies : custodyApplies s s.store.readers[r].door z = true)
include toward applies

theorem custodyOrGrant_first (none_held : s.custody[s.store.readers[r].door] = none) :
    custodyOrGrant r c s = openCustody r s.store.readers[r].door z c s := by
  unfold custodyOrGrant
  dsimp only
  rw [toward]
  dsimp only
  rw [if_pos applies, none_held]

theorem custodyOrGrant_second {w : CustodyWindow} (held : s.custody[s.store.readers[r].door] = some w) :
    custodyOrGrant r c s = secondPresenter r s.store.readers[r].door w c s := by
  unfold custodyOrGrant
  dsimp only
  rw [toward]
  dsimp only
  rw [if_pos applies, held]

omit applies in
theorem direction_of_entryZone : s.store.readers[r].direction = .entry := by
  unfold entryZone at toward
  cases way : s.store.readers[r].direction with
  | entry => rfl
  | exit =>
    rw [way] at toward
    cases toward

end

/-- The firing gate is no matter of doors, windows, readers and records. -/
theorem finish_granted {parts : List Part} {srcs : List Source} (follows : GateFollows s) (frame : Frame parts srcs s t)
    (gate : Part.gate ∉ parts) (release : Part.release ∉ parts) : finish t = .next t :=
  finish_of_follows (follows.of_frame frame gate release)

end Sys2Proof.Machine

namespace Sys2Proof.Proofs
open Sys2Proof.Machine

/-- Settles O37: past the checks the grant is a release with one pass, its record and the reader's count. -/
theorem grantLetsTheDoorGo : Obligations.GrantLetsTheDoorGo := by
  intro s r c digits follows passes n free secured unmarked plain clear empty fresh
  have grantable : Grantable s n := ⟨secured, unmarked, plain, clear, empty⟩
  have granted := grantable.grant_one (r := r) .single c.number
  have now := passes.present.trans ((custodyOrGrant_single free).trans granted)
  have frame := release_frame n .access [⟨c.number, s.store.readers[r].direction⟩] s
  refine ⟨release n .access [⟨c.number, s.store.readers[r].direction⟩] s, (congrArg finish now).trans ?_, frame,
    grantable.release_one fresh⟩
  exact finish_granted (parts := [.doors, .readers]) follows
    (((frame.mono (by decide) fun _ h => h).trans (Frame.write _ _ _ _ _)).trans (modReader_frame (by decide) r _ _))
    (by decide) (by decide)

/-- Settles O39, by what the custody window holds. -/
theorem custodyTakesTwoPeople : Obligations.CustodyTakesTwoPeople := by
  intro s r c digits z follows passes toward applies n
  refine ⟨fun none_held => ?_, fun w held => ?_⟩
  · have now : present r c.number digits s = _ := passes.present.trans (custodyOrGrant_first toward applies none_held)
    refine (congrArg finish now).trans ?_
    exact finish_granted (parts := [.custody]) (srcs := []) follows
      ((setCustody_frame (by decide) n _ s).trans (Frame.write _ _ _ _ _)) (by decide) (by decide)
  · have now : present r c.number digits s = _ := passes.present.trans (custodyOrGrant_second toward applies held)
    refine ⟨fun same => ?_, fun other plainW plainC => ?_, fun other custodian apart secured unmarked plain clear empty fresh => ?_⟩
    · refine (congrArg finish (now.trans (if_pos same))).trans ?_
      exact finish_refuse follows _
    · have refused : (refuseEntry r .custodyRole c.number s).custody[n] = some w := by
        unfold refuseEntry
        rw [(write_signals _ _ _ _ s).custody]
        exact held
      have closes : secondPresenter r n w c s = write .passUnused n.val w.cred .custody
          ((refuseEntry r .custodyRole c.number s).setCustody n none) := by
        unfold secondPresenter closeCustody
        rw [if_neg other, if_pos ⟨plainW, plainC⟩, refused]
      refine (congrArg finish (now.trans closes)).trans ?_
      exact finish_granted (parts := [.custody]) (srcs := []) follows
        (((Frame.write _ _ _ _ s).trans (setCustody_frame (by decide) n none _)).trans (Frame.write _ _ _ _ _))
        (by decide) (by decide)
    · have grantable : Grantable (s.setCustody n none) n := ⟨secured, unmarked, plain, clear, empty⟩
      have second : secondPresenter r n w c s = grant r .pair [w.cred, c.number] (s.setCustody n none) := by
        unfold secondPresenter
        rw [if_neg other, if_neg]
        rintro ⟨notW, notC⟩
        exact custodian.elim notW notC
      have granted := grantable.grant_two (r := r) .pair w.cred c.number
      have entry : (s.setCustody n none).store.readers[r].direction = .entry := direction_of_entryZone toward
      rw [entry] at granted
      have frame := release_frame n .access [⟨w.cred, .entry⟩, ⟨c.number, .entry⟩] (s.setCustody n none)
      have framed : Frame [.doors, .custody] doorSources s
          (release n .access [⟨w.cred, .entry⟩, ⟨c.number, .entry⟩] (s.setCustody n none)) :=
        (setCustody_frame (by decide) n none s).trans (frame.mono (by decide) fun _ h => h)
      refine ⟨release n .access [⟨w.cred, .entry⟩, ⟨c.number, .entry⟩] (s.setCustody n none),
        (congrArg finish (now.trans (second.trans granted))).trans ?_, framed, frame.custody (by decide),
        grantable.release_two (fun m p mem => (fresh m p mem).1) (fun m p mem => (fresh m p mem).2) apart⟩
      exact finish_granted (parts := [.doors, .custody, .readers]) follows
        ((((framed.mono (by decide) fun _ h => h).trans (Frame.write _ _ _ _ _)).trans (Frame.write _ _ _ _ _)).trans
          (modReader_frame (by decide) r _ _)) (by decide) (by decide)

end Sys2Proof.Proofs
end

section
/-! The release sequencer (chapter 2): what a change of release state, a firing and the decisions between them make of the
zone. -/

namespace Sys2Proof.Machine

variable {s t u : State} {z y : Zone} {b : Bank}

/-! ## What records, sources, doors and the gate leave of a zone -/

/-- No test run is under way. -/
def NotRunning (s : State) : Prop := s.line.run.state ≠ .running

theorem notRunning_react : ReactClosed NotRunning where
  push k a b d h := by
    unfold NotRunning
    rwa [pushRecord_run]
  output _ h := h
  alarm _ _ h := h
  abandonCheck c h := by
    unfold abandonCheck
    rwa [if_neg (fun progress => h (checking_iff.1 progress).1)]

theorem notRunning_doors : DoorClosed NotRunning where
  toSignalClosed := notRunning_react.signals
  door _ h := h
  queue _ _ h := h
  stop _ h := h
  start _ _ _ h := h

/-- What comes later in an event that only writes records, sets sources and moves doors: the zones and what they read are
as they were, and no test run starts. -/
structure Later (s t : State) : Prop where
  release : t.release = s.release
  estimate : t.estimate = s.estimate
  store : t.store = s.store
  checks : t.line.checks = s.line.checks
  flags : t.line.flags = s.line.flags
  supply : t.line.supply = s.line.supply
  inputs : t.inputs = s.inputs
  occupancy : t.occupancy = s.occupancy
  detection : t.detection = s.detection
  run : NotRunning s → NotRunning t

theorem Later.refl (s : State) : Later s s := ⟨rfl, rfl, rfl, rfl, rfl, rfl, rfl, rfl, rfl, id⟩

theorem Later.trans (h1 : Later s t) (h2 : Later t u) : Later s u :=
  ⟨h2.release.trans h1.release, h2.estimate.trans h1.estimate, h2.store.trans h1.store, h2.checks.trans h1.checks,
    h2.flags.trans h1.flags, h2.supply.trans h1.supply, h2.inputs.trans h1.inputs, h2.occupancy.trans h1.occupancy,
    h2.detection.trans h1.detection, h2.run ∘ h1.run⟩

theorem Signals.later (h : Signals s t) (run : NotRunning s → NotRunning t) : Later s t :=
  ⟨h.release, h.estimate, h.store, h.checks, h.flags, h.supply, h.inputs, h.occupancy, h.detection, run⟩

theorem write_later (k : RecordKind) (a b : Nat) (d : Detail) (s : State) : Later s (write k a b d s) :=
  (write_signals k a b d s).later (notRunning_react.write k a b d)

theorem setCondition_later (src : Source) (b : Bool) (s : State) : Later s (setCondition src b s) :=
  (setCondition_signals src b s).later (notRunning_react.setCondition src b)

theorem edgeEvent_later (src : Source) (s : State) : Later s (edgeEvent src s) :=
  (edgeEvent_signals src s).later (notRunning_react.setPending src true)

/-- The gate and the doors. -/
theorem Later.of_frame (h : Frame [.gate, .doors] doorSources s t) (run : NotRunning s → NotRunning t) : Later s t :=
  ⟨h.release (by decide), h.estimate (by decide), h.store_eq (by decide) (by decide), h.checks (by decide),
    h.flags (by decide), h.supply (by decide), h.inputs (by decide), h.occupancy (by decide), h.detection (by decide), run⟩

theorem settleGate_later (s : State) : Later s (settleGate s) := by
  refine .of_frame (settleGate_frame s) fun h => ?_
  unfold settleGate
  split
  · exact h
  · split
    · exact h
    · exact notRunning_doors.serve h

theorem notRunning_overrides : OverrideClosed NotRunning where
  toDoorClosed := notRunning_doors
  egress _ h := h

theorem egressMove_later (old new : ReleaseState) (z : Zone) (s : State) : Later s (egressMove old new z s) :=
  .of_frame ((egressMove_frame (s := s) (z := z) old new).mono (by decide) fun _ h => h)
    (notRunning_overrides.egressMove old new z)

theorem forEach_later {α : Type} {f : α → State → State} (each : ∀ a s, Later s (f a s)) (l : List α) (s : State) :
    Later s (forEach l f s) := forEach_rel Later.refl (fun _ _ _ => Later.trans) f l s fun a _ => each a

theorem occupantRecords_later (z : Zone) (s : State) : Later s (occupantRecords z s) := by
  unfold occupantRecords
  dsimp only
  split
  · split
    · exact .refl s
    · exact write_later _ _ _ _ s
  · exact forEach_later (fun _ => write_later _ _ _ _) _ s

/-! ## A change of release state (R21, R46) -/

/-- A zone's entry in a state it has just come to: its timers stand still (R21). -/
def Release.entered (st : ReleaseState) (r : Release) : Release :=
  { r with state := st, interval := false, doorHold := none, occupancyHold := none }

/-- The zone in its new state, its stored record with it where the state is stored. -/
def entered (z : Zone) (st : ReleaseState) (s : State) : State :=
  if ReleaseState.isStored st then storeRecord z (s.modRelease z (Release.entered st))
  else s.modRelease z (Release.entered st)

/-- What else a change of release state does is records, sources and doors. -/
theorem enterStateAs_later (d : Detail) (z : Zone) (st : ReleaseState) (s : State) :
    Later (entered z st s) (enterStateAs d z st s) :=
  (((write_later _ _ _ _ _).trans (setCondition_later _ _ _)).trans (setCondition_later _ _ _)).trans
    (egressMove_later _ _ _ _)

theorem enterState_later (z : Zone) (st : ReleaseState) (s : State) : Later (entered z st s) (enterState z st s) :=
  enterStateAs_later _ z st s

section
variable {st : ReleaseState}

theorem entered_release : (entered z st s).release = upd s.release z (Release.entered st) := by
  unfold entered
  split <;> rfl

theorem entered_line : (entered z st s).line = s.line := by unfold entered; split <;> rfl
theorem entered_inputs : (entered z st s).inputs = s.inputs := by unfold entered; split <;> rfl
theorem entered_occupancy : (entered z st s).occupancy = s.occupancy := by unfold entered; split <;> rfl
theorem entered_estimate : (entered z st s).estimate = s.estimate := by unfold entered; split <;> rfl

theorem entered_store_of_unstored (unstored : ReleaseState.isStored st = false) : (entered z st s).store = s.store := by
  unfold entered
  rw [if_neg (by rw [unstored]; nofun)]
  rfl

/-- A stored state stands in the zone's record (R46). -/
theorem entered_store_of_stored (stored : ReleaseState.isStored st = true) : (entered z st s).store =
    { s.store with records := upd s.store.records z fun r => { r with state := st } } := by
  unfold entered storeRecord State.modRecord State.modStore
  rw [if_pos stored, State.modRelease_release, upd_same]
  rfl

end

/-! ## What the decisions read of a zone -/

/-- The zone's decisions go by the same inputs, occupancy lists, settings, bank flags and bank-used flags. -/
structure SameGrounds (s u : State) : Prop where
  inputs : u.inputs = s.inputs
  occupancy : u.occupancy = s.occupancy
  zones : u.store.zones = s.store.zones
  doors : u.store.doors = s.store.doors
  inputSettings : u.store.inputs = s.store.inputs
  flags : u.line.flags = s.line.flags
  mainUsed : ∀ y : Zone, u.store.records[y].mainUsed = s.store.records[y].mainUsed
  reserveUsed : ∀ y : Zone, u.store.records[y].reserveUsed = s.store.records[y].reserveUsed

theorem SameGrounds.refl (s : State) : SameGrounds s s := ⟨rfl, rfl, rfl, rfl, rfl, rfl, fun _ => rfl, fun _ => rfl⟩

theorem SameGrounds.trans (h1 : SameGrounds s t) (h2 : SameGrounds t u) : SameGrounds s u :=
  ⟨h2.inputs.trans h1.inputs, h2.occupancy.trans h1.occupancy, h2.zones.trans h1.zones, h2.doors.trans h1.doors,
    h2.inputSettings.trans h1.inputSettings, h2.flags.trans h1.flags, fun y => (h2.mainUsed y).trans (h1.mainUsed y),
    fun y => (h2.reserveUsed y).trans (h1.reserveUsed y)⟩

theorem Later.grounds (h : Later s t) : SameGrounds s t :=
  ⟨h.inputs, h.occupancy, by rw [h.store], by rw [h.store], by rw [h.store], h.flags, fun _ => by rw [h.store],
    fun _ => by rw [h.store]⟩

theorem entered_grounds (z : Zone) (st : ReleaseState) (s : State) : SameGrounds s (entered z st s) := by
  have same {u : State} (settings : u.store = s.store) (inputs : u.inputs = s.inputs) (occupancy : u.occupancy = s.occupancy)
      (line : u.line = s.line) : SameGrounds s u :=
    ⟨inputs, occupancy, by rw [settings], by rw [settings], by rw [settings], by rw [line], fun _ => by rw [settings],
      fun _ => by rw [settings]⟩
  cases stored : ReleaseState.isStored st with
  | false => exact same (entered_store_of_unstored stored) entered_inputs entered_occupancy entered_line
  | true =>
    have settings := entered_store_of_stored (z := z) (s := s) stored
    refine ⟨entered_inputs, entered_occupancy, by rw [settings], by rw [settings], by rw [settings],
      by rw [entered_line], fun y => ?_, fun y => ?_⟩ <;>
    · rw [settings]
      dsimp only
      rw [upd_get]
      split
      · next here => rw [here]
      · rfl

theorem enterState_grounds (z : Zone) (st : ReleaseState) (s : State) : SameGrounds s (enterState z st s) :=
  (entered_grounds z st s).trans (enterState_later z st s).grounds

section
variable (same : SameGrounds s u)
include same

theorem SameGrounds.abortHeld_eq (z : Zone) : abortHeld u z = abortHeld s z := by
  unfold abortHeld active
  rw [same.inputs]

theorem SameGrounds.zoneDoorOpen_eq (z : Zone) : zoneDoorOpen u z = zoneDoorOpen s z := by
  unfold zoneDoorOpen zoneDoors inside contactOpen active
  rw [same.inputs, same.doors]

theorem SameGrounds.bankFlagged_eq (z : Zone) (b : Bank) : bankFlagged u z b = bankFlagged s z b := by
  unfold bankFlagged circuitFlagged
  rw [same.flags]

theorem SameGrounds.bankAvailable_eq (z : Zone) (b : Bank) : bankAvailable u z b = bankAvailable s z b := by
  unfold bankAvailable
  rw [same.bankFlagged_eq, same.zones]
  cases b
  · rw [bankUsed, bankUsed, same.mainUsed]
  · rw [bankUsed, bankUsed, same.reserveUsed]

theorem SameGrounds.chooseBank_eq (z : Zone) : chooseBank u z = chooseBank s z := by
  unfold chooseBank
  rw [same.bankFlagged_eq, same.bankAvailable_eq]

theorem SameGrounds.dischargeOutcome_eq (z : Zone) : dischargeOutcome u z = dischargeOutcome s z := by
  unfold dischargeOutcome
  rw [same.abortHeld_eq]

theorem SameGrounds.occupancyOutcome_eq (z : Zone) : occupancyOutcome u z = occupancyOutcome s z := by
  unfold occupancyOutcome
  rw [same.occupancy, same.dischargeOutcome_eq]

end

theorem chooseBank_eq : chooseBank s z = dischargeBank s z := by
  unfold chooseBank dischargeBank
  cases bankFlagged s z .main <;> cases bankAvailable s z .reserve <;> rfl

end Sys2Proof.Machine
end

section
/-! Firing a bank (R35, R36), and the decisions that end in DISCHARGE, ABORT_HELD or a hold (R22, R29, R31). -/

namespace Sys2Proof.Machine

variable {s t u : State} {z y : Zone} {b : Bank} {st : ReleaseState}

theorem upd_congr {α : Type} {n : Nat} {v : Vector α n} {i : Fin n} {f g : α → α} (h : f v[i] = g v[i]) :
    upd v i f = upd v i g := by
  unfold upd
  rw [h]

/-! ## Firing (R36, R177, R179) -/

/-- The zone as a bank is being fired, up to the line supervisor's part. -/
def bankStarted (z : Zone) (b : Bank) (s : State) : State :=
  (storeRecord z (s.modRecord z (ZoneRecord.use b))).modRelease z fun r =>
    { r with firing := some ⟨b, s.store.zones[z].firingTime⟩ }

theorem fireBank_eq : fireBank z b s =
    beginFiring (bankRelease z b) (write .release (Zone.number z) 0 (.bank b) (bankStarted z b s)) := rfl

theorem abortRun_signals (s : State) : Signals s (abortRun s) := by
  unfold abortRun
  split
  · exact Signals.trans (t := mapResults CircuitResult.afterAbort
      (s.modRun fun run => { run with state := .aborted, supply := SupplyResult.afterAbort run.supply }))
      (by constructor <;> rfl) (write_signals _ _ _ _ _)
  · exact Signals.refl s

theorem abortRun_notRunning (s : State) : NotRunning (abortRun s) := by
  unfold abortRun
  split
  · exact notRunning_react.write _ _ _ _ (nofun : NotRunning (mapResults CircuitResult.afterAbort
      (s.modRun fun run => { run with state := .aborted, supply := SupplyResult.afterAbort run.supply })))
  · next stopped => exact stopped

/-- What a started firing of bank `b` of zone `z` leaves: the firing with its timer, the bank-used flag, the check with its
mark clear, and no test run (R36, R177, R179). -/
structure BankFired (s t : State) (z : Zone) (b : Bank) : Prop where
  release : t.release = upd s.release z fun r => { r with firing := some ⟨b, s.store.zones[z].firingTime⟩ }
  estimate : t.estimate = s.estimate
  records : t.store.records = upd s.store.records z fun r => { ZoneRecord.use b r with state := s.release[z].state }
  check : t.line.checks[bankRelease z b] = some false
  flags : t.line.flags = s.line.flags
  run : NotRunning t

theorem fireBank_fired (z : Zone) (b : Bank) (s : State) : BankFired s (fireBank z b s) z b := by
  have written := write_signals .release (Zone.number z) 0 (.bank b) (bankStarted z b s)
  have same := written.trans (abortRun_signals _)
  have run := abortRun_notRunning (write .release (Zone.number z) 0 (.bank b) (bankStarted z b s))
  rw [fireBank_eq]
  unfold beginFiring
  generalize abortRun (write .release (Zone.number z) 0 (.bank b) (bankStarted z b s)) = u at same run ⊢
  refine ⟨same.release, same.estimate, ?_, upd_same _ _ _, same.flags, run⟩
  refine (congrArg Store.records same.store).trans ?_
  change upd (upd s.store.records z (ZoneRecord.use b)) z (fun r => { r with state := s.release[z].state }) = _
  rw [upd_upd]

theorem BankFired.later (h : BankFired s t z b) (later : Later t u) : BankFired s u z b :=
  ⟨later.release.trans h.release, later.estimate.trans h.estimate, by rw [later.store, h.records],
    by rw [later.checks, h.check], later.flags.trans h.flags, later.run h.run⟩

theorem BankFired.used (h : BankFired s t z b) : bankUsed t z b = true := by
  unfold bankUsed
  rw [h.records, upd_same]
  cases b <;> rfl

/-- The gate is closed while a bank is being fired (R38). -/
theorem settleGate_closed (firing_ : t.release[z].firing.isSome = true) : (settleGate t).gateClosed = true := by
  have follows := settleGate_follows t
  unfold GateFollows anyFiring at follows
  rw [follows, List.any_eq_true]
  refine ⟨z, List.mem_finRange z, ?_⟩
  unfold firing
  rw [(settleGate_later t).release]
  exact firing_

/-- At the end of the command a firing started in it is one as the statements say it (R36, R38). -/
theorem BankFired.settled (h : BankFired s t z b) (time : s.store.zones[z].firingTime = u.store.zones[z].firingTime) :
    Fired u (settleGate t) z b := by
  have later := settleGate_later t
  have settled := h.later later
  have now : t.release[z].firing = some ⟨b, u.store.zones[z].firingTime⟩ := by
    rw [h.release, upd_same, time]
  exact ⟨by rw [later.release, now], settled.used, settled.check, settled.run,
    settleGate_closed (by rw [now]; rfl)⟩

/-! ## Arriving in a state that a rule decided -/

/-- The zone's entry after an event that decided `st` for it. -/
def Release.arrived (s : State) (z : Zone) (st : ReleaseState) (remaining : Nat) (r : Release) : Release :=
  { r with
    state := st
    interval := false
    remaining := remaining
    doorHold := if st = .doorHold then some s.store.zones[z].doorHoldMax else none
    occupancyHold := if st = .occupiedHold then some s.store.zones[z].occupancyHoldMax else none
    firing := if st = .discharge then some ⟨dischargeBank s z, s.store.zones[z].firingTime⟩ else r.firing }

/-- The zone came to `st` with `remaining`, and where that is DISCHARGE its bank is being fired. -/
structure Reached (s t : State) (z : Zone) (st : ReleaseState) (remaining : Nat) : Prop where
  release : t.release = upd s.release z (Release.arrived s z st remaining)
  estimate : t.estimate = s.estimate
  used : st = .discharge → bankUsed t z (dischargeBank s z) = true
  check : st = .discharge → t.line.checks[bankRelease z (dischargeBank s z)] = some false
  run : st = .discharge → NotRunning t
  pending : st = .discharge → t.alarm.pending[Source.discharge z] = true

theorem discharge_ne_backlog (z : Zone) : Source.discharge z ≠ Source.backlog := by revert z; decide
theorem discharge_not_door (z : Zone) : Source.discharge z ∉ doorSources := by revert z; decide

theorem occupantRecords_affects (z : Zone) (s : State) : Affects [] s (occupantRecords z s) := by
  unfold occupantRecords
  dsimp only
  split
  · split
    · exact .refl _ s
    · exact write_affects _ _ _ _ _ s
  · exact forEach_rel (Affects.refl []) (fun _ _ _ => Affects.trans) _ _ _ fun _ _ u => write_affects _ _ _ _ _ u

theorem enterDischarge_reached (z : Zone) (s : State) :
    Reached s (enterDischarge z s) z .discharge s.release[z].remaining := by
  have entry := enterState_later z .discharge s
  have grounds := enterState_grounds z .discharge s
  have fired := fireBank_fired z (dischargeBank s z) (enterState z .discharge s)
  have eq : enterDischarge z s = occupantRecords z (edgeEvent (Source.discharge z)
      (fireBank z (dischargeBank s z) (enterState z .discharge s))) := by
    unfold enterDischarge
    dsimp only
    rw [grounds.chooseBank_eq, chooseBank_eq]
  rw [eq]
  generalize fireBank z (dischargeBank s z) (enterState z .discharge s) = u at fired ⊢
  have done := fired.later ((edgeEvent_later (Source.discharge z) u).trans (occupantRecords_later z _))
  refine ⟨?_, ?_, fun _ => done.used, fun _ => done.check, fun _ => done.run, fun _ => ?_⟩
  · rw [done.release, entry.release, entered_release, upd_upd, grounds.zones]
    rfl
  · rw [done.estimate, entry.estimate, entered_estimate]
  · exact ((occupantRecords_affects z _).pendingSame _ List.not_mem_nil (discharge_ne_backlog z)).trans
      (setPending_pending true (.inl (discharge_ne_backlog z)))

/-- A state that neither holds nor fires is entered with its timers at rest. -/
theorem enterStateAs_reached (d : Detail) (z : Zone) {st : ReleaseState} (s : State)
    (plain : st ≠ .doorHold ∧ st ≠ .occupiedHold ∧ st ≠ .discharge) :
    Reached s (enterStateAs d z st s) z st s.release[z].remaining := by
  obtain ⟨noDoorHold, noHold, noDischarge⟩ := plain
  have entry := enterStateAs_later d z st s
  refine ⟨?_, by rw [entry.estimate, entered_estimate], fun h => absurd h noDischarge, fun h => absurd h noDischarge,
    fun h => absurd h noDischarge, fun h => absurd h noDischarge⟩
  rw [entry.release, entered_release]
  refine upd_congr ?_
  unfold Release.arrived Release.entered
  rw [if_neg noDoorHold, if_neg noHold, if_neg noDischarge]

/-- A change of the zone's own entry before the decision. -/
theorem Reached.of_modRelease {f : Release → Release} {k : Nat} (h : Reached (s.modRelease z f) t z st k)
    (same : Release.arrived s z st k (f s.release[z]) = Release.arrived s z st k s.release[z]) : Reached s t z st k := by
  refine ⟨?_, h.estimate, h.used, h.check, h.run, h.pending⟩
  rw [h.release, State.modRelease_release, upd_upd]
  exact upd_congr same

theorem enterAbortHeld_reached (z : Zone) (k : Nat) (s : State) : Reached s (enterAbortHeld z k s) z .abortHeld k := by
  have entry := enterStateAs_reached (.state .abortHeld) z (s.modRelease z fun r => { r with remaining := k })
    (st := .abortHeld) ⟨nofun, nofun, nofun⟩
  rw [State.modRelease_release, upd_same] at entry
  exact entry.of_modRelease rfl

/-- What a zone that a rule sends to DISCHARGE comes to keep as `remaining` (R22). -/
def dischargeRemaining (s : State) (z : Zone) : Nat := if abortHeld s z then 0 else s.release[z].remaining

theorem goDischarge_reached (z : Zone) (s : State) :
    Reached s (goDischarge z s) z (dischargeOutcome s z) (dischargeRemaining s z) := by
  unfold goDischarge dischargeOutcome dischargeRemaining
  by_cases held : abortHeld s z = true
  · rw [if_pos held, if_pos held, if_pos held]
    exact enterAbortHeld_reached z 0 s
  · rw [if_neg held, if_neg held, if_neg held]
    exact enterDischarge_reached z s

/-- A hold is entered with its timer. -/
theorem hold_reached {f : Release → Release} (entry : Later (entered z st s) u) (unfired : st ≠ .discharge)
    (same : f (Release.entered st s.release[z]) = Release.arrived s z st s.release[z].remaining s.release[z]) :
    Reached s (u.modRelease z f) z st s.release[z].remaining := by
  refine ⟨?_, entry.estimate.trans entered_estimate, fun h => absurd h unfired, fun h => absurd h unfired,
    fun h => absurd h unfired, fun h => absurd h unfired⟩
  rw [State.modRelease_release, entry.release, entered_release, upd_upd]
  exact upd_congr same

theorem emptyCertain_iff : emptyCertain s z = true ↔ s.occupancy[z].list = [] ∧ s.occupancy[z].certain = true := by
  unfold emptyCertain
  rw [Bool.and_eq_true, List.isEmpty_iff]

/-- `remaining` after the occupancy check (R31). -/
def checkRemaining (s : State) (z : Zone) : Nat :=
  if emptyCertain s z then dischargeRemaining s z else s.release[z].remaining

theorem occupancyCheck_reached (z : Zone) (s : State) :
    Reached s (occupancyCheck z s) z (occupancyOutcome s z) (checkRemaining s z) := by
  unfold occupancyCheck occupancyOutcome checkRemaining
  by_cases empty : emptyCertain s z = true
  · rw [if_pos empty, if_pos (emptyCertain_iff.1 empty), if_pos empty]
    exact goDischarge_reached z s
  · rw [if_neg empty, if_neg (fun h => empty (emptyCertain_iff.2 h)), if_neg empty]
    exact hold_reached (enterState_later z .occupiedHold s) nofun rfl

/-- `remaining` after the end of a countdown (R29). -/
def countdownRemaining (s : State) (z : Zone) : Nat :=
  if s.release[z].manual then dischargeRemaining s z
  else if zoneDoorOpen s z ∧ s.store.zones[z].doorHoldMax ≠ 0 then s.release[z].remaining else checkRemaining s z

theorem endCountdown_reached (z : Zone) (s : State) :
    Reached s (endCountdown z s) z (countdownOutcome s z) (countdownRemaining s z) := by
  unfold endCountdown countdownOutcome countdownRemaining
  by_cases manual : s.release[z].manual = true
  · rw [if_pos manual, if_pos manual, if_pos manual]
    exact goDischarge_reached z s
  · rw [if_neg manual, if_neg manual, if_neg manual]
    by_cases stands : zoneDoorOpen s z = true ∧ s.store.zones[z].doorHoldMax ≠ 0
    · rw [if_pos stands, if_pos stands, if_pos stands]
      exact hold_reached (enterState_later z .doorHold s) nofun rfl
    · rw [if_neg stands, if_neg stands, if_neg stands]
      exact occupancyCheck_reached z s

/-! ## At the end of the command -/

theorem Reached.entry {k : Nat} (h : Reached s t z st k) : t.release[z] = Release.arrived s z st k s.release[z] := by
  rw [h.release, upd_same]

theorem Reached.other {k : Nat} (h : Reached s t z st k) (y : Zone) (apart : y ≠ z) : t.release[y] = s.release[y] := by
  rw [h.release, upd_other _ _ _ _ (Ne.symm apart)]

/-- The zone arrived, as the statements say it, once the gate follows. -/
theorem Reached.arrived {k : Nat} {s0 t1 : State} (h : Reached s t z st k) (zones : s.store.zones = s0.store.zones)
    (bank : dischargeBank s z = dischargeBank s0 z) (others : ∀ y : Zone, y ≠ z → s.release[y] = s0.release[y]) (later : Later t t1)
    (pending : st = .discharge → t1.alarm.pending[Source.discharge z] = t.alarm.pending[Source.discharge z])
    (gate : st = .discharge → t1.gateClosed = true) : Arrived s0 t1 z st := by
  have entry := h.entry
  rw [← later.release] at entry
  refine ⟨by rw [entry]; rfl, by rw [entry, ← zones]; rfl, by rw [entry, ← zones]; rfl, fun discharged => ?_,
    fun y apart => ?_⟩
  · have fired : Fired s0 t1 z (dischargeBank s z) := by
      refine ⟨?_, ?_, by rw [later.checks, h.check discharged], later.run (h.run discharged), gate discharged⟩
      · rw [entry, ← zones]
        exact if_pos discharged
      · have used := h.used discharged
        unfold bankUsed at used ⊢
        rwa [later.store]
    exact ⟨bank ▸ fired, (pending discharged).trans (h.pending discharged)⟩
  · rw [later.release, h.other y apart, others y apart]

theorem settleGate_discharge (z : Zone) (t : State) :
    (settleGate t).alarm.pending[Source.discharge z] = t.alarm.pending[Source.discharge z] :=
  (settleGate_frame t).pendingSame _ (discharge_not_door z) (discharge_ne_backlog z)

theorem SameGrounds.dischargeBank_eq {s0 : State} (grounds : SameGrounds s0 s) (z : Zone) :
    dischargeBank s z = dischargeBank s0 z :=
  (Machine.chooseBank_eq (s := s)).symm.trans ((grounds.chooseBank_eq z).trans Machine.chooseBank_eq)

theorem Reached.closes {k : Nat} {t1 : State} (h : Reached s t z st k) (later : Later t t1) (discharged : st = .discharge) :
    (settleGate t1).gateClosed = true :=
  settleGate_closed (z := z) (by rw [later.release, h.entry, Release.arrived, if_pos discharged]; rfl)

theorem Reached.settled {k : Nat} {s0 : State} (h : Reached s t z st k) (grounds : SameGrounds s0 s)
    (others : ∀ y : Zone, y ≠ z → s.release[y] = s0.release[y]) : Arrived s0 (settleGate t) z st :=
  h.arrived grounds.zones (grounds.dischargeBank_eq z) others (settleGate_later t) (fun _ => settleGate_discharge z t)
    (h.closes (.refl t))

/-- A change of the zone's own entry leaves the grounds of its decisions. -/
theorem modRelease_grounds (z : Zone) (f : Release → Release) (s : State) : SameGrounds s (s.modRelease z f) :=
  ⟨rfl, rfl, rfl, rfl, rfl, rfl, fun _ => rfl, fun _ => rfl⟩

theorem modRelease_others (f : Release → Release) (y : Zone) (apart : y ≠ z) :
    (s.modRelease z f).release[y] = s.release[y] := upd_other _ _ _ _ (Ne.symm apart)

end Sys2Proof.Machine
end

section
/-! Countdowns and holds (R26, R29 to R32). -/

namespace Sys2Proof.Machine

variable {s t u : State} {z y : Zone} {st : ReleaseState}

theorem ZoneFrame.settled (h : ZoneFrame s t) : Frame (.gate :: zoneParts) zoneSources s (settleGate t) :=
  Frame.settleGate (Frame.mono h (fun _ => List.mem_cons_of_mem _) fun _ h => h) (by decide) fun _ => doorSource_mem

/-- A change of a zone's entry that lets its firing be leaves the gate following. -/
theorem GateFollows.modRelease {f : Release → Release} (h : GateFollows s) (same : (f s.release[z]).firing = s.release[z].firing) :
    GateFollows (s.modRelease z f) := by
  unfold GateFollows
  rw [anyFiring_congr (s := s) fun y => ?_]
  · exact h
  · unfold firing
    rw [State.modRelease_release, upd_get]
    split
    · next here => rw [← here, same]
    · rfl

section
variable (same : SameGrounds s u)
include same

theorem SameGrounds.countdownOutcome_eq (manual : u.release[z].manual = s.release[z].manual) :
    countdownOutcome u z = countdownOutcome s z := by
  unfold countdownOutcome
  rw [manual, same.dischargeOutcome_eq, same.zoneDoorOpen_eq, same.zones, same.occupancyOutcome_eq]

end

theorem dischargeRemaining_zero (h : s.release[z].remaining = 0) : dischargeRemaining s z = 0 := by
  unfold dischargeRemaining
  rw [h, ite_self]

theorem countdownRemaining_zero (h : s.release[z].remaining = 0) : countdownRemaining s z = 0 := by
  have check : checkRemaining s z = 0 := by
    unfold checkRemaining
    rw [dischargeRemaining_zero h, h, ite_self]
  unfold countdownRemaining
  rw [dischargeRemaining_zero h, check, h, ite_self, ite_self]

/-! ## The one-second interval (R26) -/

/-- A second of the countdown is over. -/
def counted (z : Zone) (s : State) : State := s.modRelease z fun r => { r with remaining := r.remaining - 1 }

theorem counted_entry : (counted z s).release[z] = { s.release[z] with remaining := s.release[z].remaining - 1 } :=
  upd_same _ _ _

theorem expireInterval_runs (countdown : s.release[z].state = .countdown) (runs : s.release[z].interval = true) :
    expireInterval z s =
      if s.release[z].remaining - 1 = 0 then endCountdown z (counted z s) else counted z s := by
  unfold expireInterval
  rw [if_pos ⟨countdown, runs⟩]
  change (if (counted z s).release[z].remaining = 0 then _ else _) = _
  rw [counted_entry]
  rfl

/-- The last second ends the countdown (R29). -/
theorem expireInterval_ends (countdown : s.release[z].state = .countdown) (runs : s.release[z].interval = true)
    (last : s.release[z].remaining ≤ 1) : Reached (counted z s) (expireInterval z s) z (countdownOutcome s z) 0 := by
  have zero : s.release[z].remaining - 1 = 0 := by omega
  have ends := endCountdown_reached z (counted z s)
  rw [expireInterval_runs countdown runs, if_pos zero]
  rwa [(modRelease_grounds z _ s).countdownOutcome_eq (u := counted z s) (by rw [counted_entry]),
    countdownRemaining_zero (by rw [counted_entry]; exact zero)] at ends

end Sys2Proof.Machine

namespace Sys2Proof.Proofs
open Sys2Proof.Machine

/-- Settles O14: each timer's end comes to one of the sequencer's decisions. -/
theorem countdownsAndHoldsEnd : Obligations.CountdownsAndHoldsEnd := by
  refine ⟨fun s z => ⟨fun follows countdown runs more => ?_, fun countdown runs last => ?_, fun follows other => ?_⟩,
    fun s z => ⟨fun hold runs => ?_, fun follows other => ?_, fun hold runs => ⟨fun auto => ?_, fun follows manualOnly => ?_⟩,
      fun follows other => ?_⟩⟩
  · have counts := expireInterval_runs countdown runs
    rw [if_neg (by omega)] at counts
    exact (congrArg finish counts).trans (finish_of_follows (follows.modRelease rfl))
  · have ends := expireInterval_ends countdown runs last
    have entry := ends.entry
    rw [← (settleGate_later _).release, counted_entry] at entry
    refine ⟨_, rfl, (expireInterval_zone z s).settled, ends.settled (modRelease_grounds z _ s) (modRelease_others _), ?_, ?_⟩
    · rw [entry]
      rfl
    · rw [entry]
      rfl
  · exact (congrArg finish (if_neg fun h => other h.1)).trans (finish_of_follows follows)
  · have now : expireDoorHold z s = occupancyCheck z s := if_pos ⟨hold, runs⟩
    have reached := occupancyCheck_reached z s
    rw [← now] at reached
    exact ⟨_, rfl, (expireDoorHold_zone z s).settled, reached.settled (.refl s) fun _ _ => rfl⟩
  · exact (congrArg finish (if_neg fun h => other h.1)).trans (finish_of_follows follows)
  · have now : expireOccupancyHold z s = goDischarge z s := by
      unfold expireOccupancyHold
      rw [if_pos ⟨hold, runs⟩, auto]
    have reached := goDischarge_reached z s
    rw [← now] at reached
    exact ⟨_, rfl, (expireOccupancyHold_zone z s).settled, reached.settled (.refl s) fun _ _ => rfl⟩
  · have now : expireOccupancyHold z s = s.modRelease z fun r => { r with occupancyHold := none } := by
      unfold expireOccupancyHold
      rw [if_pos ⟨hold, runs⟩, manualOnly]
    exact (congrArg finish now).trans (finish_of_follows (follows.modRelease rfl))
  · exact (congrArg finish (if_neg fun h => other h.1)).trans (finish_of_follows follows)

end Sys2Proof.Proofs
end

section
/-! The occupancy messages (R126, R127), and the report of a list to the sequencer (R32). -/

namespace Sys2Proof.Machine

variable {s t u : State} {z y : Zone} {cred : Nat}

/-! ## The watch unit's part of a change of a list -/

theorem setLone_later (z : Zone) (v : Option Nat) (s : State) : Later s (s.setLone z v) :=
  ⟨rfl, rfl, rfl, rfl, rfl, rfl, rfl, rfl, rfl, id⟩

theorem setOutrun_later (z : Zone) (b : Bool) (s : State) : Later s (s.setOutrun z b) :=
  ⟨rfl, rfl, rfl, rfl, rfl, rfl, rfl, rfl, rfl, id⟩

theorem reLone_later (z : Zone) (s : State) : Later s (reLone z s) := by
  have stops : Later s (stopLone z s) := by
    unfold stopLone
    split
    · exact (setLone_later z none s).trans (setOutrun_later z true _)
    · exact .refl s
  unfold reLone
  split
  · split
    · exact .refl s
    · exact setLone_later _ _ _
  · exact stops

theorem reLone_alarm (z : Zone) (s : State) : (reLone z s).alarm = s.alarm := by
  unfold reLone stopLone
  split
  · split <;> rfl
  · split <;> rfl

theorem reEscort_later (z : Zone) (s : State) : Later s (reEscort z s) := setCondition_later _ _ s

theorem reOccupant_later (z : Zone) (s : State) : Later s (reOccupant z s) := setCondition_later _ _ s

theorem watchOccupancy_later (z : Zone) (s : State) : Later s (watchOccupancy z s) := by
  unfold watchOccupancy
  exact ((reLone_later z s).trans (forEach_later reEscort_later allZones _)).trans (reOccupant_later z _)

theorem discharge_ne_escort (z y : Zone) : Source.discharge z ≠ Source.escort y := by revert z y; decide
theorem discharge_ne_occupant (z y : Zone) : Source.discharge z ≠ Source.occupant y := by revert z y; decide

/-- The watch unit sets no DISCHARGE source. -/
theorem watchOccupancy_discharge (z y : Zone) (s : State) :
    (watchOccupancy y s).alarm.pending[Source.discharge z] = s.alarm.pending[Source.discharge z] := by
  have set {src : Source} {b : Bool} {u : State} (other : Source.discharge z ≠ src) :
      (setCondition src b u).alarm.pending[Source.discharge z] = u.alarm.pending[Source.discharge z] :=
    (setCondition_affects src b u).pendingSame _ (fun mem => other (List.mem_singleton.1 mem)) (discharge_ne_backlog z)
  have escort (x : Zone) (u : State) : (reEscort x u).alarm.pending[Source.discharge z] =
      u.alarm.pending[Source.discharge z] := set (discharge_ne_escort z x)
  have occupant (x : Zone) (u : State) : (reOccupant x u).alarm.pending[Source.discharge z] =
      u.alarm.pending[Source.discharge z] := set (discharge_ne_occupant z x)
  unfold watchOccupancy
  rw [occupant]
  exact forEach_keeps (P := fun u => u.alarm.pending[Source.discharge z] = s.alarm.pending[Source.discharge z]) reEscort
    allZones _ (fun x _ u same => (escort x u).trans same) (by rw [reLone_alarm])

/-! ## The end of an occupied hold (R32) -/

/-- The zone holds for its occupants, and its list shows none. -/
abbrev HoldEnds (s : State) (z : Zone) : Prop := s.release[z].state = .occupiedHold ∧ emptyCertain s z = true

theorem occupancyReport_ends (ends : HoldEnds s z) :
    Reached s (occupancyReport z s) z (dischargeOutcome s z) (dischargeRemaining s z) := by
  rw [show occupancyReport z s = goDischarge z s from if_pos ends]
  exact goDischarge_reached z s

/-- A list changed so that the hold ends: the zone arrives where a discharge is due, whatever is recorded after. -/
theorem relist_arrives {f : Occupancy → Occupancy} (ends : HoldEnds (s.modOccupancy z f) z) {t1 : State}
    (later : Later (occupancyChanged z (s.modOccupancy z f)) t1)
    (pending : t1.alarm.pending[Source.discharge z] =
      (occupancyChanged z (s.modOccupancy z f)).alarm.pending[Source.discharge z]) :
    Arrived s (settleGate t1) z (dischargeOutcome s z) := by
  have reached := occupancyReport_ends ends
  unfold occupancyChanged at later pending
  rw [watchOccupancy_discharge] at pending
  have all : Later (occupancyReport z (s.modOccupancy z f)) t1 := (watchOccupancy_later z _).trans later
  exact reached.arrived rfl rfl (fun _ _ => rfl) (all.trans (settleGate_later t1))
    (fun _ => (settleGate_discharge z t1).trans pending)
    (reached.closes all)

/-! ## The frame of an occupancy message -/

abbrev MessageParts : List Part := [.link, .occupancy, .lone, .gate] ++ zoneParts

theorem reply_later (kind : Nat) (status : Status) (body : ReplyBody) (s : State) : Later s (reply kind status body s) :=
  ⟨rfl, rfl, rfl, rfl, rfl, rfl, rfl, rfl, rfl, id⟩

/-- A list's change, its CONFIG record, the reply and the gate. -/
def occupancyAnswer (kind : Nat) (b : Nat) (d : Detail) (z : Zone) (t : State) : State :=
  settleGate (reply kind .ok .empty (write .config (z.val + 1) b d t))

theorem occupancyAnswer_frame {kind b : Nat} {d : Detail} (listed : Frame ListParts inputSources s t) :
    Frame MessageParts inputSources s (occupancyAnswer kind b d z t) :=
  (((listed.mono (by decide) fun _ h => h).trans (Frame.write _ _ _ _ _)).trans
    (reply_frame (by decide) _ _ _ _)).settleGate (by decide) doorSource_input

theorem occupancyAnswer_occupancy {kind b : Nat} {d : Detail} : (occupancyAnswer kind b d z t).occupancy = t.occupancy := by
  unfold occupancyAnswer
  rw [(settleGate_later _).occupancy, reply_occupancy, (write_signals _ _ _ _ _).occupancy]

theorem occupancyAnswer_replied {kind b : Nat} {d : Detail} (listed : Frame ListParts inputSources s t) :
    Replied (BitVec.ofNat 8 kind) .ok .empty s (occupancyAnswer kind b d z t) := by
  unfold Replied occupancyAnswer
  rw [(settleGate_frame _).link (by decide), reply_link, (write_signals _ _ _ _ _).link, listed.link (by decide)]

theorem occupancyAnswer_arrives {kind b : Nat} {d : Detail} {f : Occupancy → Occupancy}
    (changed : t = occupancyChanged z (s.modOccupancy z f)) (ends : HoldEnds (s.modOccupancy z f) z) :
    Arrived s (occupancyAnswer kind b d z t) z (dischargeOutcome s z) := by
  have written := write_later .config (z.val + 1) b d (occupancyChanged z (s.modOccupancy z f))
  have affects := write_affects [] .config (z.val + 1) b d (occupancyChanged z (s.modOccupancy z f))
  unfold occupancyAnswer
  rw [changed]
  refine relist_arrives (f := f) ends (written.trans (reply_later _ _ _ _)) ?_
  rw [reply_alarm, affects.pendingSame _ List.not_mem_nil (discharge_ne_backlog z)]

theorem holdEnds_iff {f : Occupancy → Occupancy} : HoldEnds (s.modOccupancy z f) z ↔ s.release[z].state = .occupiedHold ∧
    (f s.occupancy[z]).list = [] ∧ (f s.occupancy[z]).certain = true := by
  unfold HoldEnds
  rw [emptyCertain_iff, State.modOccupancy_release, State.modOccupancy_occupancy, upd_same]

theorem occupancyConfirm_eq : occupancyConfirm (z.val + 1) s =
    reply 0x49 .ok .empty (write .config (z.val + 1) 0 .confirm (setCertain z true s)) := by
  unfold occupancyConfirm
  rw [zoneNumbered_val]
  rfl

theorem occupancyRemove_listed (real : cred ≠ 0) (mem : cred ∈ s.occupancy[z].list) : occupancyRemove (z.val + 1) cred s =
    reply 0x4A .ok .empty (write .config (z.val + 1) cred .remove (removeEntry cred z s)) := by
  unfold occupancyRemove
  rw [zoneNumbered_val]
  dsimp only
  rw [if_neg real, if_pos (listed_iff.2 mem)]
  rfl

theorem finish_reply (follows : GateFollows s) (kind : Nat) (status : Status) (body : ReplyBody) :
    finish (reply kind status body s) = .next (reply kind status body s) :=
  finish_of_follows (s := reply kind status body s) follows

end Sys2Proof.Machine

namespace Sys2Proof.Proofs
open Sys2Proof.Machine

/-- Settles O42, message by message; an accepted one changes a list and delivers the change. -/
theorem occupancyMessagesAct : Obligations.OccupancyMessagesAct := by
  intro s z cred ends
  refine ⟨?_, fun real mem => ?_, fun follows real absent => ?_, fun follows => ?_, ?_, fun follows k bad => ⟨?_, ?_, ?_⟩⟩
  · have listed := setCertain_frame z true s
    refine ⟨occupancyAnswer 0x49 0 .confirm z (setCertain z true s), congrArg finish occupancyConfirm_eq,
      occupancyAnswer_frame listed, ?_, occupancyAnswer_replied listed, fun uncertain now => ?_⟩
    · rw [occupancyAnswer_occupancy, setCertain_occupancy]
    · exact occupancyAnswer_arrives (if_neg (by rw [uncertain]; nofun)) (holdEnds_iff.2 now)
  · have listed := removeEntry_frame cred z s
    refine ⟨occupancyAnswer 0x4A cred .remove z (removeEntry cred z s), congrArg finish (occupancyRemove_listed real mem),
      occupancyAnswer_frame listed, ?_, occupancyAnswer_replied listed, fun now => ?_⟩
    · rw [occupancyAnswer_occupancy, removeEntry_occupancy]
      rfl
    · exact occupancyAnswer_arrives (if_pos (listed_iff.2 mem)) (holdEnds_iff.2 now)
  · have now : occupancyRemove (z.val + 1) cred s = reply 0x4A .notFound .empty s := by
      unfold occupancyRemove
      rw [zoneNumbered_val]
      dsimp only
      rw [if_neg real, if_neg fun h => absent (listed_iff.1 h)]
      rfl
    exact (congrArg finish now).trans (finish_reply follows _ _ _)
  · have now : occupancyRemove (z.val + 1) 0 s = reply 0x4A .param .empty s := by
      unfold occupancyRemove
      rw [zoneNumbered_val]
      rfl
    exact (congrArg finish now).trans (finish_reply follows _ _ _)
  · refine congrArg Host.Outcome.next ?_
    unfold occupancyRead
    rw [zoneNumbered_val]
  · have now : occupancyConfirm k s = reply 0x49 .param .empty s := by
      unfold occupancyConfirm
      rw [zoneNumbered_of_bad bad]
      rfl
    exact (congrArg finish now).trans (finish_reply follows _ _ _)
  · have now : occupancyRemove k cred s = reply 0x4A .param .empty s := by
      unfold occupancyRemove
      rw [zoneNumbered_of_bad bad]
      rfl
    exact (congrArg finish now).trans (finish_reply follows _ _ _)
  · refine congrArg Host.Outcome.next ?_
    unfold occupancyRead
    rw [zoneNumbered_of_bad bad]
    rfl

end Sys2Proof.Proofs
end

section
/-! An input's validation and release, as events (R3, R4), and the passes that an opening applies (R73, R123, R124). -/

namespace Sys2Proof.Machine

variable {s t u : State} {n : DoorNo} {i : InputNo} {z : Zone} {cred : Nat}

/-! ## Who owns an input (R1) -/

theorem inputRole_contact (n : DoorNo) : inputRole (contactInput n) = .contact n := by revert n; decide
theorem inputRole_rex (n : DoorNo) : inputRole (rexInput n) = .rex n := by revert n; decide
theorem inputRole_manual (z : Zone) : inputRole (manualInput z) = .manual z := by revert z; decide
theorem inputRole_abort (z : Zone) : inputRole (abortInput z) = .abort z := by revert z; decide

/-! ## The end of a validation and of a release -/

/-- The input has given its first value (R8). -/
def firstGiven (i : InputNo) (s : State) : State := s.modInput i fun v => { v with first := true }

theorem firstGiven_frame {parts : List Part} {srcs : List Source} (allowed : Part.inputs ∈ parts) (i : InputNo) (s : State) :
    Frame parts srcs s (firstGiven i s) := modInput_frame allowed _ _ _

theorem setPhase_phase (p : Phase) : (setPhase i p s).inputs[i].phase = p := by
  unfold setPhase
  rw [State.modInput_inputs, upd_same]

theorem noteFirst_rest (rest : Phase.atRest s.inputs[i].phase = true) : noteFirst i s =
    match waitingDoor i with
    | some n => trySettle n (firstGiven i s)
    | none => firstGiven i s := by
  unfold noteFirst
  rw [if_pos rest]
  rfl

theorem noteFirst_contact (rest : Phase.atRest s.inputs[contactInput n].phase = true) :
    noteFirst (contactInput n) s = trySettle n (firstGiven (contactInput n) s) := by
  rw [noteFirst_rest rest, waitingDoor, inputRole_contact]

theorem trySettle_settled (settled : s.doors[n].state ≠ .starting) : trySettle n s = s := if_neg fun h => settled h.1

/-- The validation of an input that follows its level delivers its activation (R3). -/
theorem expireValidation_follow (validate : s.inputs[i].phase = .validate) (follow : inputMode s i = .follow) :
    expireValidation i s = noteFirst i (deliverActivation i (setPhase i .on s)) := by
  unfold expireValidation activate
  rw [validate, follow]

theorem deliverActivation_phase (i : InputNo) (p : Phase) (s : State) :
    (deliverActivation i (setPhase i p s)).inputs[i].phase = p := by
  rw [(deliverActivation_frame i _).inputs (by decide), setPhase_phase]

theorem expireDebounce_off (releasing : s.inputs[i].phase = .debounceOff) :
    expireDebounce i s = noteFirst i (deliverRelease i (setPhase i .idle s)) := by
  unfold expireDebounce deactivate
  rw [releasing]

theorem deliverRelease_phase (i : InputNo) (p : Phase) (s : State) :
    (deliverRelease i (setPhase i p s)).inputs[i].phase = p := by
  rw [(deliverRelease_zone i _).inputs (by decide), setPhase_phase]

theorem expireValidation_contact (validate : s.inputs[contactInput n].phase = .validate) :
    expireValidation (contactInput n) s =
      trySettle n (firstGiven (contactInput n) (contactOpened n (setPhase (contactInput n) .on s))) := by
  have delivered : deliverActivation (contactInput n) (setPhase (contactInput n) .on s) =
      contactOpened n (setPhase (contactInput n) .on s) := by
    unfold deliverActivation
    rw [inputRole_contact]
  rw [expireValidation_follow validate (by rw [inputMode, inputRole_contact]),
    noteFirst_contact (by rw [deliverActivation_phase]; rfl), delivered]

theorem expireDebounce_contact (releasing : s.inputs[contactInput n].phase = .debounceOff) :
    expireDebounce (contactInput n) s =
      trySettle n (firstGiven (contactInput n) (contactClosed n (setPhase (contactInput n) .idle s))) := by
  have delivered : deliverRelease (contactInput n) (setPhase (contactInput n) .idle s) =
      contactClosed n (setPhase (contactInput n) .idle s) := by
    unfold deliverRelease
    rw [inputRole_contact]
  rw [expireDebounce_off releasing, noteFirst_contact (by rw [deliverRelease_phase]; rfl), delivered]

/-! ## The passes of an opening -/

/-- The lists after a released door with one pass opens (R73). -/
theorem expireValidation_occupancy {p : Pass} (validate : s.inputs[contactInput n].phase = .validate)
    (released : s.doors[n].state = .released) (one : s.doors[n].passes = [p]) :
    ∃ u, u.occupancy = s.occupancy ∧ u.store = s.store ∧
      (settleGate (expireValidation (contactInput n) s)).occupancy = (applyPass n p u).occupancy := by
  refine ⟨openDoor n (setPhase (contactInput n) .on s), (openDoor_frame n _).occupancy (by decide),
    (openDoor_frame n _).store_eq, ?_⟩
  have passes : openingPasses (setPhase (contactInput n) .on s) n = [p] := by
    unfold openingPasses setPhase
    rw [State.modInput_doors, released]
    exact one
  rw [(settleGate_later _).occupancy, expireValidation_contact validate, (trySettle_zone n _).occupancy (by decide),
    (firstGiven_frame (parts := [.inputs]) (srcs := []) (by decide) _ _).occupancy (by decide)]
  unfold contactOpened
  rw [(reportOpening_zone n _).occupancy (by decide), passes]
  rfl

theorem applyPass_entry {full : Bool} (meets : meetsFull s n ⟨cred, .entry⟩ = full) (y : Zone) :
    (applyPass n ⟨cred, .entry⟩ s).occupancy[y] =
      if inside s n = some y then
        if cred ∈ s.occupancy[y].list then s.occupancy[y] else s.occupancy[y].joined full cred
      else s.occupancy[y].without cred := by
  have written := write_signals .passUsed n.val cred (if full then .listFull else .direction .entry) s
  have applied := applyEntry_occupancy (n := n) (cred := cred)
    (s := write .passUsed n.val cred (if full then .listFull else .direction .entry) s) full y
  have same : inside (write .passUsed n.val cred (if full then .listFull else .direction .entry) s) n = inside s n := by
    unfold inside
    rw [written.store]
  rw [written.occupancy, same] at applied
  unfold applyPass
  rw [meets]
  exact applied

theorem applyPass_exit {full : Bool} (meets : meetsFull s n ⟨cred, .exit⟩ = full) (y : Zone) :
    (applyPass n ⟨cred, .exit⟩ s).occupancy[y] =
      if s.store.doors[n].outside = some y then
        (if inside s n = some y then s.occupancy[y].left cred else s.occupancy[y].without cred).joined full cred
      else if inside s n = some y then s.occupancy[y].left cred else s.occupancy[y].without cred := by
  have written := write_signals .passUsed n.val cred (if full then .listFull else .direction .exit) s
  have applied := applyExit_occupancy (n := n) (cred := cred)
    (s := write .passUsed n.val cred (if full then .listFull else .direction .exit) s) full y
  have same : inside (write .passUsed n.val cred (if full then .listFull else .direction .exit) s) n = inside s n := by
    unfold inside
    rw [written.store]
  rw [leaveZones_occupancy, written.occupancy, written.store, same] at applied
  unfold applyPass
  rw [meets]
  exact applied

/-- An ENTRY pass on sound lists (R122, R123). -/
theorem applyPass_entry_sound (sound : OccupancySound s) (y : Zone) : (applyPass n ⟨cred, .entry⟩ s).occupancy[y] =
    if s.store.doors[n].inside ≠ some y then { s.occupancy[y] with list := s.occupancy[y].list.erase cred }
    else if cred ∈ s.occupancy[y].list then s.occupancy[y]
    else if s.occupancy[y].list.length = 32 then { s.occupancy[y] with certain := false }
    else { s.occupancy[y] with list := s.occupancy[y].list ++ [cred] } := by
  rw [applyPass_entry rfl]
  by_cases toward : s.store.doors[n].inside = some y
  · rw [if_pos (show inside s n = some y from toward), if_neg (Classical.not_not.2 toward)]
    by_cases mem : cred ∈ s.occupancy[y].list
    · rw [if_pos mem, if_pos mem]
    · rw [if_neg mem, if_neg mem]
      have length := (sound.1 y).2
      have full : meetsFull s n ⟨cred, .entry⟩ = decide (s.occupancy[y].list.length = 32) := by
        unfold meetsFull
        dsimp only
        rw [toward]
        dsimp only
        rw [Bool.eq_false_iff.2 fun h => mem (listed_iff.1 h)]
        exact decide_eq_decide.2 (by omega)
      rw [full]
      unfold Occupancy.joined
      by_cases isFull : s.occupancy[y].list.length = 32
      · rw [if_pos isFull, if_pos (decide_eq_true isFull)]
      · rw [if_neg isFull, if_neg (by rw [decide_eq_false isFull]; nofun)]
  · rw [if_neg (show ¬ inside s n = some y from toward), if_pos toward]
    rfl

/-- The room that its last listed credential leaves (R124). -/
theorem Occupancy.left_eq (cred : Nat) (o : Occupancy) :
    o.left cred = if o.list = [cred] then ⟨[], true⟩ else { o with list := o.list.erase cred } := by
  have last : cred ∈ o.list ∧ o.list.erase cred = [] ↔ o.list = [cred] := by
    constructor
    · rintro ⟨mem, empty⟩
      have length := List.length_erase_of_mem mem
      have some_listed := List.length_pos_of_mem mem
      rw [empty, List.length_nil] at length
      obtain ⟨x, only⟩ := List.length_eq_one_iff.1 (show o.list.length = 1 by omega)
      rw [only, List.mem_singleton] at mem
      rw [only, mem]
    · intro only
      rw [only]
      exact ⟨List.mem_singleton_self cred, List.erase_cons_head _ _⟩
  unfold Occupancy.left
  rw [if_of_iff last rfl rfl]
  rfl

/-- An EXIT pass on sound lists, between two sides that differ (R122, R124). -/
theorem applyPass_exit_sound (sound : OccupancySound s)
    (sides : s.store.doors[n].inside ≠ s.store.doors[n].outside ∨ s.store.doors[n].inside = none) (y : Zone) :
    (applyPass n ⟨cred, .exit⟩ s).occupancy[y] =
    if s.store.doors[n].outside = some y then
      if (s.occupancy[y].list.erase cred).length = 32 then ⟨s.occupancy[y].list.erase cred, false⟩
      else { s.occupancy[y] with list := s.occupancy[y].list.erase cred ++ [cred] }
    else if s.store.doors[n].inside = some y ∧ s.occupancy[y].list = [cred] then ⟨[], true⟩
    else { s.occupancy[y] with list := s.occupancy[y].list.erase cred } := by
  rw [applyPass_exit rfl]
  by_cases toward : s.store.doors[n].outside = some y
  · have apart : ¬ inside s n = some y := fun same =>
      sides.elim (fun differ => differ (same.trans toward.symm)) fun none_inside => by
        rw [inside, none_inside] at same
        cases same
    rw [if_pos toward, if_pos toward, if_neg apart]
    have length := (sound.1 y).2
    have shorter : (s.occupancy[y].list.erase cred).length ≤ s.occupancy[y].list.length := List.length_erase_le
    have full : meetsFull s n ⟨cred, .exit⟩ = decide ((s.occupancy[y].list.erase cred).length = 32) := by
      unfold meetsFull
      dsimp only
      rw [toward]
      exact decide_eq_decide.2 (by omega)
    rw [full]
    unfold Occupancy.joined Occupancy.without
    by_cases isFull : (s.occupancy[y].list.erase cred).length = 32
    · rw [if_pos isFull, if_pos (decide_eq_true isFull)]
    · rw [if_neg isFull, if_neg (by rw [decide_eq_false isFull]; nofun)]
  · rw [if_neg toward, if_neg toward]
    by_cases within : s.store.doors[n].inside = some y
    · rw [if_pos (show inside s n = some y from within), Occupancy.left_eq]
      exact if_of_iff (and_iff_right within).symm rfl rfl
    · rw [if_neg (show ¬ inside s n = some y from within), if_neg fun h => within h.1]
      rfl

end Sys2Proof.Machine

namespace Sys2Proof.Proofs
open Sys2Proof.Machine

/-- Settles O41: of the opening only the pass it applies changes the lists. -/
theorem openingAppliesThePass : Obligations.OpeningAppliesThePass := by
  intro s n cred validate released sound sides
  have frame := (expireValidation_frame (contactInput n) s).settleGate_input
  refine ⟨fun one => ⟨_, rfl, frame, fun z => ?_⟩, fun one => ⟨_, rfl, frame, fun z => ?_⟩⟩
  · obtain ⟨u, same, settings, after⟩ := expireValidation_occupancy validate released one
    have soundU : OccupancySound u := by
      unfold OccupancySound
      rwa [same]
    rw [after, applyPass_entry_sound soundU, same, settings]
  · obtain ⟨u, same, settings, after⟩ := expireValidation_occupancy validate released one
    have soundU : OccupancySound u := by
      unfold OccupancySound
      rwa [same]
    rw [after, applyPass_exit_sound soundU (by rwa [settings]), same, settings]

end Sys2Proof.Proofs
end

section
/-! What a journal write and a change of a source leave behind (R143, R149, R150, R162, R183). -/

namespace Sys2Proof.Machine

/-! ## Where a written record stands -/

/-- The record stands in the ring with at most `k` behind it; the record of a run's end, which may still come, is counted. -/
def Stands (r : Record) (k : Nat) (s : State) : Prop :=
  ∃ before after : List Record, s.journal.ring = before ++ r :: after ∧
    after.length + (if s.line.run.state = .running then 1 else 0) ≤ k

section
variable {r : Record} {k : Nat} {s : State}

theorem Stands.mem (h : Stands r k s) : r ∈ s.journal.ring := by
  obtain ⟨before, after, ring, _⟩ := h
  rw [ring]
  exact List.mem_append_right _ List.mem_cons_self

theorem Stands.of_same {t : State} (h : Stands r k s) (journal : t.journal = s.journal) (run : t.line.run = s.line.run) :
    Stands r k t := by
  unfold Stands
  rwa [journal, run]

theorem stands_lamp : LampClosed (Stands r k) where
  output _ h := h
  alarm _ _ h := h

/-- A record more: a full ring loses its oldest, which is not this one. -/
theorem Stands.push (h : Stands r k s) (few : k < 1023) (j : RecordKind) (a b : Nat) (d : Detail) :
    Stands r (k + 1) (pushRecord j a b d s) := by
  obtain ⟨before, after, ring, behind⟩ := h
  unfold pushRecord
  split
  · have fits : (if s.journal.ring.length < 1024 then 0 else 1) ≤ before.length := by
      have total := congrArg List.length ring
      rw [List.length_append, List.length_cons] at total
      split <;> omega
    refine ⟨before.drop (if s.journal.ring.length < 1024 then 0 else 1), after ++ [nextRecord s j a b d], ?_, ?_⟩
    · change ringPush s.journal.ring _ = _
      rw [ringPush_eq]
      generalize (if s.journal.ring.length < 1024 then 0 else 1) = lost at fits ⊢
      rw [ring, List.drop_append_of_le_length fits, List.append_assoc]
      rfl
    · rw [List.length_append, List.length_singleton]
      dsimp only
      omega
  · exact ⟨before, after, ring, Nat.le_succ_of_le behind⟩

/-- The record of a run's end has been counted before. -/
theorem Stands.endRun (h : Stands r k s) (few : k ≤ 1023) (running : s.line.run.state = .running) :
    Stands r k (endRun s) := by
  obtain ⟨before, after, ring, behind⟩ := h
  rw [if_pos running] at behind
  have ended : Stands r (k - 1) (s.modRun fun run => { run with state := .done }) :=
    ⟨before, after, ring, Nat.le_sub_of_add_le behind⟩
  have pushed := ended.push (by omega) .lineResult 0 0 .lineDone
  rw [Nat.sub_add_cancel (by omega)] at pushed
  exact stands_lamp.setConditionWith (fun _ h => h) _ _ pushed

theorem Stands.passTurn (few : k ≤ 1023) : ∀ (l : List CircuitNo) {s : State}, Stands r k s →
    s.line.run.state = .running → Stands r k (passTurn l s)
  | [], _, h, running => h.endRun few running
  | c :: l, s, h, running => by
    have marked (x : CircuitResult) : Stands r k (setResult c x s) := h
    unfold Machine.passTurn
    split
    · split
      · exact Stands.passTurn few l (marked _) running
      · split
        · exact Stands.passTurn few l (marked _) running
        · exact marked _
    · exact Stands.passTurn few l h running

theorem Stands.abandonCheck (few : k ≤ 1023) (c : CircuitNo) (h : Stands r k s) : Stands r k (abandonCheck c s) := by
  unfold Machine.abandonCheck
  split
  · next progress => exact Stands.passTurn few _ (s := setResult c .skippedOn s) h (checking_iff.1 progress).1
  · exact h

theorem Stands.setCondition (few : k ≤ 1023) (src : Source) (b : Bool) (h : Stands r k s) :
    Stands r k (setCondition src b s) :=
  stands_lamp.setConditionWith (fun c h => h.abandonCheck few c) src b h

/-- A write's own record, with one more to come at the most. -/
theorem write_stands (room : s.journal.newest < 4294967295) (j : RecordKind) (a b : Nat) (d : Detail) :
    Stands (nextRecord s j a b d) 1 (write j a b d s) := by
  have pushed : Stands (nextRecord s j a b d) 1 (pushRecord j a b d s) := by
    refine ⟨s.journal.ring.drop (if s.journal.ring.length < 1024 then 0 else 1), [], ?_, ?_⟩
    · unfold pushRecord
      rw [if_pos room]
      exact ringPush_eq _ _
    · rw [List.length_nil]
      split <;> omega
  exact pushed.setCondition (by omega) _ _

theorem write_newest (room : s.journal.newest < 4294967295) (j : RecordKind) (a b : Nat) (d : Detail) :
    s.journal.newest < (write j a b d s).journal.newest := by
  have pushed : (pushRecord j a b d s).journal.newest = s.journal.newest + 1 := by
    unfold pushRecord
    rw [if_pos room]
  have later := (setCondition_affects Source.backlog (decide (896 ≤ backlog (pushRecord j a b d s)))
    (pushRecord j a b d s)).newest
  rw [pushed] at later
  exact later

end

/-- At the last sequence the journal takes nothing (R183). -/
theorem fullJournal_closed (journal : Journal) (full : journal.newest = 4294967295) :
    LineClosed fun s => s.journal = journal where
  push k a b d h := by
    unfold pushRecord
    split
    · next room =>
      rw [h, full] at room
      exact absurd room (Nat.lt_irrefl _)
    · exact h
  output _ h := h
  alarm _ _ h := h
  line h := h

/-! ## What a change of a source does to silence and suppression (R143, R162) -/

/-- The outputs that list the source are not silenced. -/
def Loud (outputs : Vector OutputSettings 8) (src : Source) (s : State) : Prop :=
  s.store.outputs = outputs ∧ ∀ o : OutputNo, src ∈ outputs[o].sources → s.outputs[o].silenced = false

/-- The attention line is not suppressed. -/
def Lifted (s : State) : Prop := s.alarm.suppressed = false

section
variable {outputs : Vector OutputSettings 8} {src : Source}

theorem loud_closed : LineClosed (Loud outputs src) where
  push k a b d h := by
    unfold pushRecord
    split <;> exact h
  output {s p f} quieter h := ⟨h.1, fun o listed => by
    rw [State.modOutput_outputs, upd_get]
    split
    · next same =>
      subst same
      exact Bool.eq_false_iff.2 fun silenced => Bool.eq_false_iff.1 (h.2 p listed) (quieter _ silenced)
    · exact h.2 o listed⟩
  alarm _ _ h := h
  line h := h

theorem lifted_closed : LineClosed Lifted where
  push k a b d h := by
    unfold pushRecord
    split <;> exact h
  output _ h := h
  alarm {s f} _ lit h := Bool.eq_false_iff.2 fun suppressed => Bool.eq_false_iff.1 h (lit _ suppressed)
  line h := h

variable {s : State}

theorem forEach_silenced_of_mem (f : OutputNo → State → State)
    (hf : ∀ o u, f o u = u.modOutput o fun v => { v with silenced := false }) {o : OutputNo} :
    ∀ (l : List OutputNo) (u : State), (o ∈ l ∨ u.outputs[o].silenced = false) → (forEach l f u).outputs[o].silenced = false
  | [], _, h => h.resolve_left List.not_mem_nil
  | p :: l, u, h => by
    refine forEach_silenced_of_mem f hf l (f p u) ?_
    rw [hf, State.modOutput_outputs, upd_get]
    split
    · exact .inr rfl
    · next other => exact h.imp (fun mem => (List.mem_cons.1 mem).resolve_left (Ne.symm other)) id

theorem clearSilence_loud (src : Source) (s : State) : Loud s.store.outputs src (clearSilence src s) :=
  ⟨by rw [clearSilence_store], fun _ listed =>
    forEach_silenced_of_mem _ (fun _ _ => rfl) _ s (.inl (mem_outputsListing.2 listed))⟩

/-- A flag that rises clears the silence of its outputs (R143). -/
theorem setPending_loud (rises : s.alarm.pending[src] = false) : Loud s.store.outputs src (setPending src true s) := by
  unfold setPending setPendingWith
  rw [rises, if_neg Bool.false_ne_true]
  refine loud_closed.react.deliver src ?_
  have loud := clearSilence_loud src (s.modAlarm fun a => { a with pending := upd a.pending src fun _ => true })
  rw [if_pos rfl]
  split
  · exact loud
  · exact loud

/-- A flag that rises, of a source that is then eligible, lifts the suppression (R162). -/
theorem setPending_lifted (rises : s.alarm.pending[src] = false)
    (calls : eligible (s.modAlarm fun a => { a with pending := upd a.pending src fun _ => true }) src = true) :
    Lifted (setPending src true s) := by
  have before : eligible s src = false := by
    unfold eligible
    rw [rises, Bool.and_false, Bool.false_and]
  unfold setPending setPendingWith
  rw [rises, if_neg Bool.false_ne_true]
  dsimp only
  rw [calls, before, Bool.not_false, Bool.and_self, if_pos rfl]
  exact lifted_closed.react.deliver src (s := State.modAlarm _ _) rfl

theorem eligible_congr {t : State} (sources : t.store.sources = s.store.sources) (threshold : t.store.threshold = s.store.threshold)
    (inService : t.alarm.inService = s.alarm.inService) (pending : t.alarm.pending[src] = s.alarm.pending[src]) :
    eligible t src = eligible s src := by
  unfold eligible notificationLevel priority
  rw [sources, threshold, inService, pending]

/-- After a flag has risen its source is as eligible as the flag makes it. -/
theorem setPending_eligible (owned : src ≠ Source.backlog) : eligible (setPending src true s) src =
    eligible (s.modAlarm fun a => { a with pending := upd a.pending src fun _ => true }) src := by
  have flags := setPending_keepsFlags src true s
  have store := (setPending_signals src true s).store
  exact eligible_congr (by rw [store]; rfl) (by rw [store]; rfl) flags.inService (flags.pending src (.inl owned))

theorem edge_ne_backlog (kind : Source.kind src = .edge) : src ≠ Source.backlog := fun same => by
  rw [same] at kind
  cases kind

theorem setPending_same (b : Bool) (same : s.alarm.pending[src] = b) : setPending src b s = s := if_pos same

theorem setCondition_same (b : Bool) (same : s.alarm.condition[src] = b) : setCondition src b s = s := if_pos same

/-- The state in which a condition has been recorded and delivered, and its pending flag is still to follow. -/
def conditioned (src : Source) (b : Bool) (s : State) : State :=
  deliver src (s.modAlarm fun a => { a with condition := upd a.condition src fun _ => b })

theorem conditioned_flags (owned : src ≠ Source.backlog) (b : Bool) (s : State) :
    (conditioned src b s).alarm.inService = s.alarm.inService ∧
    (conditioned src b s).alarm.pending[src] = s.alarm.pending[src] ∧ (conditioned src b s).alarm.condition[src] = b ∧
    (conditioned src b s).store = s.store :=
  have flags := deliver_keepsFlags src (s.modAlarm fun a => { a with condition := upd a.condition src fun _ => b })
  ⟨flags.inService, flags.pending src (.inl owned), (flags.condition src owned).trans (upd_same _ _ _),
    (deliver_signals src _).store⟩

/-- A condition that changes: in service the pending flag stays, else it follows (R150). -/
theorem setCondition_served (owned : src ≠ Source.backlog) {b : Bool} (changes : s.alarm.condition[src] ≠ b)
    (served : src ∈ s.alarm.inService) : setCondition src b s = conditioned src b s := by
  obtain ⟨inService, _⟩ := conditioned_flags owned b s
  have inList : (conditioned src b s).alarm.inService.contains src = true := by
    rw [inService]
    exact List.contains_iff_mem.2 served
  exact (if_neg changes).trans (if_pos inList)

theorem setCondition_unserved (owned : src ≠ Source.backlog) {b : Bool} (changes : s.alarm.condition[src] ≠ b)
    (unserved : src ∉ s.alarm.inService) : setCondition src b s = setPending src b (conditioned src b s) := by
  obtain ⟨inService, _, condition, _⟩ := conditioned_flags owned b s
  have notInList : ¬ (conditioned src b s).alarm.inService.contains src = true := by
    rw [inService]
    exact fun mem => unserved (List.contains_iff_mem.1 mem)
  calc setCondition src b s
    _ = setPending src (conditioned src b s).alarm.condition[src] (conditioned src b s) :=
      (if_neg changes).trans (if_neg notInList)
    _ = setPending src b (conditioned src b s) := by rw [condition]

theorem setCondition_pending_served (owned : src ≠ Source.backlog) (b : Bool) (served : src ∈ s.alarm.inService) :
    (setCondition src b s).alarm.pending[src] = s.alarm.pending[src] := by
  by_cases same : s.alarm.condition[src] = b
  · rw [setCondition_same b same]
  · rw [setCondition_served owned same served]
    obtain ⟨_, pending, _⟩ := conditioned_flags owned b s
    exact pending

theorem setCondition_pending_unserved (owned : src ≠ Source.backlog) (b : Bool) (unserved : src ∉ s.alarm.inService)
    (follows : s.alarm.pending[src] = s.alarm.condition[src]) : (setCondition src b s).alarm.pending[src] = b := by
  by_cases same : s.alarm.condition[src] = b
  · rw [setCondition_same b same, follows, same]
  · rw [setCondition_unserved owned same unserved]
    exact setPending_pending b (.inl owned)

end

end Sys2Proof.Machine

namespace Sys2Proof.Proofs

open Sys2Proof.Machine

/-- Settles O45: behind a written record at most one more is pushed, that of a run which the write ends; a flag that rises
clears the silence and lifts the suppression before it is delivered, and no delivery brings either back. -/
theorem recordsAndSourcesAct : Obligations.RecordsAndSourcesAct := by
  refine ⟨fun s kind subject cred detail => ?_, fun s src b => ⟨fun edge => ?_, fun _ owned => ?_⟩⟩
  · exact ⟨fun room => ⟨(write_stands room kind subject cred detail).mem, write_newest room _ _ _ _⟩,
      fun full => (fullJournal_closed s.journal full).react.write _ _ _ _ rfl, write_affects [] _ _ _ _ s⟩
  · have owned := edge_ne_backlog edge
    refine ⟨setPending_pending true (.inl owned), fun raised => setPending_same true raised, fun rises => ?_,
      fun rises calls => ?_, edgeEvent_affects src s⟩
    · exact (setPending_loud rises).2
    · exact setPending_lifted rises ((setPending_eligible owned).symm.trans calls)
  · refine ⟨setCondition_condition b s owned, setCondition_pending_served owned b,
      setCondition_pending_unserved owned b, fun absent unserved quiet => ?_, setCondition_same b,
      setCondition_affects src b s⟩
    obtain ⟨_, pending, _, store⟩ := conditioned_flags owned true s
    have changes : s.alarm.condition[src] ≠ true := absent ▸ Bool.false_ne_true
    rw [setCondition_unserved owned changes unserved]
    have rises := pending.trans quiet
    refine ⟨?_, fun calls => setPending_lifted rises ((setPending_eligible owned).symm.trans calls)⟩
    have loud := (setPending_loud rises).2
    rwa [store] at loud

end Sys2Proof.Proofs
end

section
/-! SILENCE (R142). -/

namespace Sys2Proof.Machine

section
variable {s : State} {o p : OutputNo}

/-- A silenced output goes out. -/
theorem refreshOutput_silent (silent : s.outputs[o].silenced = true) :
    refreshOutput o s = s.modOutput o fun _ => ⟨true, false⟩ := by
  have off : outputOn s o = false := by
    unfold outputOn
    rw [silent, Bool.not_true, Bool.and_false]
  unfold refreshOutput refreshOutputWith State.modOutput
  rw [off]
  split
  · next same =>
    rw [upd_eq_self (f := fun _ => (⟨true, false⟩ : Output))]
    rw [← silent, same]
  · rw [if_neg Bool.false_ne_true, upd_congr (g := fun _ => (⟨true, false⟩ : Output))]
    rw [silent]

theorem silenceOutput_eq : silenceOutput o s =
    if s.store.outputs[o].silenceable then writeConfig o.val .silence (s.modOutput o fun _ => ⟨true, false⟩) else s := by
  unfold silenceOutput
  have silenced : (s.modOutput o fun v => { v with silenced := true }).outputs[o].silenced = true := by
    rw [State.modOutput_outputs, upd_same]
  rw [refreshOutput_silent silenced]
  unfold State.modOutput
  dsimp only
  rw [upd_upd]

theorem write_keepsFlags (k : RecordKind) (a b : Nat) (d : Detail) (s : State) : KeepsFlags s (write k a b d s) :=
  (pushRecord_keepsFlags k a b d s).trans (setConditionWith_backlog_keepsFlags abandonCheck_keepsFlags _ _)

theorem silenceOutput_keepsFlags (o : OutputNo) (s : State) : KeepsFlags s (silenceOutput o s) := by
  rw [silenceOutput_eq]
  split
  · exact (modOutput_keepsFlags o _ s).trans (write_keepsFlags _ _ _ _ _)
  · exact KeepsFlags.refl s

theorem silenceOutput_signals (o : OutputNo) (s : State) : Signals s (silenceOutput o s) := by
  rw [silenceOutput_eq]
  split
  · exact Signals.trans (t := s.modOutput o fun _ => ⟨true, false⟩) (by constructor <;> rfl) (writeConfig_signals _ _ _)
  · exact Signals.refl s

theorem silenceOutput_outputs (calm : Source.backlog ∉ s.store.outputs[p].sources) : (silenceOutput o s).outputs[p] =
    if o = p ∧ s.store.outputs[p].silenceable = true then ⟨true, false⟩ else s.outputs[p] := by
  rw [silenceOutput_eq]
  split
  · next silenceable =>
    have written := (writeConfig_affects [] o.val .silence (s.modOutput o fun _ => ⟨true, false⟩)).outputSame p
      fun src listed => ⟨List.not_mem_nil, fun same => calm (same ▸ listed)⟩
    rw [written, State.modOutput_outputs, upd_get]
    split
    · next same =>
      subst same
      rw [if_pos ⟨rfl, silenceable⟩]
    · next other => rw [if_neg fun both => other both.1]
  · next plain => exact (if_neg fun ⟨same, silenceable⟩ => plain (same ▸ silenceable)).symm

/-- Of the outputs chosen the silenceable ones are silenced and go out, the others are left. -/
theorem forEach_silenceOutput_outputs : ∀ (l : List OutputNo) {s : State}, Source.backlog ∉ s.store.outputs[p].sources →
    (forEach l silenceOutput s).outputs[p] =
      if p ∈ l ∧ s.store.outputs[p].silenceable = true then ⟨true, false⟩ else s.outputs[p]
  | [], _, _ => (if_neg fun both => List.not_mem_nil both.1).symm
  | o :: l, s, calm => by
    have store := (silenceOutput_signals o s).store
    rw [forEach_cons, forEach_silenceOutput_outputs l (by rwa [store]), silenceOutput_outputs calm, store]
    simp only [List.mem_cons]
    by_cases silenceable : s.store.outputs[p].silenceable = true
    · by_cases later : p ∈ l
      · simp only [later, silenceable, or_true, and_self, if_true]
      · simp only [later, silenceable, or_false, and_true, eq_comm, if_false]
    · simp only [silenceable, Bool.false_eq_true, and_false, if_false]

theorem forEach_silenceOutput_signals (l : List OutputNo) (s : State) : Signals s (forEach l silenceOutput s) :=
  forEach_rel Signals.refl (fun _ _ _ => Signals.trans) _ l s fun o _ u => silenceOutput_signals o u

end

/-- The outputs that a selection names. -/
abbrev chosenOutputs (selection : Nat) : List OutputNo := allOutputs.filter fun o => selected selection o

theorem mem_chosenOutputs {selection : Nat} {o : OutputNo} : o ∈ chosenOutputs selection ↔ selection.testBit o.val = true := by
  rw [chosenOutputs, List.mem_filter]
  exact and_iff_right (List.mem_finRange o)

theorem selectionOk_iff {n selection : Nat} : selectionOk n selection = true ↔ selection ≠ 0 ∧ selection < 2 ^ n :=
  decide_eq_true_iff

theorem selection_bad {n selection : Nat} (bad : selection = 0 ∨ 2 ^ n ≤ selection) : selectionOk n selection = false :=
  decide_eq_false fun ⟨named, few⟩ => bad.elim named (Nat.not_le_of_lt few)

theorem silence_eq {selection : Nat} {s : State} (ok : selection ≠ 0 ∧ selection < 2 ^ 8) : silence selection s =
    reply 0x5C (if ∀ o : OutputNo, selection.testBit o.val = true → s.store.outputs[o].silenceable = true then .ok else .state)
      .empty (forEach (chosenOutputs selection) silenceOutput s) := by
  have all : ((chosenOutputs selection).all fun o => s.store.outputs[o].silenceable) = true ↔
      ∀ o : OutputNo, selection.testBit o.val = true → s.store.outputs[o].silenceable = true := by
    rw [List.all_eq_true]
    exact forall_congr' fun o => by rw [mem_chosenOutputs]
  unfold silence
  rw [selectionOk_iff.2 ok, Bool.not_true, if_neg Bool.false_ne_true]
  change reply 0x5C (if ((chosenOutputs selection).all fun o => s.store.outputs[o].silenceable) = true then _ else _) _ _ = _
  simp only [all]

end Sys2Proof.Machine

namespace Sys2Proof.Proofs

open Sys2Proof.Machine

/-- Settles O44: a silenced output goes out whatever calls for it, and its record can relight only what lists the backlog. -/
theorem silenceQuietsSilenceableOutputs : Obligations.SilenceQuietsSilenceableOutputs := by
  refine fun s selection => ⟨fun ok => ⟨_, congrArg Host.Outcome.next (silence_eq ok), ?_⟩, fun bad => ?_⟩
  · have signals := forEach_silenceOutput_signals (chosenOutputs selection) s
    have flags := forEach_keepsFlags silenceOutput silenceOutput_keepsFlags (chosenOutputs selection) s
    have outputs {p : OutputNo} := forEach_silenceOutput_outputs (p := p) (chosenOutputs selection) (s := s)
    generalize forEach (chosenOutputs selection) silenceOutput s = u at signals flags outputs ⊢
    refine ⟨?_, fun src owned => ⟨flags.pending src (.inl owned), flags.condition src owned⟩, fun o calm => ?_,
      fun o chosen silenceable calm => ?_, flags.inService, ?_⟩
    · exact { signals with link := rfl }
    · change u.outputs[o].silenced = _
      rw [outputs calm]
      split
      · next both =>
        obtain ⟨chosen, silenceable⟩ := both
        rw [mem_chosenOutputs.1 chosen, silenceable, Bool.and_self, Bool.or_true]
      · next left =>
        have kept : (selection.testBit o.val && s.store.outputs[o].silenceable) = false := Bool.eq_false_iff.2 fun both =>
          left ((Bool.and_eq_true_iff.1 both).imp mem_chosenOutputs.2 id)
        rw [kept, Bool.or_false]
    · change u.outputs[o].on = false
      rw [outputs calm, if_pos ⟨mem_chosenOutputs.2 chosen, silenceable⟩]
    · exact replied_reply signals.link 0x5C _ _
  · refine congrArg Host.Outcome.next ?_
    unfold silence
    rw [selection_bad bad]
    rfl

end Sys2Proof.Proofs
end

section
/-! Custody windows that close, and periods that are derived again (R104, R106, R121). -/

namespace Sys2Proof.Machine

/-! ## A fold that works each entry by itself -/

/-- Where only the visit of `a` bears on what `get` reads, and a second visit changes nothing, the fold does to it what one
visit does. -/
theorem forEach_entry {α β : Type} [DecidableEq α] {f : α → State → State} {get : State → β} {a : α} {g : β → β}
    (others : ∀ b s, b ≠ a → get (f b s) = get s) (own : ∀ s, get (f a s) = g (get s)) (again : ∀ x, g (g x) = g x) :
    ∀ (l : List α) (s : State), get (forEach l f s) = if a ∈ l then g (get s) else get s
  | [], _ => (if_neg List.not_mem_nil).symm
  | b :: l, s => by
    rw [forEach_cons, forEach_entry others own again l (f b s)]
    simp only [List.mem_cons]
    by_cases here : b = a
    · subst here
      rw [own, again, ite_self, if_pos (.inl rfl)]
    · rw [others b s here]
      simp only [Ne.symm here, false_or]

/-! ## Custody windows (R121) -/

section
variable {s : State} {n m : DoorNo} {z y : Zone}

theorem closeCustody_parts (n : DoorNo) (s : State) : Frame [.custody] [] s (closeCustody n s) := by
  unfold closeCustody
  split
  · exact (setCustody_frame (by decide) n none s).trans (Frame.write _ _ _ _ _)
  · exact Frame.refl s

theorem closeCustody_custody (n : DoorNo) (s : State) : (closeCustody n s).custody = upd s.custody n fun _ => none := by
  unfold closeCustody
  split
  · exact (write_signals _ _ _ _ _).custody
  · next closed => exact (upd_eq_self closed.symm).symm

theorem closeCustody_own (n : DoorNo) (s : State) : (closeCustody n s).custody[n] = none := by
  rw [closeCustody_custody, upd_same]

theorem closeCustody_other (other : m ≠ n) (s : State) : (closeCustody m s).custody[n] = s.custody[n] := by
  rw [closeCustody_custody, upd_other _ _ _ _ other]

/-- What closing a zone's windows leaves of one window. -/
def windowAfter (closes : Bool) (z : Zone) (w : Option CustodyWindow) : Option CustodyWindow :=
  if closes && w.any (fun w => decide (w.zone = z)) then none else w

theorem closeZoneWindows_parts (which : DoorNo → Bool) (z : Zone) (s : State) :
    Frame [.custody] [] s (closeZoneWindows which z s) :=
  forEach_rel Frame.refl (fun _ _ _ => Frame.trans) _ _ s fun n _ u => by
    split
    · exact closeCustody_parts n u
    · exact Frame.refl u

theorem closeZoneWindows_custody (which : DoorNo → Bool) (z : Zone) (s : State) (n : DoorNo) :
    (closeZoneWindows which z s).custody[n] = windowAfter (which n) z s.custody[n] := by
  unfold closeZoneWindows
  refine (forEach_entry (get := fun u => u.custody[n]) (g := windowAfter (which n) z) (fun m u other => ?_) (fun u => ?_)
    (fun w => ?_) allDoors s).trans (if_pos (List.mem_finRange n))
  · split
    · exact closeCustody_other other u
    · rfl
  · unfold windowAfter
    split
    · exact closeCustody_own n u
    · rfl
  · unfold windowAfter
    split
    · exact ite_self _
    · rfl

/-! ## A zone's period (R106) -/

theorem scheduleActive_congr {t : State} (store : t.store = s.store) (clock : t.clock = s.clock) (k : ScheduleNo) :
    scheduleActive t k = scheduleActive s k := by
  unfold scheduleActive effectiveDay
  rw [store, clock]

theorem derivedPeriod_congr {t : State} (store : t.store = s.store) (clock : t.clock = s.clock) (z : Zone) :
    derivedPeriod t z = derivedPeriod s z := by
  unfold derivedPeriod
  rw [store, scheduleActive_congr store clock]

/-- The parts that a change of a zone's period sets going. -/
abbrev PeriodFrame (s t : State) : Prop := Frame periodParts [] s t

theorem setPeriod_frame (z : Zone) (p : Period) (s : State) : PeriodFrame s (s.setPeriod z p) :=
  { Frame.refl s with period := fun no => absurd (by decide) no }

theorem rePeriod_frame (z : Zone) (s : State) : PeriodFrame s (rePeriod z s) := by
  unfold rePeriod
  dsimp only
  split
  · exact Frame.refl s
  · refine Frame.trans (t := s.setPeriod z (derivedPeriod s z)) (setPeriod_frame z _ s) (Frame.trans ?_ ((reLone_parts z _).mono (by decide) fun _ h => h))
    split
    · exact (closeZoneWindows_parts _ z _).mono (by decide) fun _ h => h
    · exact Frame.refl _

theorem PeriodFrame.store_eq {t : State} (h : PeriodFrame s t) : t.store = s.store :=
  Frame.store_eq h (by decide) (by decide)

theorem PeriodFrame.derived {t : State} (h : PeriodFrame s t) (z : Zone) : derivedPeriod t z = derivedPeriod s z :=
  derivedPeriod_congr h.store_eq (h.clock (by decide)) z

theorem rePeriod_period (z : Zone) (s : State) :
    (rePeriod z s).period = upd s.period z fun _ => derivedPeriod s z := by
  unfold rePeriod
  dsimp only
  split
  · next same => exact (upd_eq_self same.symm).symm
  · rw [(reLone_parts z _).period (by decide)]
    split
    · exact (closeZoneWindows_parts _ z _).period (by decide)
    · rfl

/-- Where the period stays, nothing is done (R106). -/
theorem rePeriod_same (same : s.period[z] = derivedPeriod s z) : rePeriod z s = s := if_pos same

/-- A changed period closes windows of its own zone alone. -/
theorem rePeriod_custody (z : Zone) (s : State) (n : DoorNo) : (rePeriod z s).custody[n] = s.custody[n] ∨
    (s.period[z] ≠ derivedPeriod s z ∧ s.custody[n].map CustodyWindow.zone = some z ∧ (rePeriod z s).custody[n] = none) := by
  by_cases same : s.period[z] = derivedPeriod s z
  · rw [rePeriod_same same]
    exact .inl rfl
  · have lone (u : State) : (reLone z u).custody = u.custody := (reLone_parts z u).custody (by decide)
    have eq : (rePeriod z s).custody = (if derivedPeriod s z = .day then dayBegins z (s.setPeriod z (derivedPeriod s z))
        else s.setPeriod z (derivedPeriod s z)).custody := by
      unfold rePeriod
      rw [if_neg same]
      exact lone _
    rw [eq]
    split
    · unfold dayBegins
      rw [closeZoneWindows_custody]
      unfold windowAfter
      split
      · next closes =>
        refine .inr ⟨same, ?_, rfl⟩
        have ofZone := (Bool.and_eq_true_iff.1 closes).2
        change Option.any _ s.custody[n] = true at ofZone
        cases held : s.custody[n] with
        | none =>
          rw [held] at ofZone
          cases ofZone
        | some w =>
          rw [held] at ofZone
          exact congrArg some (of_decide_eq_true ofZone)
      · exact .inl rfl
    · exact .inl rfl

/-- The lone condition is looked at again in a zone whose period changes (R134). -/
theorem rePeriod_lone (z : Zone) (s : State) (other : y ≠ z ∨ s.period[z] = derivedPeriod s z) :
    (rePeriod z s).loneTimer[y] = s.loneTimer[y] := by
  by_cases same : s.period[z] = derivedPeriod s z
  · rw [rePeriod_same same]
  · have apart : y ≠ z := other.resolve_right same
    have lone (u : State) : (reLone z u).loneTimer[y] = u.loneTimer[y] := by
      unfold reLone
      split
      · split
        · rfl
        · exact upd_other _ _ _ _ (Ne.symm apart)
      · unfold stopLone
        split
        · exact upd_other _ _ _ _ (Ne.symm apart)
        · rfl
    unfold rePeriod
    rw [if_neg same]
    refine (lone _).trans ?_
    split
    · have kept := (closeZoneWindows_parts (fun n => decide (s.store.doors[n].custody = .afterHours)) z
        (s.setPeriod z (derivedPeriod s z))).loneTimer (by decide)
      exact congrArg (fun v : Vector (Option Nat) 4 => v[y]) kept
    · rfl

/-! ## All periods (R104) -/

theorem rePeriods_frame (s : State) : PeriodFrame s (rePeriods s) :=
  forEach_rel Frame.refl (fun _ _ _ => Frame.trans) _ _ s fun z _ u => rePeriod_frame z u

/-- What re-deriving the periods of some zones makes of the state. -/
structure Rederived (zones : List Zone) (s t : State) : Prop where
  frame : PeriodFrame s t
  period : ∀ z : Zone, t.period[z] = if z ∈ zones then derivedPeriod s z else s.period[z]
  closed : ∀ n : DoorNo, s.custody[n] = none → t.custody[n] = none
  kept : ∀ (n : DoorNo) (w : CustodyWindow), s.custody[n] = some w → t.period[w.zone] = s.period[w.zone] →
    t.custody[n] = some w
  lone : ∀ z : Zone, t.period[z] = s.period[z] → t.loneTimer[z] = s.loneTimer[z]

theorem rePeriod_rederived (z : Zone) (s : State) : Rederived [z] s (rePeriod z s) where
  frame := rePeriod_frame z s
  period y := by
    rw [rePeriod_period, upd_get]
    simp only [List.mem_singleton, eq_comm]
    split
    · next same => rw [same]
    · rfl
  closed n none_open := by
    rcases rePeriod_custody z s n with same | ⟨_, _, closes⟩
    · rw [same, none_open]
    · exact closes
  kept n w held same := by
    rcases rePeriod_custody z s n with stays | ⟨changes, ofZone, _⟩
    · rw [stays, held]
    · rw [held] at ofZone
      have zone : w.zone = z := Option.some.inj ofZone
      subst zone
      rw [rePeriod_period, upd_same] at same
      exact absurd same.symm changes
  lone y same := by
    refine rePeriod_lone z s ?_
    by_cases here : y = z
    · subst here
      rw [rePeriod_period, upd_same] at same
      exact .inr same.symm
    · exact .inl here

theorem Rederived.cons {zones : List Zone} {t u : State} (absent : z ∉ zones) (h : Rederived [z] s t)
    (rest : Rederived zones t u) : Rederived (z :: zones) s u := by
  have once (y : Zone) (same : u.period[y] = s.period[y]) : t.period[y] = s.period[y] := by
    by_cases here : y = z
    · subst here
      have stays := rest.period y
      rw [if_neg absent] at stays
      exact stays.symm.trans same
    · rw [h.period y, if_neg (by rwa [List.mem_singleton])]
  refine ⟨h.frame.trans rest.frame, fun y => ?_, fun n none_open => rest.closed n (h.closed n none_open),
    fun n w held same => rest.kept n w (h.kept n w held (once _ same)) (same.trans (once _ same).symm),
    fun y same => (rest.lone y (same.trans (once y same).symm)).trans (h.lone y (once y same))⟩
  have atY := rest.period y
  rw [h.frame.derived, h.period y] at atY
  rw [atY]
  simp only [List.mem_cons, List.not_mem_nil, or_false]
  by_cases here : y = z
  · subst here
    simp only [absent, true_or, if_true, if_false]
  · simp only [here, false_or, if_false]

theorem forEach_rePeriod : ∀ (l : List Zone) (s : State), l.Nodup → Rederived l s (forEach l rePeriod s)
  | [], s, _ => ⟨Frame.refl s, fun _ => (if_neg List.not_mem_nil).symm, fun _ h => h, fun _ _ h _ => h, fun _ _ => rfl⟩
  | z :: l, s, nodup => by
    obtain ⟨absent, nodup⟩ := List.nodup_cons.1 nodup
    exact (rePeriod_rederived z s).cons absent (forEach_rePeriod l (rePeriod z s) nodup)

theorem rePeriods_rederived (s : State) : Rederived allZones s (rePeriods s) :=
  forEach_rePeriod allZones s (List.nodup_finRange 4)

/-- Re-derived, every zone has the period that its mode and its opening schedule give. -/
theorem Rederived.derived {t : State} (h : Rederived allZones s t) (z : Zone) : t.period[z] = derivedPeriod t z := by
  rw [h.period z, h.frame.derived]
  exact if_pos (List.mem_finRange z)

end

end Sys2Proof.Machine
end

section
/-! The clock (R98, R99, R104). -/

namespace Sys2Proof.Machine

variable {s t : State} {k : Nat}

/-! ## Seconds that pass (R98) -/

theorem passSeconds_parts (k : Nat) (s : State) :
    Frame [.release, .estimate, .doors, .readers, .periodic, .link, .custody, .lone] [] s (passSeconds k s) := by
  constructor <;> intros <;> first | rfl | exact Nat.le_refl _ | exact SameSettings.refl _ | contradiction

theorem passSeconds_release (k : Nat) (s : State) (z : Zone) : (passSeconds k s).release[z] =
    { s.release[z] with
      doorHold := s.release[z].doorHold.map (· - k)
      occupancyHold := s.release[z].occupancyHold.map (· - k)
      firing := s.release[z].firing.map fun f => { f with left := f.left - k } } := Vector.getElem_map _ z.isLt

theorem passSeconds_estimate (k : Nat) (s : State) (z : Zone) : (passSeconds k s).estimate[z] =
    { s.estimate[z] with timer := s.estimate[z].timer.map (· - k) } := Vector.getElem_map _ z.isLt

theorem passSeconds_motion (k : Nat) (s : State) (n : DoorNo) : (passSeconds k s).motions[n] =
    s.motions[n].map fun m => { m with left := m.left - k } := Vector.getElem_map _ n.isLt

theorem passSeconds_reader (k : Nat) (s : State) (r : ReaderNo) : (passSeconds k s).readers[r] =
    { s.readers[r] with lockout := s.readers[r].lockout.map (· - k) } := Vector.getElem_map _ r.isLt

theorem passSeconds_custody (k : Nat) (s : State) (n : DoorNo) : (passSeconds k s).custody[n] =
    s.custody[n].map fun w => { w with left := w.left - k } := Vector.getElem_map _ n.isLt

theorem passSeconds_lone (k : Nat) (s : State) (z : Zone) : (passSeconds k s).loneTimer[z] =
    s.loneTimer[z].map (· - k) := Vector.getElem_map _ z.isLt

/-- Once a second has passed no expiry of a stopped lone timer is to come (R135). -/
theorem passSeconds_outrun (s : State) : (passSeconds 1 s).loneOutrun = Vector.replicate 4 false := by
  apply Vector.ext
  intro j hj
  rw [Vector.getElem_replicate]
  exact (Vector.getElem_map _ hj).trans (Bool.and_false _)

/-! ## The clock's advance (R98) -/

theorem clock_ne_backlog : Source.clock ≠ Source.backlog := by decide

/-- The state in which the clock has moved and its condition is as it now is; the periods are still to be derived. -/
def clockMoved (c : Clock) (s : State) : State := clockCondition (s.setClock c)

theorem clockMoved_frame (c : Clock) (s : State) : Frame [.clock] [Source.clock] s (clockMoved c s) :=
  Frame.trans (t := s.setClock c) { Frame.refl s with clock := fun no => absurd List.mem_cons_self no }
    (Frame.setCondition List.mem_cons_self _ _)

theorem clockMoved_clock (c : Clock) (s : State) : (clockMoved c s).clock = c :=
  (setCondition_signals Source.clock _ (s.setClock c)).clock

theorem clockMoved_condition (c : Clock) (s : State) :
    (clockMoved c s).alarm.condition[Source.clock] = !c.set := setCondition_condition _ _ clock_ne_backlog

theorem advanceClock_unset (unset : s.clock.set = false) : advanceClock k s = s := if_neg (by rw [unset]; nofun)

theorem advanceClock_set (set : s.clock.set = true) : advanceClock k s =
    if (Clock.advance k s.clock).second % 60 = 0 then rePeriods (clockMoved (Clock.advance k s.clock) s)
    else clockMoved (Clock.advance k s.clock) s := by
  unfold advanceClock
  rw [if_pos set]
  change (if (clockMoved (Clock.advance k s.clock) s).clock.second % 60 = 0 then _ else _) = _
  rw [clockMoved_clock]
  rfl

/-- The zones whose periods are derived as a set clock advances. -/
def dueZones (c : Clock) : List Zone := if c.second % 60 = 0 then allZones else []

theorem advanceClock_rederived (set : s.clock.set = true) : Rederived (dueZones (Clock.advance k s.clock))
    (clockMoved (Clock.advance k s.clock) s) (advanceClock k s) := by
  rw [advanceClock_set set]
  unfold dueZones
  split
  · exact rePeriods_rederived _
  · exact forEach_rePeriod [] _ List.nodup_nil

/-- What an advance of the clock may touch. -/
abbrev ClockFrame (s t : State) : Prop := Frame (Part.clock :: periodParts) [Source.clock] s t

theorem PeriodFrame.clocked (h : PeriodFrame s t) : ClockFrame s t :=
  Frame.mono h (by decide) fun _ no => nomatch no

/-- An advance of the clock, seen from the state in which the seconds have passed. -/
structure Advanced (k : Nat) (s t : State) : Prop where
  frame : ClockFrame s t
  clock : t.clock = if s.clock.set = true then Clock.advance k s.clock else s.clock
  condition : s.clock.set = true → t.alarm.condition[Source.clock] = !t.clock.set
  closed : ∀ n : DoorNo, s.custody[n] = none → t.custody[n] = none
  kept : ∀ (n : DoorNo) (w : CustodyWindow), s.custody[n] = some w → t.period[w.zone] = s.period[w.zone] →
    t.custody[n] = some w
  lone : ∀ z : Zone, t.period[z] = s.period[z] → t.loneTimer[z] = s.loneTimer[z]
  between : s.clock.set = false ∨ (Clock.advance k s.clock).second % 60 ≠ 0 →
    t.period = s.period ∧ t.loneOutrun = s.loneOutrun

theorem advanceClock_advanced (k : Nat) (s : State) : Advanced k s (advanceClock k s) := by
  cases set : s.clock.set with
  | false =>
    rw [advanceClock_unset set]
    exact ⟨Frame.refl s, (if_neg (by rw [set]; nofun)).symm, fun on => absurd on (by rw [set]; nofun), fun _ h => h,
      fun _ _ h _ => h, fun _ _ => rfl, fun _ => ⟨rfl, rfl⟩⟩
  | true =>
    have moved := clockMoved_frame (Clock.advance k s.clock) s
    have eq := advanceClock_set (k := k) set
    obtain ⟨frame, _, closed, kept, lone⟩ := advanceClock_rederived (k := k) set
    have clock : (advanceClock k s).clock = Clock.advance k s.clock := (frame.clock (by decide)).trans (clockMoved_clock _ s)
    have custody := moved.custody (by decide)
    have period := moved.period (by decide)
    have timer := moved.loneTimer (by decide)
    have outrun := moved.loneOutrun (by decide)
    have condition := (frame.conditionSame _ List.not_mem_nil clock_ne_backlog).trans
      (clockMoved_condition (Clock.advance k s.clock) s)
    rw [← clock] at condition
    rw [custody] at closed kept
    rw [period] at kept lone
    rw [timer] at lone
    refine ⟨(moved.mono (by decide) fun _ h => h).trans frame.clocked, clock.trans (if_pos set).symm, fun _ => condition,
      closed, kept, lone, fun off => ?_⟩
    rw [eq, if_neg (off.resolve_left (by rw [set]; nofun))]
    exact ⟨period, outrun⟩

/-! ## What CLOCK_SECOND and MINUTE_BOUNDARY make of the clock -/

theorem advance_one {c : Clock} (day : c.second ≤ 86399) (set : c.set = true) : Clock.advance 1 c =
    if c.second < 86399 then ⟨true, c.day, c.second + 1⟩
    else if c.day < 65535 then ⟨true, c.day + 1, 0⟩ else ⟨false, 0, 0⟩ := by
  unfold Clock.advance
  by_cases last : c.second < 86399
  · rw [if_pos (show c.second + 1 < 86400 by omega), if_pos last, ← set]
  · have midnight : c.second + 1 - 86400 = 0 := by omega
    rw [if_neg (show ¬ c.second + 1 < 86400 by omega), if_neg last, midnight]

theorem advance_one_between {c : Clock} (day : c.second ≤ 86399) (off : (c.second + 1) % 60 ≠ 0) :
    (Clock.advance 1 c).second % 60 ≠ 0 := by
  unfold Clock.advance
  rw [if_pos (show c.second + 1 < 86400 by omega)]
  exact off

theorem advance_toBoundary {c : Clock} (day : c.second ≤ 86399) :
    (Clock.advance (toBoundary c.second) c).second % 60 = 0 := by
  unfold Clock.advance toBoundary
  split
  · dsimp only
    omega
  · split
    · dsimp only
      omega
    · rfl

/-! ## SET_TIME (R99) -/

theorem applyTime_eq (day second : Nat) (s : State) : applyTime day second s =
    clockCondition (rePeriods (write .clockSet 0 0 (.clock (clockMove s.clock day second)) (s.setClock ⟨true, day, second⟩))) :=
  rfl

/-- What an accepted SET_TIME leaves. -/
structure TimeSet (day second : Nat) (s t : State) : Prop where
  frame : ClockFrame s t
  clock : t.clock = ⟨true, day, second⟩
  period : ∀ z : Zone, t.period[z] = derivedPeriod t z
  condition : t.alarm.condition[Source.clock] = false

theorem applyTime_set (day second : Nat) (s : State) : TimeSet day second s (applyTime day second s) := by
  rw [applyTime_eq]
  have written : Frame (Part.clock :: periodParts) [Source.clock] s
      (write .clockSet 0 0 (.clock (clockMove s.clock day second)) (s.setClock ⟨true, day, second⟩)) :=
    Frame.trans (t := s.setClock ⟨true, day, second⟩)
      { Frame.refl s with clock := fun no => absurd List.mem_cons_self no } (Frame.write _ _ _ _ _)
  have clock := (write_signals .clockSet 0 0 (.clock (clockMove s.clock day second)) (s.setClock ⟨true, day, second⟩)).clock
  generalize write .clockSet 0 0 (.clock (clockMove s.clock day second)) (s.setClock ⟨true, day, second⟩) = u at written clock ⊢
  have rederived := rePeriods_rederived u
  have told := setCondition_signals Source.clock (!(rePeriods u).clock.set) (rePeriods u)
  have atU : (rePeriods u).clock = ⟨true, day, second⟩ := (rederived.frame.clock (by decide)).trans clock
  unfold clockCondition
  refine ⟨(written.trans rederived.frame.clocked).trans (Frame.setCondition List.mem_cons_self _ _), told.clock.trans atU,
    fun z => ?_, ?_⟩
  · rw [told.period, derivedPeriod_congr told.store told.clock]
    exact rederived.derived z
  · rw [setCondition_condition _ _ clock_ne_backlog, atU]
    rfl

theorem setTime_eq (broadcast : Bool) {day second : Nat} (inDay : second ≤ 86399) (inRange : day ≤ 65535) :
    setTime broadcast day second s = if broadcast then heardActivity (applyTime day second s)
      else reply 0x05 .ok .empty (applyTime day second s) := if_neg (by omega)

theorem heardActivity_frame {parts : List Part} {srcs : List Source} (link : Part.link ∈ parts) (s : State) :
    Frame parts srcs s (heardActivity s) :=
  { Frame.refl s with link := fun no => absurd link no }

end Sys2Proof.Machine

namespace Sys2Proof.Proofs

open Sys2Proof.Machine

/-- Settles O33: the seconds pass, the clock advances from there, and at a minute boundary the periods are derived, which
closes windows and moves lone timers only in zones whose period changes. -/
theorem clockRunsAndIsSet : Obligations.ClockRunsAndIsSet := by
  refine ⟨fun s inDay => ?_, fun s inDay => ⟨fun set => ?_, fun unset => ?_⟩,
    fun s broadcast day second => ⟨fun inRange inDay => ?_, fun late => ?_⟩⟩
  · have passed := passSeconds_parts 1 s
    obtain ⟨frame, clock, condition, closed, kept, lone, between⟩ := advanceClock_advanced 1 (passSeconds 1 s)
    refine ⟨_, rfl, (passed.mono (by decide) fun _ no => nomatch no).trans (frame.mono (by decide) fun _ h => h), ?_, condition,
      fun z => ?_, fun n => ?_, frame.queue (by decide), fun n => ?_, fun r => ?_, frame.periodic (by decide),
      frame.link (by decide), fun off => ?_, fun z same => ?_, fun n => ⟨fun none_open => ?_, fun w held same => ?_⟩⟩
    · refine clock.trans ?_
      change (if s.clock.set = true then Clock.advance 1 s.clock else s.clock) = _
      by_cases set : s.clock.set = true
      · rw [if_pos set, if_neg (by rw [set]; nofun), advance_one inDay set]
      · rw [if_neg set, if_pos (Bool.not_eq_true _ ▸ set)]
    · unfold clockSecond
      rw [frame.release (by decide), frame.estimate (by decide)]
      exact ⟨passSeconds_release 1 s z, passSeconds_estimate 1 s z⟩
    · unfold clockSecond
      rw [frame.doors (by decide)]
      exact passSeconds_door 1
    · unfold clockSecond
      rw [frame.motions (by decide)]
      exact passSeconds_motion 1 s n
    · unfold clockSecond
      rw [frame.readers (by decide)]
      exact passSeconds_reader 1 s r
    · obtain ⟨period, outrun⟩ := between (off.imp id (advance_one_between inDay))
      exact ⟨period, outrun.trans (passSeconds_outrun s)⟩
    · exact (lone z same).trans (passSeconds_lone 1 s z)
    · exact closed n ((passSeconds_custody 1 s n).trans (congrArg _ none_open))
    · exact kept n _ ((passSeconds_custody 1 s n).trans (congrArg _ held)) same
  · have passed := passSeconds_parts (toBoundary s.clock.second) s
    have rederived := advanceClock_rederived (k := toBoundary s.clock.second) (s := passSeconds (toBoundary s.clock.second) s) set
    obtain ⟨frame, clock, _⟩ := advanceClock_advanced (toBoundary s.clock.second) (passSeconds (toBoundary s.clock.second) s)
    have onMinute : (Clock.advance (toBoundary s.clock.second) (passSeconds (toBoundary s.clock.second) s).clock).second % 60 = 0 :=
      advance_toBoundary inDay
    unfold dueZones at rederived
    rw [if_pos onMinute] at rederived
    refine ⟨_, congrArg Host.Outcome.next (if_pos set), (passed.mono (by decide) fun _ no => nomatch no).trans
      (frame.mono (by decide) fun _ h => h), ?_, frame.queue (by decide), rederived.derived⟩
    rw [clock.trans (if_pos set)]
    exact onMinute
  · exact congrArg Host.Outcome.next (if_neg (by rw [unset]; nofun))
  · obtain ⟨frame, clock, period, condition⟩ := applyTime_set day second s
    have link := frame.link (by decide)
    refine ⟨_, congrArg Host.Outcome.next (setTime_eq broadcast inDay inRange), ?_⟩
    generalize applyTime day second s = u at frame clock period condition link ⊢
    have widened := frame.mono (parts' := [.link, .clock] ++ periodParts) (by decide) fun _ h => h
    cases broadcast with
    | true =>
      exact ⟨widened.trans (heardActivity_frame (by decide) _), clock, period, condition, congrArg Link.heard link⟩
    | false =>
      exact ⟨widened.trans (reply_frame (by decide) _ _ _ _), clock, period, condition, replied_reply link 0x05 _ _⟩
  · exact congrArg Host.Outcome.next (if_pos (.inl late))

end Sys2Proof.Proofs
end

section
/-! RESTART (R145, R167, R198). -/

namespace Sys2Proof.Machine

section
variable {s t : State} {src x : Source}

/-! ## The in-service list empties (R167) -/

theorem inService_signals (f : List Source → List Source) (s : State) :
    Signals s (s.modAlarm fun a => { a with inService := f a.inService }) := by constructor <;> rfl

theorem leaveService_signals (src : Source) (s : State) : Signals s (leaveService src s) :=
  (inService_signals (fun l => l.erase src) s).trans (leaveService_affects src s).toSignals

theorem forEach_leaveService_inService : ∀ (l : List Source) {s : State}, s.alarm.inService = l →
    (forEach l leaveService s).alarm.inService = []
  | [], _, h => h
  | src :: l, s, h => by
    refine forEach_leaveService_inService l (s := leaveService src s) ((leaveService_affects src s).inService.trans ?_)
    rw [State.modAlarm_alarm, h]
    exact List.erase_cons_head ..

/-- No step of the alarm controller's restart changes a condition or the pending flag of an EDGE source. -/
structure EdgeKept (s t : State) : Prop where
  condition : ∀ x : Source, x ≠ Source.backlog → t.alarm.condition[x] = s.alarm.condition[x]
  pending : ∀ x : Source, Source.kind x = .edge → t.alarm.pending[x] = s.alarm.pending[x]

theorem EdgeKept.refl (s : State) : EdgeKept s s := ⟨fun _ _ => rfl, fun _ _ => rfl⟩

theorem EdgeKept.trans {u : State} (h1 : EdgeKept s t) (h2 : EdgeKept t u) : EdgeKept s u :=
  ⟨fun x owned => (h2.condition x owned).trans (h1.condition x owned),
    fun x edge => (h2.pending x edge).trans (h1.pending x edge)⟩

theorem leaveService_edgeKept (src : Source) (s : State) : EdgeKept s (leaveService src s) where
  condition x owned := by
    by_cases here : x = src
    · subst here
      exact leaveService_condition s owned
    · exact (leaveService_affects src s).conditionSame x (by rwa [List.mem_singleton]) owned
  pending x edge := by
    have owned := edge_ne_backlog edge
    by_cases here : x = src
    · subst here
      rw [leaveService_pending s owned, edge]
      exact Bool.or_false _
    · exact (leaveService_affects src s).pendingSame x (by rwa [List.mem_singleton]) owned

/-! ## LEVEL sources follow their conditions (R150, R167) -/

theorem reLevel_signals (src : Source) (s : State) : Signals s (reLevel src s) := by
  unfold reLevel
  split
  · exact setPending_signals _ _ s
  · exact Signals.refl s

theorem reLevel_inService (src : Source) (s : State) : (reLevel src s).alarm.inService = s.alarm.inService := by
  unfold reLevel
  split
  · exact (setPending_affects _ _ s).inService
  · rfl

theorem reLevel_edgeKept (src : Source) (s : State) : EdgeKept s (reLevel src s) := by
  unfold reLevel
  split
  · next level =>
    refine ⟨fun x owned => setPending_condition _ s owned, fun x edge => ?_⟩
    refine (setPending_affects _ _ s).pendingSame x (fun mem => ?_) (edge_ne_backlog edge)
    rw [List.mem_singleton.1 mem] at edge
    exact nomatch edge.symm.trans level.1
  · exact EdgeKept.refl s

theorem reLevel_own (level : Source.kind src = .level) (unserved : s.alarm.inService = []) (owned : src ≠ Source.backlog) :
    (reLevel src s).alarm.pending[src] = s.alarm.condition[src] := by
  unfold reLevel
  rw [if_pos ⟨level, by rw [unserved]; rfl⟩]
  exact setPending_pending _ (.inl owned)

theorem reLevel_other (other : x ≠ src) (owned : x ≠ Source.backlog) :
    (reLevel src s).alarm.pending[x] = s.alarm.pending[x] := by
  unfold reLevel
  split
  · exact (setPending_affects _ _ s).pendingSame x (by rwa [List.mem_singleton]) owned
  · rfl

theorem forEach_reLevel_pending (level : Source.kind x = .level) (owned : x ≠ Source.backlog) :
    ∀ (l : List Source) {s : State}, s.alarm.inService = [] → (x ∈ l ∨ s.alarm.pending[x] = s.alarm.condition[x]) →
      (forEach l reLevel s).alarm.pending[x] = s.alarm.condition[x]
  | [], _, _, h => h.resolve_left List.not_mem_nil
  | src :: l, s, unserved, h => by
    have condition := (reLevel_edgeKept src s).condition x owned
    refine (forEach_reLevel_pending level owned l (s := reLevel src s) ((reLevel_inService src s).trans unserved) ?_).trans
      condition
    by_cases here : x = src
    · subst here
      exact .inr ((reLevel_own level unserved owned).trans condition.symm)
    · exact (h.imp (fun mem => (List.mem_cons.1 mem).resolve_left here) fun follows =>
        (reLevel_other here owned).trans (follows.trans condition.symm))

/-- What the alarm controller's restart leaves. -/
structure AlarmRestarted (s t : State) : Prop where
  signals : Signals s t
  inService : t.alarm.inService = []
  lifted : Lifted t
  condition : ∀ x : Source, x ≠ Source.backlog → t.alarm.condition[x] = s.alarm.condition[x]
  pending : ∀ x : Source, x ≠ Source.backlog →
    t.alarm.pending[x] = if Source.kind x = .level then s.alarm.condition[x] else s.alarm.pending[x]

theorem restartAlarm_restarted (s : State) : AlarmRestarted s (restartAlarm s) := by
  have empty := forEach_leaveService_inService s.alarm.inService (s := s) rfl
  have signals := forEach_rel Signals.refl (fun _ _ _ => Signals.trans) leaveService s.alarm.inService s fun src _ u =>
    leaveService_signals src u
  have left := forEach_rel EdgeKept.refl (fun _ _ _ => EdgeKept.trans) leaveService s.alarm.inService s fun src _ u =>
    leaveService_edgeKept src u
  unfold restartAlarm
  dsimp only
  generalize forEach s.alarm.inService leaveService s = u at empty signals left ⊢
  have levels := forEach_rel Signals.refl (fun _ _ _ => Signals.trans) reLevel allSources u fun src _ v => reLevel_signals src v
  have kept := forEach_rel EdgeKept.refl (fun _ _ _ => EdgeKept.trans) reLevel allSources u fun src _ v =>
    reLevel_edgeKept src v
  have list := forEach_keeps (P := fun v => v.alarm.inService = []) reLevel allSources u
    (fun src _ v h => (reLevel_inService src v).trans h) empty
  have follows (x : Source) (owned : x ≠ Source.backlog) (level : Source.kind x = .level) :=
    forEach_reLevel_pending level owned allSources empty (.inl (List.mem_finRange x))
  generalize forEach allSources reLevel u = v at levels kept list follows ⊢
  refine ⟨(signals.trans levels).trans (by constructor <;> rfl), list, rfl,
    fun x owned => (kept.condition x owned).trans (left.condition x owned), fun x owned => ?_⟩
  cases kind : Source.kind x with
  | level =>
    exact (follows x owned kind).trans ((left.condition x owned).trans (if_pos rfl).symm)
  | edge => exact (kept.pending x kind).trans ((left.pending x kind).trans (if_neg nofun).symm)

/-! ## No output stays silenced (R145) -/

/-- The output is not silenced. -/
def Unsilenced (o : OutputNo) (s : State) : Prop := s.outputs[o].silenced = false

theorem unsilenced_closed (o : OutputNo) : LineClosed (Unsilenced o) where
  push k a b d h := by
    unfold pushRecord
    split <;> exact h
  output {s p f} quieter h := by
    unfold Unsilenced
    rw [State.modOutput_outputs, upd_get]
    split
    · next same =>
      subst same
      exact Bool.eq_false_iff.2 fun silenced => Bool.eq_false_iff.1 h (quieter _ silenced)
    · exact h
  alarm _ _ h := h
  line h := h

theorem unsilence_own (o : OutputNo) (s : State) : Unsilenced o (unsilence o s) := by
  refine (unsilenced_closed o).react.refreshOutput o ?_
  unfold Unsilenced
  rw [State.modOutput_outputs, upd_same]

theorem unsilence_closed {P : State → Prop} (hP : ReactClosed P) (o : OutputNo) (h : P s) : P (unsilence o s) :=
  hP.refreshOutput o (hP.output (fun _ no => nomatch no) h)

theorem forEach_unsilence (o : OutputNo) : ∀ (l : List OutputNo) (s : State), (o ∈ l ∨ Unsilenced o s) →
    Unsilenced o (forEach l unsilence s)
  | [], _, h => h.resolve_left List.not_mem_nil
  | p :: l, s, h => by
    refine forEach_unsilence o l (unsilence p s) ?_
    by_cases here : o = p
    · subst here
      exact .inr (unsilence_own o s)
    · exact h.imp (fun mem => (List.mem_cons.1 mem).resolve_left here) (unsilence_closed (unsilenced_closed o).react p)

theorem unsilence_signals (o : OutputNo) (s : State) : Signals s (unsilence o s) :=
  Signals.trans (t := s.modOutput o fun v => { v with silenced := false }) (by constructor <;> rfl) (refreshOutput_signals _ _)

theorem unsilence_keepsFlags (o : OutputNo) (s : State) : KeepsFlags s (unsilence o s) :=
  (modOutput_keepsFlags o _ s).trans (refreshOutputWith_keepsFlags abandonCheck_keepsFlags o _)

/-! ## RESTART -/

/-- The alarm controller and the annunciator driver have restarted. -/
def quieted (s : State) : State := forEach allOutputs unsilence (restartAlarm (resetFramer s))

/-- Custody windows are closed, and the restart is recorded. -/
def housekept (s : State) : State :=
  forEach allDoors closeCustody (write .restart 0 0 .blank { quieted s with readers := Vector.replicate 8 ⟨0, none⟩ })

theorem restart_eq (s : State) : restart s = reply 0x03 .ok .empty (housekept s) := rfl

theorem quieted_restarted (s : State) : AlarmRestarted (resetFramer s) (quieted s) := by
  obtain ⟨signals, empty, lifted, condition, pending⟩ := restartAlarm_restarted (resetFramer s)
  have flags := forEach_keepsFlags unsilence unsilence_keepsFlags allOutputs (restartAlarm (resetFramer s))
  have told := forEach_rel Signals.refl (fun _ _ _ => Signals.trans) unsilence allOutputs (restartAlarm (resetFramer s))
    fun o _ u => unsilence_signals o u
  have line := forEach_closed (fun o _ h => unsilence_closed lifted_closed.react o h) allOutputs lifted
  unfold quieted
  generalize forEach allOutputs unsilence (restartAlarm (resetFramer s)) = u at flags told line ⊢
  exact ⟨signals.trans told, flags.inService.trans empty,
    line,
    fun x owned => (flags.condition x owned).trans (condition x owned),
    fun x owned => (flags.pending x (.inl owned)).trans (pending x owned)⟩

theorem closeCustody_closed {P : State → Prop} (hP : SignalClosed P)
    (custody : ∀ {s : State} {c : Vector (Option CustodyWindow) 8}, P s → P { s with custody := c }) (n : DoorNo) (h : P s) :
    P (closeCustody n s) := by
  unfold closeCustody
  split
  · exact hP.write _ _ _ _ (custody h)
  · exact h

theorem closeAllCustody_parts (s : State) : Frame [.custody] [] s (forEach allDoors closeCustody s) :=
  forEach_rel Frame.refl (fun _ _ _ => Frame.trans) _ _ s fun n _ u => closeCustody_parts n u

theorem closeAllCustody (s : State) : (forEach allDoors closeCustody s).custody = Vector.replicate 8 none := by
  apply Vector.ext
  intro j hj
  rw [Vector.getElem_replicate]
  exact (forEach_entry (get := fun u : State => u.custody[(⟨j, hj⟩ : DoorNo)]) (g := fun _ => none)
    (fun m u other => closeCustody_other other u) (fun u => closeCustody_own _ u) (fun _ => rfl) allDoors s).trans
    (if_pos (List.mem_finRange _))

/-- What a restart may touch beside the alarm sources. -/
theorem housekept_parts (s : State) : Frame [.readers, .custody] [] (quieted s) (housekept s) := by
  unfold housekept
  generalize quieted s = u
  refine Frame.trans ?_ ((closeAllCustody_parts _).mono (by decide) fun _ h => h)
  exact Frame.trans (t := { u with readers := Vector.replicate 8 ⟨0, none⟩ })
    { Frame.refl u with readers := fun no => absurd List.mem_cons_self no } (Frame.write _ _ _ _ _)

theorem housekept_closed {P : State → Prop} (hP : SignalClosed P)
    (custody : ∀ {s : State} {c : Vector (Option CustodyWindow) 8}, P s → P { s with custody := c })
    (readers : ∀ {s : State} {r : Vector Reader 8}, P s → P { s with readers := r }) (h : P (quieted s)) : P (housekept s) :=
  forEach_closed (fun n _ h => closeCustody_closed hP custody n h) _ (hP.write _ _ _ _ (readers h))

theorem housekept_readers (s : State) : (housekept s).readers = Vector.replicate 8 ⟨0, none⟩ :=
  ((closeAllCustody_parts _).readers (by decide)).trans (write_signals _ _ _ _ _).readers

theorem quieted_link (s : State) : (quieted s).link = { s.link with framer := .waiting, timing := false } :=
  (quieted_restarted s).signals.link

theorem restart_link (s : State) : (restart s).link =
    { Link.heard s.link with framer := .waiting, timing := false, reply := some ⟨0x03, .ok, .empty⟩ } := by
  rw [restart_eq, reply_link, (housekept_parts s).link (by decide), quieted_link]
  rfl

end

end Sys2Proof.Machine

namespace Sys2Proof.Proofs

open Sys2Proof.Machine

/-- Settles O6: the restart works on the alarm sources, the outputs, the readers and the custody windows, and on nothing
else. -/
theorem restartClearsHousekeeping : Obligations.RestartClearsHousekeeping := fun s _ => by
  obtain ⟨signals, empty, lifted, condition, pending⟩ := quieted_restarted s
  have parts := housekept_parts s
  have suppressed : Lifted (housekept s) := housekept_closed lifted_closed.react.signals (fun h => h) (fun h => h) lifted
  have silences (o : OutputNo) : Unsilenced o (housekept s) :=
    housekept_closed (unsilenced_closed o).react.signals (fun h => h) (fun h => h)
      (forEach_unsilence o allOutputs _ (.inl (List.mem_finRange o)))
  have link := restart_link s
  have custody : (housekept s).custody = Vector.replicate 8 none := closeAllCustody _
  have readers := housekept_readers s
  refine ⟨_, congrArg Host.Outcome.next (restart_eq s), ?_⟩
  rw [restart_eq] at link
  generalize housekept s = t at parts suppressed silences link custody readers ⊢
  refine ⟨link, parts.inService.trans empty, suppressed, fun src owned =>
      ⟨(parts.conditionSame src List.not_mem_nil owned).trans (condition src owned),
        (parts.pendingSame src List.not_mem_nil owned).trans (pending src owned)⟩,
    silences, custody, readers, ?_⟩
  exact ⟨(Frame.store_eq parts (by decide) (by decide)).trans signals.store, (parts.inputs (by decide)).trans signals.inputs,
    (parts.channels (by decide)).trans signals.channels, (parts.detection (by decide)).trans signals.detection,
    (parts.release (by decide)).trans signals.release, (parts.estimate (by decide)).trans signals.estimate,
    (parts.doors (by decide)).trans signals.doors, (parts.queue (by decide)).trans signals.queue,
    (parts.motions (by decide)).trans signals.motions, (parts.gateClosed (by decide)).trans signals.gateClosed,
    (parts.clock (by decide)).trans signals.clock, (parts.period (by decide)).trans signals.period,
    (parts.occupancy (by decide)).trans signals.occupancy, (parts.loneTimer (by decide)).trans signals.loneTimer,
    (parts.loneOutrun (by decide)).trans signals.loneOutrun, (parts.flags (by decide)).trans signals.flags,
    (parts.supply (by decide)).trans signals.supply, (parts.periodic (by decide)).trans signals.periodic,
    (parts.checks (by decide)).trans signals.checks⟩

end Sys2Proof.Proofs
end

section
/-! WHO_CALLS and the slot (R163, R164). -/

namespace Sys2Proof.Machine

variable {s t : State}

theorem slotAnswer_counted (h : s.link.slot = some true ∨
    (s.link.slot = some false ∧ (attentionDriven s = false ∨ s.link.node = 0))) :
    slotAnswer s = s.modLink fun l => { l with slot := none } := by
  unfold slotAnswer
  rcases h with heard | ⟨quiet, silent⟩
  · rw [heard]
    dsimp only
    split
    · rfl
    · exact if_neg fun calls => nomatch calls.1
  · rw [quiet]
    dsimp only
    split
    · rfl
    · exact if_neg fun ⟨_, driven, strapped⟩ => silent.elim (fun no => nomatch no.symm.trans driven) strapped

/-- A part that drives the attention line has a source to call for. -/
theorem claimable_of_driven (driven : attentionDriven s = true) : ∃ src, claimable s = some src := by
  have picked := claimable_picked s
  cases found : claimable s with
  | some src => exact ⟨src, rfl⟩
  | none =>
    rw [found] at picked
    obtain ⟨some_eligible, _⟩ := Bool.and_eq_true_iff.1 driven
    obtain ⟨src, listed, eligible⟩ := List.any_eq_true.1 some_eligible
    exact absurd eligible (Bool.eq_false_iff.1 (picked src listed))

theorem slotAnswer_calls {src : Source} (quiet : s.link.slot = some false) (driven : attentionDriven s = true)
    (strapped : s.link.node ≠ 0) (caller : claimable s = some src) : slotAnswer s =
      (s.modLink fun l => { l with slot := none, sent := slotFrame s src }).modAlarm fun a => { a with suppressed := true } := by
  unfold slotAnswer
  rw [quiet, caller]
  exact if_pos ⟨rfl, driven, strapped⟩

/-- After a frame of the host the slot stays silent. -/
theorem slot_after_frame (quiet : s.link.slot = some false) (heard : t.link.slot = (Link.heard s.link).slot) :
    t.link.slot = some true ∧ slotAnswer t = t.modLink fun l => { l with slot := none } := by
  have counted : t.link.slot = some true := by
    rw [heard]
    unfold Link.heard
    rw [quiet]
    rfl
  exact ⟨counted, slotAnswer_counted (.inl counted)⟩

theorem reply_slot (kind : Nat) (status : Status) (body : ReplyBody) (link : t.link = s.link) :
    (reply kind status body t).link.slot = (Link.heard s.link).slot := by
  rw [reply_link, ← link]

theorem claim_slot (s : State) : (claim s).link.slot = (Link.heard s.link).slot := by
  unfold claim
  split
  · exact reply_slot _ _ _ rfl
  · next src _ => exact reply_slot _ _ _ (takeIntoService_affects src s).link

theorem setTime_slot (s : State) : (setTime true 0 0 s).link.slot = (Link.heard s.link).slot := by
  rw [setTime_eq true (Nat.zero_le _) (Nat.zero_le _)]
  exact congrArg (fun l => (Link.heard l).slot) ((applyTime_set 0 0 s).frame.link (by decide))

/-- A frame of the host is heard, whatever it orders (R163). -/
theorem frame_heard (c : Instr) (mem : c ∈ [Instr.alarmStatus, .peek, .claim, .identify, .restart, .setTime true 0 0])
    (s : State) : ∃ t, exec c s = .next t ∧ t.link.slot = (Link.heard s.link).slot := by
  simp only [List.mem_cons, List.not_mem_nil, or_false] at mem
  rcases mem with rfl | rfl | rfl | rfl | rfl | rfl
  · exact ⟨_, rfl, rfl⟩
  · exact ⟨_, rfl, rfl⟩
  · exact ⟨_, rfl, claim_slot s⟩
  · exact ⟨_, rfl, rfl⟩
  · exact ⟨_, rfl, (congrArg Link.slot (restart_link s) :)⟩
  · exact ⟨_, rfl, setTime_slot s⟩

end Sys2Proof.Machine

namespace Sys2Proof.Proofs

open Sys2Proof.Machine

/-- Settles O47: the slot answers while it has heard nothing and the line is driven, and every frame of the host is heard. -/
theorem whoCallsFindsTheCaller : Obligations.WhoCallsFindsTheCaller := by
  refine fun s => ⟨rfl, fun none_waits => ?_, fun silent => congrArg Host.Outcome.next (slotAnswer_counted silent),
    fun quiet driven strapped => ?_, rfl, fun quiet c mem => ?_⟩
  · refine congrArg Host.Outcome.next ?_
    unfold slotAnswer
    rw [none_waits]
  · obtain ⟨src, caller⟩ := claimable_of_driven driven
    exact ⟨_, src, congrArg Host.Outcome.next (slotAnswer_calls quiet driven strapped caller), caller, rfl⟩
  · obtain ⟨t, answers, heard⟩ := frame_heard c mem s
    obtain ⟨counted, silent⟩ := slot_after_frame quiet heard
    exact ⟨t, answers, counted, congrArg Host.Outcome.next silent⟩

end Sys2Proof.Proofs
end

section
/-! Schedules, holidays and zone modes (R101 to R106). -/

namespace Sys2Proof.Machine

section
variable {s t : State} {z : Zone} {kind : ScheduleNo}

/-! ## What is active (R103, R106) -/

theorem scheduleActive_iff : scheduleActive s kind = true ↔ kind = 0 ∨ (s.clock.set = true ∧
    ∃ i ∈ s.store.schedules[kind], i.days.getLsbD (effectiveDay s s.clock.day) = true ∧
      i.start ≤ s.clock.second / 60 ∧ s.clock.second / 60 < i.stop) := by
  unfold scheduleActive
  split
  · next first => exact iff_of_true rfl (.inl (Fin.ext first))
  · next other =>
    rw [or_iff_right fun first => other (congrArg Fin.val first), Bool.and_eq_true, List.any_eq_true]
    refine and_congr_right fun _ => exists_congr fun i => and_congr_right fun _ => ?_
    unfold Interval.covers
    rw [Bool.and_eq_true, decide_eq_true_eq]

theorem derivedPeriod_day_iff : derivedPeriod s z = .day ↔ s.store.modes[z] = .forceDay ∨
    (s.store.modes[z] = .auto ∧ scheduleActive s s.store.zones[z].openingSchedule = true) := by
  unfold derivedPeriod
  cases s.store.modes[z] with
  | auto =>
    dsimp only
    split
    · next active => exact iff_of_true rfl (.inr ⟨rfl, active⟩)
    · next idle => exact iff_of_false nofun fun day => day.elim nofun fun both => idle both.2
  | forceDay => exact iff_of_true rfl (.inl rfl)
  | forceAfterHours => exact iff_of_false nofun fun day => day.elim nofun fun both => nomatch both.1
  | lockdown => exact iff_of_false nofun fun day => day.elim nofun fun both => nomatch both.1

/-! ## Settings that are stored, and their CONFIG record (R183, R194) -/

theorem modStore_frame {parts : List Part} {srcs : List Source} (settings : Part.settings ∈ parts) {f : Store → Store}
    (records : (f s.store).records = s.store.records) : Frame parts srcs s (s.modStore f) :=
  { Frame.refl s with
    settings := fun no => absurd settings no
    records := fun _ => records
    outputSame := fun no => absurd settings no }

/-- A stored setting and its record touch nothing else. -/
theorem stored_frame {parts : List Part} {srcs : List Source} (settings : Part.settings ∈ parts) {f : Store → Store}
    (records : (f s.store).records = s.store.records) (a : Nat) (d : Detail) :
    Frame parts srcs s (writeConfig a d (s.modStore f)) :=
  (modStore_frame settings records).trans (Frame.write _ _ _ _ _)

theorem stored_store (f : Store → Store) (a : Nat) (d : Detail) (s : State) :
    (writeConfig a d (s.modStore f)).store = f s.store := (writeConfig_signals _ _ _).store

/-- What storing a setting and deriving the periods again leaves. -/
structure Resettled (f : Store → Store) (s t : State) : Prop where
  frame : Frame (.settings :: periodParts) [] s t
  store : t.store = f s.store
  period : ∀ z : Zone, t.period[z] = derivedPeriod t z

theorem rePeriods_resettled {f : Store → Store} (records : (f s.store).records = s.store.records) (a : Nat) (d : Detail) :
    Resettled f s (rePeriods (writeConfig a d (s.modStore f))) := by
  have frame : Frame (.settings :: periodParts) [] s (writeConfig a d (s.modStore f)) :=
    stored_frame List.mem_cons_self records a d
  have store := stored_store f a d s
  generalize writeConfig a d (s.modStore f) = u at frame store ⊢
  have rederived := rePeriods_rederived u
  exact ⟨frame.trans (rederived.frame.mono (by decide) fun _ h => h), rederived.frame.store_eq.trans store, rederived.derived⟩

/-- So it is with the reply that a message then leaves. -/
theorem Resettled.answered {f : Store → Store} (h : Resettled f s t) (code : Nat) (status : Status) (body : ReplyBody) :
    Frame ([.settings, .link] ++ periodParts) [] s (reply code status body t) ∧
    (reply code status body t).store = f s.store ∧
    (∀ z : Zone, (reply code status body t).period[z] = derivedPeriod (reply code status body t) z) ∧
    Replied (BitVec.ofNat 8 code) status body s (reply code status body t) :=
  ⟨(h.frame.mono (by decide) fun _ h => h).trans (reply_frame (by decide) _ _ _ _), h.store, h.period,
    replied_reply (h.frame.link (by decide)) _ _ _⟩

/-! ## SET_SCHEDULE (R101) and SET_HOLIDAYS (R102) -/

/-- The intervals that a schedule may have. -/
def GoodIntervals (intervals : List IntervalRequest) : Prop :=
  intervals.length ≤ 6 ∧ ∀ i ∈ intervals, i.days ≠ 0 ∧ i.start < i.stop ∧ i.stop ≤ 1440

theorem goodIntervals_iff {intervals : List IntervalRequest} :
    GoodIntervals intervals ↔ ¬ (6 < intervals.length ∨ intervals.all IntervalRequest.ok = false) := by
  rw [not_or, Nat.not_lt, Bool.not_eq_false, List.all_eq_true]
  refine and_congr_right fun _ => forall_congr' fun i => imp_congr_right fun _ => ?_
  unfold IntervalRequest.ok
  rw [decide_eq_true_eq]
  exact and_congr_right fun _ => by omega

theorem setSchedule_stored {schedule : ScheduleNo} {intervals : List IntervalRequest} (first : schedule.val ≠ 0)
    (good : GoodIntervals intervals) : setSchedule schedule.val intervals s =
      reply 0x19 .ok (.schedule schedule (intervals.map fun i => Interval.mk i.days i.start i.stop))
        (rePeriods (writeConfig schedule.val (.kind 0x19) (s.modStore fun st => { st with
          schedules := upd st.schedules schedule fun _ => intervals.map fun i => Interval.mk i.days i.start i.stop }))) := by
  unfold setSchedule
  rw [item_val]
  exact if_neg (not_or.2 ⟨first, goodIntervals_iff.1 good⟩)

theorem setSchedule_refused {schedule : Nat} {intervals : List IntervalRequest}
    (bad : schedule = 0 ∨ 16 ≤ schedule ∨ ¬ GoodIntervals intervals) :
    setSchedule schedule intervals s = reply 0x19 .param .empty s := by
  unfold setSchedule
  split
  · rfl
  · next k found =>
    unfold item at found
    split at found
    · next inRange =>
      cases found
      refine if_pos (bad.imp id fun bad => ?_)
      exact Classical.byContradiction fun ok => bad.elim (Nat.not_le_of_lt inRange) fun poor => poor (goodIntervals_iff.2 ok)
    · cases found

theorem setHolidays_stored {days : List Nat} (few : days.length ≤ 32) (inRange : ∀ d ∈ days, 1 ≤ d ∧ d ≤ 65535) :
    setHolidays days s = reply 0x1A .ok (.holidays (sortedDays days))
      (rePeriods (writeConfig 0 (.kind 0x1A) (s.modStore fun st => { st with holidays := sortedDays days }))) := by
  have all : days.all (fun d => decide (1 ≤ d ∧ d ≤ 65535)) = true :=
    List.all_eq_true.2 fun d mem => decide_eq_true (inRange d mem)
  exact if_neg (not_or.2 ⟨Nat.not_lt.2 few, by rw [all]; nofun⟩)

theorem setHolidays_refused {days : List Nat} (bad : 32 < days.length ∨ 0 ∈ days) :
    setHolidays days s = reply 0x1A .param .empty s := by
  refine if_pos (bad.imp id fun zero => ?_)
  rw [List.all_eq_false]
  exact ⟨0, zero, nofun⟩

/-! ## ZONE_MODE (R105) -/

/-- The mode is stored, and on entering LOCKDOWN the zone's windows are closed; its period is still to be derived. -/
def modeStored (z : Zone) (m : ZoneMode) (s : State) : State :=
  let u := writeConfig (Zone.number z) (.mode m) (s.modStore fun st => { st with modes := upd st.modes z fun _ => m })
  if m = .lockdown ∧ s.store.modes[z] ≠ .lockdown then lockdownBegins z u else u

theorem applyMode_eq (z : Zone) (m : ZoneMode) (s : State) : applyMode z m s = rePeriod z (modeStored z m s) := rfl

theorem modeStored_frame (z : Zone) (m : ZoneMode) (s : State) :
    Frame (.settings :: periodParts) [] s (modeStored z m s) ∧
    (modeStored z m s).store = { s.store with modes := upd s.store.modes z fun _ => m } := by
  have frame : Frame (.settings :: periodParts) [] s
      (writeConfig (Zone.number z) (.mode m) (s.modStore fun st => { st with modes := upd st.modes z fun _ => m })) :=
    stored_frame List.mem_cons_self rfl _ _
  have store := stored_store (fun st => { st with modes := upd st.modes z fun _ => m }) (Zone.number z) (.mode m) s
  unfold modeStored
  dsimp only
  split
  · have closes := closeZoneWindows_parts (fun _ => true) z (writeConfig (Zone.number z) (.mode m)
      (s.modStore fun st => { st with modes := upd st.modes z fun _ => m }))
    exact ⟨frame.trans (closes.mono (by decide) fun _ h => h), (closes.store_eq (by decide) (by decide)).trans store⟩
  · exact ⟨frame, store⟩

/-- In a zone that enters LOCKDOWN no custody window stays open. -/
theorem modeStored_lockdown (enters : s.store.modes[z] ≠ .lockdown) (n : DoorNo) :
    ((modeStored z .lockdown s).custody[n].map CustodyWindow.zone) ≠ some z := by
  have eq : modeStored z .lockdown s = lockdownBegins z (writeConfig (Zone.number z) (.mode .lockdown)
      (s.modStore fun st => { st with modes := upd st.modes z fun _ => .lockdown })) := if_pos ⟨rfl, enters⟩
  rw [eq]
  unfold lockdownBegins
  rw [closeZoneWindows_custody]
  unfold windowAfter
  split
  · nofun
  · next stays =>
    rw [Bool.true_and] at stays
    intro ofZone
    obtain ⟨w, held, zone⟩ := Option.map_eq_some_iff.1 ofZone
    rw [held] at stays
    exact stays (decide_eq_true zone)

theorem zoneMode_stored {mode : Nat} {m : ZoneMode} (code : ZoneMode.ofCode mode = some m) :
    zoneMode (z.val + 1) mode s = reply 0x30 .ok (.zoneMode m (applyMode z m s).period[z]) (applyMode z m s) := by
  unfold zoneMode
  rw [zoneNumbered_val, code]

/-- What an accepted ZONE_MODE leaves. -/
structure ModeSet (z : Zone) (m : ZoneMode) (s t : State) : Prop where
  frame : Frame (.settings :: periodParts) [] s t
  store : t.store = { s.store with modes := upd s.store.modes z fun _ => m }
  period : t.period = upd s.period z fun _ => derivedPeriod t z
  lockdown : m = .lockdown → s.store.modes[z] ≠ .lockdown →
    ∀ n : DoorNo, (t.custody[n].map CustodyWindow.zone) ≠ some z

theorem modeStored_period (z : Zone) (m : ZoneMode) (s : State) : (modeStored z m s).period = s.period := by
  have written := (writeConfig_signals (Zone.number z) (.mode m)
    (s.modStore fun st => { st with modes := upd st.modes z fun _ => m })).period
  unfold modeStored
  dsimp only
  split
  · exact ((closeZoneWindows_parts _ z _).period (by decide)).trans written
  · exact written

theorem applyMode_set (z : Zone) (m : ZoneMode) (s : State) : ModeSet z m s (applyMode z m s) := by
  obtain ⟨frame, store⟩ := modeStored_frame z m s
  have period := modeStored_period z m s
  have lockdown := fun (entered : m = .lockdown) (enters : s.store.modes[z] ≠ .lockdown) (n : DoorNo) =>
    (entered ▸ modeStored_lockdown enters n : ((modeStored z m s).custody[n].map CustodyWindow.zone) ≠ some z)
  rw [applyMode_eq]
  generalize modeStored z m s = u at frame store period lockdown ⊢
  have again := rePeriod_frame z u
  refine ⟨frame.trans (again.mono (by decide) fun _ h => h), again.store_eq.trans store, ?_, fun entered enters n => ?_⟩
  · rw [again.derived, rePeriod_period, period]
  · rcases rePeriod_custody z u n with same | ⟨_, _, closed⟩
    · rw [same]
      exact lockdown entered enters n
    · rw [closed]
      nofun

theorem zoneMode_refused {zone mode : Nat} (bad : zone = 0 ∨ 4 < zone ∨ ZoneMode.ofCode mode = none) :
    zoneMode zone mode s = reply 0x30 .param .empty s := by
  unfold zoneMode
  split
  · next z m known code =>
    rw [code, ← or_assoc] at bad
    rw [zoneNumbered_of_bad (bad.resolve_right nofun)] at known
    cases known
  · rfl

end

end Sys2Proof.Machine

namespace Sys2Proof.Proofs

open Sys2Proof.Machine

/-- Settles O34, message by message: what is stored is recorded, and the periods are derived from it again. -/
theorem schedulesHolidaysAndModesAct : Obligations.SchedulesHolidaysAndModesAct := by
  refine ⟨fun s k z => ⟨scheduleActive_iff, derivedPeriod_day_iff⟩,
    fun s schedule intervals days => ⟨fun inRange first good => ?_, fun bad => congrArg Host.Outcome.next (setSchedule_refused bad),
      fun few inRange => ?_, fun bad => congrArg Host.Outcome.next (setHolidays_refused bad)⟩,
    fun s zone mode => ⟨fun z m named code => ?_, fun bad => congrArg Host.Outcome.next (zoneMode_refused bad)⟩⟩
  · obtain ⟨k, rfl⟩ : ∃ k : ScheduleNo, schedule = k.val := ⟨⟨schedule, inRange⟩, rfl⟩
    have stored := setSchedule_stored (s := s) first good
    have settled := rePeriods_resettled (s := s) (f := fun st => { st with
      schedules := upd st.schedules k fun _ => intervals.map fun i => Interval.mk i.days i.start i.stop }) rfl k.val (.kind 0x19)
    refine ⟨_, congrArg Host.Outcome.next stored, ?_⟩
    exact settled.answered 0x19 .ok (.schedule k (intervals.map fun i => Interval.mk i.days i.start i.stop))
  · obtain ⟨sorted, _, mem⟩ := sortedDays_spec days
    have settled := rePeriods_resettled (s := s) (f := fun st => { st with holidays := sortedDays days }) rfl 0 (.kind 0x1A)
    refine ⟨_, sortedDays days, congrArg Host.Outcome.next (setHolidays_stored few inRange), ?_⟩
    obtain ⟨frame, rest⟩ := settled.answered 0x1A .ok (.holidays (sortedDays days))
    exact ⟨frame, sorted, mem, rest⟩
  · subst named
    obtain ⟨frame, store, period, lockdown⟩ := applyMode_set z m s
    refine ⟨_, congrArg Host.Outcome.next (zoneMode_stored code), ?_⟩
    generalize applyMode z m s = u at frame store period lockdown ⊢
    exact ⟨(frame.mono (by decide) fun _ h => h).trans (reply_frame (by decide) _ _ _ _), store, period, lockdown,
      replied_reply (frame.link (by decide)) _ _ _⟩

end Sys2Proof.Proofs
end

section
/-! The credential table (R93 to R96). -/

namespace Sys2Proof.Machine

/-- Numbers rise along the table (R94). -/
abbrev Rising (table : List Credential) : Prop := table.Pairwise fun a b => a.number < b.number

section
variable {c d : Credential} {l : List Credential} {s t : State} {number : Nat}

/-! ## The table as a list -/

theorem rising_unique (h : Rising l) (hc : c ∈ l) (hd : d ∈ l) (same : c.number = d.number) : c = d := by
  induction l with
  | nil => cases hc
  | cons x l ih =>
    obtain ⟨above, rest⟩ := List.pairwise_cons.1 h
    rcases List.mem_cons.1 hc with hc | hc <;> rcases List.mem_cons.1 hd with hd | hd
    · exact hc.trans hd.symm
    · exact absurd same (hc ▸ Nat.ne_of_lt (above d hd))
    · exact absurd same.symm (hd ▸ Nat.ne_of_lt (above c hc))
    · exact ih rest hc hd

theorem insertCredential_self : ∀ l : List Credential, c ∈ insertCredential c l
  | [] => List.mem_singleton_self c
  | x :: l => by
    unfold insertCredential
    split
    · exact List.mem_cons_self
    · split
      · exact List.mem_cons_self
      · exact List.mem_cons_of_mem _ (insertCredential_self l)

theorem insertCredential_keeps (other : d.number ≠ c.number) : ∀ {l : List Credential}, d ∈ l → d ∈ insertCredential c l
  | x :: l, mem => by
    unfold insertCredential
    split
    · exact List.mem_cons_of_mem _ mem
    · split
      · next same =>
        refine List.mem_cons_of_mem _ ((List.mem_cons.1 mem).resolve_left fun here => ?_)
        exact other (here ▸ same.symm)
      · exact (List.mem_cons.1 mem).elim (fun here => here ▸ List.mem_cons_self) fun later =>
          List.mem_cons_of_mem _ (insertCredential_keeps other later)

/-- A record replaces the one of its number (R94). -/
theorem insertCredential_replaces (h : Rising l) (mem : d ∈ insertCredential c l) :
    d = c ∨ (d ∈ l ∧ d.number ≠ c.number) := by
  rcases mem_insertCredential mem with same | old
  · exact .inl same
  · by_cases number : d.number = c.number
    · exact .inl (rising_unique (insertCredential_rising h) mem (insertCredential_self l) number)
    · exact .inr ⟨old, number⟩

/-! ## Looking up (R96) -/

theorem lookup_of_mem (h : Rising s.store.credentials) (mem : c ∈ s.store.credentials) : lookup s c.number = some c := by
  unfold lookup
  cases found : s.store.credentials.find? fun d => decide (d.number = c.number) with
  | none => exact absurd (decide_eq_true rfl) (List.find?_eq_none.1 found c mem)
  | some d =>
    exact congrArg some (rising_unique h (List.mem_of_find?_eq_some found) mem (of_decide_eq_true (List.find?_some found :)))

theorem lookup_none (absent : ∀ c ∈ s.store.credentials, c.number ≠ number) : lookup s number = none :=
  List.find?_eq_none.2 fun c mem => by simpa only [decide_eq_true_eq] using absent c mem

/-- The first record above a number is the smallest. -/
theorem nextCredential_of_least (h : Rising s.store.credentials) (mem : c ∈ s.store.credentials) (above : number < c.number)
    (least : ∀ d ∈ s.store.credentials, number < d.number → c.number ≤ d.number) : nextCredential s number = some c := by
  unfold nextCredential
  cases found : s.store.credentials.find? fun d => decide (number < d.number) with
  | none => exact absurd (decide_eq_true above) (List.find?_eq_none.1 found c mem)
  | some d =>
    obtain ⟨aboveD, before, after, split, lower⟩ := List.find?_eq_some_iff_append.1 found
    have memD := List.mem_of_find?_eq_some found
    have atLeast := least d memD (of_decide_eq_true aboveD)
    have atMost : d.number ≤ c.number := by
      rw [split] at h mem
      rcases List.mem_append.1 mem with first | rest
      · exact absurd above (by simpa using lower c first)
      · rcases List.mem_cons.1 rest with rfl | later
        · exact Nat.le_refl _
        · exact Nat.le_of_lt ((List.pairwise_cons.1 (List.pairwise_append.1 h).2.1).1 c later)
    exact congrArg some (rising_unique h memD mem (Nat.le_antisymm atMost atLeast))

theorem nextCredential_none (below : ∀ c ∈ s.store.credentials, c.number ≤ number) : nextCredential s number = none :=
  List.find?_eq_none.2 fun c mem => by simpa only [decide_eq_true_eq, Nat.not_lt] using below c mem

theorem shown_eq (c : Credential) : Credential.shown c = { c with pin := List.replicate c.pin.length 0 } := by
  unfold Credential.shown
  rw [List.map_const']

theorem lookupExact_found (named : number ≠ 0) (found : lookup s number = some c) :
    lookupExact number s = reply 0x22 .ok (.credential { c with pin := List.replicate c.pin.length 0 }) s := by
  unfold lookupExact
  rw [if_neg named, found, ← shown_eq]

theorem lookupExact_missing (named : number ≠ 0) (missing : lookup s number = none) :
    lookupExact number s = reply 0x22 .notFound .empty s := by
  unfold lookupExact
  rw [if_neg named, missing]
  rfl

theorem lookupNext_found (found : nextCredential s number = some c) :
    lookupNext number s = reply 0x22 .ok (.credential { c with pin := List.replicate c.pin.length 0 }) s := by
  unfold lookupNext
  rw [found, ← shown_eq]

theorem lookupNext_missing (missing : nextCredential s number = none) :
    lookupNext number s = reply 0x22 .notFound .empty s := by
  unfold lookupNext
  rw [missing]
  rfl

/-! ## A change of the table (R94, R95, R137) -/

/-- The table is put in place, recorded, and every zone's escort condition told. -/
theorem changeTable_frame (table : List Credential) (number : Nat) (d : Detail) (s : State) :
    Frame [.settings] (allZones.map Source.escort) s (changeTable table number d s) ∧
    (changeTable table number d s).store = { s.store with credentials := table } := by
  have put : Frame [.settings] (allZones.map Source.escort) s
      (write .credential 0 number d (s.modStore fun st => { st with credentials := table })) :=
    Frame.trans (modStore_frame List.mem_cons_self rfl) (Frame.write _ _ _ _ _)
  have store := (write_signals .credential 0 number d (s.modStore fun st => { st with credentials := table })).store
  have escorts (u : State) : Frame [] (allZones.map Source.escort) u (forEach allZones reEscort u) :=
    forEach_rel Frame.refl (fun _ _ _ => Frame.trans) _ _ u fun z mem v =>
      Frame.setCondition (List.mem_map_of_mem mem) _ v
  unfold changeTable
  exact ⟨put.trans ((escorts _).mono (fun _ no => nomatch no) fun _ h => h),
    ((escorts _).store_eq List.not_mem_nil List.not_mem_nil).trans store⟩

/-! ## ENROL (R93, R94) -/

/-- What R93 forbids. -/
def Forbidden (r : CredentialRequest) : Prop :=
  r.number = 0 ∨ r.holder = 0 ∨ r.role = 0 ∨ 4 < r.role ∨ 15 < r.schedule ∨
  (r.pinLength ≠ 0 ∧ r.pinLength ≠ 4 ∧ r.pinLength ≠ 5 ∧ r.pinLength ≠ 6) ∨
  (∃ d ∈ r.digits.take r.pinLength, 9 < d) ∨ (r.validFrom ≠ 0 ∧ r.validUntil ≠ 0 ∧ r.validUntil < r.validFrom)

/-- The record that a request asks for. -/
def requestedRecord (r : CredentialRequest) (role : Role) (schedule : ScheduleNo) : Credential where
  number := r.number
  holder := r.holder
  role := role
  doors := r.doors
  schedule := schedule
  pin := r.digits.take r.pinLength
  validFrom := r.validFrom
  validUntil := r.validUntil
  escortRequired := r.escortRequired
  suspended := r.suspended

theorem Role.ofCode_range {code : Nat} {role : Role} (h : Role.ofCode code = some role) : 1 ≤ code ∧ code ≤ 4 := by
  unfold Role.ofCode at h
  split at h
  · omega
  · omega
  · omega
  · omega
  · cases h

theorem digits_bad {digits : List Nat} : digits.all (fun d => decide (d ≤ 9)) = false ↔ ∃ d ∈ digits, 9 < d := by
  rw [List.all_eq_false]
  exact exists_congr fun d => and_congr_right fun _ => by rw [decide_eq_true_eq, Nat.not_le]

theorem accept_record {r : CredentialRequest} {role : Role} {schedule : ScheduleNo} (code : Role.ofCode r.role = some role)
    (number : r.schedule = schedule.val) (allowed : ¬ Forbidden r) :
    CredentialRequest.accept r = some (requestedRecord r role schedule) := by
  unfold CredentialRequest.accept
  rw [code, number, item_val]
  refine if_neg fun bad => allowed ?_
  unfold Forbidden
  rcases bad with numbered | held | length | digit | validity
  · exact .inl numbered
  · exact .inr (.inl held)
  · exact .inr (.inr (.inr (.inr (.inr (.inl (by omega))))))
  · exact .inr (.inr (.inr (.inr (.inr (.inr (.inl (digits_bad.1 digit)))))))
  · exact .inr (.inr (.inr (.inr (.inr (.inr (.inr validity))))))

theorem accept_forbidden {r : CredentialRequest} (bad : Forbidden r) : CredentialRequest.accept r = none := by
  unfold CredentialRequest.accept
  split
  · next role schedule code numbered =>
    have roles := Role.ofCode_range code
    have schedules : r.schedule < 16 := by
      unfold item at numbered
      split at numbered
      · assumption
      · cases numbered
    refine if_pos ?_
    rcases bad with number | held | none_role | high_role | high | length | digit | validity
    · exact .inl number
    · exact .inr (.inl held)
    · omega
    · omega
    · omega
    · exact .inr (.inr (.inl (by omega)))
    · exact .inr (.inr (.inr (.inl (digits_bad.2 digit))))
    · exact .inr (.inr (.inr (.inr validity)))
  · rfl

theorem enrol_accepted {r : CredentialRequest} (accepted : CredentialRequest.accept r = some c)
    (room : (lookup s c.number).isSome = true ∨ s.store.credentials.length < 4096) :
    enrol r s = reply 0x20 .ok .empty (changeTable (insertCredential c s.store.credentials) c.number
      (if (lookup s c.number).isSome = true then .replaced else .added) s) := by
  unfold enrol
  rw [accepted]
  dsimp only
  split
  · rfl
  · next unknown => exact if_pos (room.resolve_left unknown)

/-- What a stored record leaves: the table with the record at its place, and every zone's escort condition told. -/
theorem enrol_answered {r : CredentialRequest} (accepted : CredentialRequest.accept r = some c)
    (room : (lookup s c.number).isSome = true ∨ s.store.credentials.length < 4096) (rising : Rising s.store.credentials) :
    ∃ (t : State) (table : List Credential), exec (.enrol r) s = .next t ∧
      t.store = { s.store with credentials := table } ∧ Rising table ∧ c ∈ table ∧
      (∀ d ∈ s.store.credentials, d.number ≠ c.number → d ∈ table) ∧
      (∀ d ∈ table, d = c ∨ (d ∈ s.store.credentials ∧ d.number ≠ c.number)) ∧
      t.occupancy = s.occupancy ∧ Replied 0x20 .ok .empty s t ∧
      t = reply 0x20 .ok .empty (forEach allZones reEscort (write .credential 0 c.number
        (if (lookup s c.number).isSome = true then .replaced else .added)
        { s with store := { s.store with credentials := table } })) := by
  obtain ⟨frame, store⟩ := changeTable_frame (insertCredential c s.store.credentials) c.number
    (if (lookup s c.number).isSome = true then .replaced else .added) s
  have form : changeTable (insertCredential c s.store.credentials) c.number
      (if (lookup s c.number).isSome = true then .replaced else .added) s = forEach allZones reEscort
        (write .credential 0 c.number (if (lookup s c.number).isSome = true then .replaced else .added)
          { s with store := { s.store with credentials := insertCredential c s.store.credentials } }) := rfl
  refine ⟨_, insertCredential c s.store.credentials, congrArg Host.Outcome.next (enrol_accepted accepted room), ?_⟩
  generalize changeTable (insertCredential c s.store.credentials) c.number
    (if (lookup s c.number).isSome = true then .replaced else .added) s = u at frame store form ⊢
  exact ⟨store, insertCredential_rising rising, insertCredential_self _, fun d mem other => insertCredential_keeps other mem,
    fun d mem => insertCredential_replaces rising mem, frame.occupancy (by decide),
    replied_reply (frame.link (by decide)) _ _ _, congrArg (reply 0x20 .ok .empty) form⟩

theorem enrol_full {r : CredentialRequest} (accepted : CredentialRequest.accept r = some c)
    (unknown : ¬ (lookup s c.number).isSome = true) (full : 4096 ≤ s.store.credentials.length) :
    enrol r s = reply 0x20 .full .empty s := by
  unfold enrol
  rw [accepted]
  exact (if_neg unknown).trans (if_neg (Nat.not_lt.2 full))

theorem enrol_refused {r : CredentialRequest} (bad : Forbidden r) : enrol r s = reply 0x20 .param .empty s := by
  unfold enrol
  rw [accept_forbidden bad]
  rfl

/-! ## REVOKE (R95) -/

theorem revoke_known (named : number ≠ 0) (known : (lookup s number).isSome = true) : revoke number s =
    reply 0x21 .ok .empty (changeTable (s.store.credentials.filter fun c => decide (c.number ≠ number)) number .revoked s) :=
  (if_neg named).trans (if_pos known)

theorem revoke_unknown (named : number ≠ 0) (unknown : lookup s number = none) :
    revoke number s = reply 0x21 .notFound .empty s :=
  (if_neg named).trans (if_neg (by rw [unknown]; nofun))

/-- A revoked credential is unknown to the next reader it is shown to (R95, R112). -/
theorem present_revoked {r : ReaderNo} {digits : List Nat} (follows : GateFollows t)
    (table : t.store.credentials = s.store.credentials.filter fun c => decide (c.number ≠ number))
    (opened : t.readers[r].lockout = none) : exec (.presentation r number digits) t =
      .next (write .refuse r.val number (.refusal .unknown) t) := by
  have unknown : lookup t number = none := lookup_none fun c mem => by
    rw [table] at mem
    exact of_decide_eq_true (List.mem_filter.1 mem).2
  exact (congrArg finish (present_unknown opened unknown)).trans (finish_refuse follows _)

end

end Sys2Proof.Machine

namespace Sys2Proof.Proofs

open Sys2Proof.Machine

/-- Settles O35, message by message: the table stays sorted by number, so that a search finds the one record there is. -/
theorem credentialTableIsKeptAndRead : Obligations.CredentialTableIsKeptAndRead := by
  refine ⟨fun s r rising => ⟨fun role schedule code number allowed => ⟨fun room => ?_, fun unknown full => ?_⟩,
      fun bad => congrArg Host.Outcome.next (enrol_refused bad)⟩,
    fun s number digits => ⟨fun named known => ?_, fun zero => congrArg Host.Outcome.next (if_pos zero),
      fun named unknown => congrArg Host.Outcome.next (revoke_unknown named unknown)⟩,
    fun s number rising => ⟨fun zero => congrArg Host.Outcome.next (if_pos zero), fun named c mem same => ?_,
      fun named absent => congrArg Host.Outcome.next (lookupExact_missing named (lookup_none absent)), fun c mem above least => ?_,
      fun below => congrArg Host.Outcome.next (lookupNext_missing (nextCredential_none below)), rfl⟩⟩
  · exact enrol_answered (accept_record code number allowed) room rising
  · exact congrArg Host.Outcome.next (enrol_full (accept_record code number allowed) unknown full)
  · obtain ⟨frame, store⟩ := changeTable_frame (s.store.credentials.filter fun c => decide (c.number ≠ number)) number .revoked s
    have form : changeTable (s.store.credentials.filter fun c => decide (c.number ≠ number)) number .revoked s =
      forEach allZones reEscort (write .credential 0 number .revoked
        { s with store := { s.store with credentials := s.store.credentials.filter fun c => decide (c.number ≠ number) } }) := rfl
    refine ⟨_, congrArg Host.Outcome.next (revoke_known named known), ?_⟩
    generalize changeTable (s.store.credentials.filter fun c => decide (c.number ≠ number)) number .revoked s = u
      at frame store form ⊢
    have answered : Frame [.settings, .link] (allZones.map Source.escort) s (reply 0x21 .ok .empty u) :=
      (frame.mono (by decide) fun _ h => h).trans (reply_frame (by decide) _ _ _ _)
    rw [← store] at form
    refine ⟨store, congrArg (reply 0x21 .ok .empty) form, frame.occupancy (by decide), frame.doors (by decide),
      frame.custody (by decide), fun reader follows opened => ?_⟩
    refine present_revoked (s := s) (follows.of_frame answered (by decide) (by decide)) (congrArg Store.credentials store) ?_
    rw [answered.readers (by decide)]
    exact opened
  · exact congrArg Host.Outcome.next (lookupExact_found named (same ▸ lookup_of_mem rising mem))
  · exact congrArg Host.Outcome.next (lookupNext_found (nextCredential_of_least rising mem above least))

end Sys2Proof.Proofs
end

section
/-! SET_SOURCE and SET_THRESHOLD (R157, R158, R162). -/

namespace Sys2Proof.Machine

section
variable {s t u : State} {src first last : Source} {v : SourceSettings} {prio : Nat} {enable : Bool}

/-! ## A record of a settings message (R183) -/

theorem recorded_of_stands {k : RecordKind} {a b : Nat} {d : Detail} {i : Nat}
    (h : s.journal.newest < 4294967295 → Stands (nextRecord s k a b d) i t) : Recorded k a b d s t := fun room => (h room).mem

theorem writeConfig_stands {f : Store → Store} (a : Nat) (d : Detail) (room : s.journal.newest < 4294967295) :
    Stands (nextRecord s .config a 0 d) 1 (writeConfig a d (s.modStore f)) := write_stands (s := s.modStore f) room _ _ _ _

theorem liftSuppression_stands {r : Record} {i : Nat} (before : State) (h : Stands r i u) :
    Stands r i (liftSuppression before u) := by
  unfold liftSuppression
  split
  · exact h
  · exact h

/-! ## Suppression that is lifted (R162) -/

theorem liftSuppression_eligible (before : State) : eligible (liftSuppression before u) src = eligible u src := by
  unfold liftSuppression
  split <;> rfl

theorem liftSuppression_lifts (new : ∃ src, eligible u src = true ∧ eligible s src = false) :
    (liftSuppression s u).alarm.suppressed = false := by
  obtain ⟨src, now, before⟩ := new
  have some_new : (allSources.any fun src => eligible u src && !eligible s src) = true :=
    List.any_eq_true.2 ⟨src, List.mem_finRange src, by rw [now, before]; rfl⟩
  unfold liftSuppression
  rw [if_pos some_new]
  rfl

/-- What storing alarm settings leaves: a record, and the attention line lifted for a source that is newly eligible. -/
structure AlarmSet (f : Store → Store) (a : Nat) (d : Detail) (s t : State) : Prop where
  frame : Frame [.settings, .link] [] s t
  store : t.store = f s.store
  lifts : (∃ src, eligible t src = true ∧ eligible s src = false) → t.alarm.suppressed = false
  recorded : Recorded .config a 0 d s t
  link : t.link = s.link

theorem alarmSet {f : Store → Store} (records : (f s.store).records = s.store.records) (a : Nat) (d : Detail) :
    AlarmSet f a d s (liftSuppression s (writeConfig a d (s.modStore f))) := by
  have frame : Frame [.settings, .link] [] s (writeConfig a d (s.modStore f)) := stored_frame (by decide) records a d
  have store := stored_store f a d s
  have stands := writeConfig_stands (s := s) (f := f) a d
  have link : (writeConfig a d (s.modStore f)).link = s.link := (writeConfig_signals a d (s.modStore f)).link
  generalize writeConfig a d (s.modStore f) = u at frame store stands link ⊢
  have lifted := liftSuppression_signals s u
  refine ⟨frame.trans ((liftSuppression_affects [] s u).frame fun _ h => h), lifted.store.trans store, fun new => ?_,
    recorded_of_stands fun room => liftSuppression_stands s (stands room), lifted.link.trans link⟩
  simp only [liftSuppression_eligible] at new
  exact liftSuppression_lifts new

theorem stored_eq (p : Prop) [Decidable p] : stored (decide p) = if p then .adjusted else .ok := by
  unfold stored
  simp only [decide_eq_true_eq]

/-! ## SET_SOURCE (R157) -/

theorem inSourceRange_iff : inSourceRange first last src = true ↔ first ≤ src ∧ src ≤ last := decide_eq_true_iff

/-- The table with the settings of a range of sources replaced. -/
abbrev sourceTable (first last : Source) (v : SourceSettings) (s : State) : Vector SourceSettings 115 :=
  Vector.ofFn fun src => if first ≤ src ∧ src ≤ last then v else s.store.sources[src]

theorem applySource_eq (first last : Source) (v : SourceSettings) (s : State) : applySource first last v s =
    liftSuppression s (writeConfig (first.val + 1) (.kind 0x17)
      (s.modStore fun st => { st with sources := sourceTable first last v s })) := by
  unfold applySource
  simp only [inSourceRange_iff]
  rfl

theorem yesNo_code (enable : Bool) : YesNo.ofCode (if enable then 1 else 2) = some enable := by cases enable <;> rfl

theorem setSource_known : setSource (first.val + 1) (last.val + 1) prio (if enable then 1 else 2) s =
    if last < first then refuse 0x17 .param s
    else if s.alarm.inService.any fun src => inSourceRange first last src && decide (priority s src ≠ min 7 prio) then
      refuse 0x17 .state s
    else reply 0x17 (stored (decide (7 < prio))) (.source first last ⟨min 7 prio, enable⟩)
      (applySource first last ⟨min 7 prio, enable⟩ s) := by
  unfold setSource
  rw [sourceNumbered_val, sourceNumbered_val, yesNo_code]

theorem sourceNumbered_of_bad {x : Nat} (bad : x = 0 ∨ 115 < x) : sourceNumbered x = none := by
  unfold sourceNumbered
  split
  · rfl
  · exact item_of_ge (by omega)

theorem yesNo_bad {x : Nat} (bad : x = 0 ∨ 2 < x) : YesNo.ofCode x = none := by
  unfold YesNo.ofCode
  split
  · omega
  · omega
  · rfl

theorem setSource_unknown {x y p e : Nat} (bad : x = 0 ∨ 115 < x ∨ y = 0 ∨ 115 < y ∨ e = 0 ∨ 2 < e) :
    setSource x y p e s = reply 0x17 .param .empty s := by
  unfold setSource
  split
  · next a b c first last code =>
    have known {z : Nat} {w : Source} (h : sourceNumbered z = some w) : ¬ (z = 0 ∨ 115 < z) := fun bad => by
      rw [sourceNumbered_of_bad bad] at h
      cases h
    have coded : ¬ (e = 0 ∨ 2 < e) := fun bad => by
      rw [yesNo_bad bad] at code
      cases code
    have := known first
    have := known last
    omega
  · rfl

/-- A source in service whose priority the message would change holds it off. -/
theorem served_iff : (s.alarm.inService.any fun src => inSourceRange first last src && decide (priority s src ≠ prio)) = true ↔
    ∃ src ∈ s.alarm.inService, (first ≤ src ∧ src ≤ last) ∧ priority s src ≠ prio := by
  rw [List.any_eq_true]
  exact exists_congr fun src => and_congr_right fun _ => by rw [Bool.and_eq_true, inSourceRange_iff, decide_eq_true_eq]

theorem notificationLevel_congr (service : t.alarm.inService = s.alarm.inService) (store : t.store = s.store) :
    notificationLevel t = notificationLevel s := by
  unfold notificationLevel priority
  rw [service, store]

end

end Sys2Proof.Machine

namespace Sys2Proof.Proofs

open Sys2Proof.Machine

/-- Settles O48: the settings are stored and recorded, and the attention line is lifted where they make a source eligible. -/
theorem sourceSettingsAndThreshold : Obligations.SourceSettingsAndThreshold := by
  refine ⟨fun s first last prio enable => ⟨fun ordered free => ?_, fun ordered held => ?_, fun crossed => ?_, fun x y e bad =>
    congrArg Host.Outcome.next (setSource_unknown bad)⟩, fun s threshold => ?_⟩
  · have open_ : ¬ (s.alarm.inService.any fun src => inSourceRange first last src && decide (priority s src ≠ min 7 prio)) = true :=
      fun held => by
        obtain ⟨src, served, within, other⟩ := served_iff.1 held
        exact other (free src served within)
    have answer := (setSource_known (s := s) (prio := prio) (enable := enable)).trans
      ((if_neg (Fin.not_lt.2 ordered)).trans (if_neg open_))
    rw [applySource_eq] at answer
    refine ⟨_, congrArg Host.Outcome.next answer, ?_⟩
    obtain ⟨frame, store, _, recorded, link⟩ := alarmSet (s := s)
      (f := fun st => { st with sources := sourceTable first last ⟨min 7 prio, enable⟩ s }) rfl (first.val + 1) (.kind 0x17)
    generalize liftSuppression s _ = u at frame store recorded link ⊢
    rw [stored_eq]
    exact ⟨frame.trans (reply_frame (by decide) _ _ _ _), store, recorded, replied_reply link _ _ _⟩
  · exact congrArg Host.Outcome.next (setSource_known.trans ((if_neg (Fin.not_lt.2 ordered)).trans (if_pos (served_iff.2 held))))
  · exact congrArg Host.Outcome.next (setSource_known.trans (if_pos crossed))
  · have answer : setThreshold threshold s = reply 0x18 (stored (decide (7 < threshold))) (.threshold (min 7 threshold))
        (liftSuppression s (writeConfig 0 (.value (min 7 threshold))
          (s.modStore fun st => { st with threshold := min 7 threshold }))) := rfl
    refine ⟨_, congrArg Host.Outcome.next answer, ?_⟩
    obtain ⟨frame, store, lifts, recorded, link⟩ := alarmSet (s := s)
      (f := fun st => { st with threshold := min 7 threshold }) rfl 0 (.value (min 7 threshold))
    generalize liftSuppression s _ = u at frame store lifts recorded link ⊢
    rw [stored_eq]
    have level : notificationLevel u = notificationLevel (s.modStore fun st => { st with threshold := min 7 threshold }) :=
      notificationLevel_congr frame.inService store
    exact ⟨frame.trans (reply_frame (by decide) _ _ _ _), store,
      (notificationLevel_reply _ _ _).trans (level.trans rfl), lifts, recorded, replied_reply link _ _ _⟩

end Sys2Proof.Proofs
end

section
/-! The line supervisor's flags, and the messages about them and about test runs (R168, R171, R176, R178, R179). -/

namespace Sys2Proof.Machine

variable {s t : State} {c d : CircuitNo} {z : Zone}

/-! ## The sources -/

theorem circuit_lines (c : CircuitNo) : Source.circuit c ∈ lineSources := by revert c; decide
theorem impaired_lines (z : Zone) : Source.impaired z ∈ lineSources := by revert z; decide
theorem supply_lines : Source.supply ∈ lineSources := by decide
theorem circuit_ne_backlog (c : CircuitNo) : Source.circuit c ≠ Source.backlog := by revert c; decide
theorem supply_ne_backlog : Source.supply ≠ Source.backlog := by decide
theorem circuit_ne_impaired (c : CircuitNo) (z : Zone) : Source.circuit c ≠ Source.impaired z := by revert c z; decide
theorem supply_ne_impaired (z : Zone) : Source.supply ≠ Source.impaired z := by revert z; decide
theorem circuit_ne_supply (c : CircuitNo) : Source.circuit c ≠ Source.supply := by revert c; decide

theorem circuit_ne_circuit (other : c ≠ d) : Source.circuit c ≠ Source.circuit d := fun same => by
  have number := congrArg Fin.val same
  unfold Source.circuit at number
  dsimp only at number
  exact other (Fin.ext (by omega))

/-! ## A circuit's flags (R168) -/

theorem setFlags_frame {srcs : List Source} (c : CircuitNo) (f : CircuitFlags → CircuitFlags) (s : State) :
    Frame [.flags] srcs s (s.modLine fun l => { l with flags := upd l.flags c f }) :=
  { Frame.refl s with flags := fun no => absurd List.mem_cons_self no }

/-- The circuit's condition as its new flags give it; the zone's is still to follow. -/
def flagsChanged (c : CircuitNo) (f : CircuitFlags → CircuitFlags) (s : State) : State :=
  setCondition (Source.circuit c) (CircuitFlags.any (f s.line.flags[c])) (s.modLine fun l => { l with flags := upd l.flags c f })

theorem changeFlags_eq (c : CircuitNo) (f : CircuitFlags → CircuitFlags) (s : State) : changeFlags c f s =
    match circuitZone c with
    | some z => reImpaired z (flagsChanged c f s)
    | none => flagsChanged c f s := by
  have flagged : circuitFlagged (s.modLine fun l => { l with flags := upd l.flags c f }) c = CircuitFlags.any (f s.line.flags[c]) := by
    unfold circuitFlagged
    rw [State.modLine_line, upd_same]
  unfold changeFlags flagsChanged
  dsimp only
  rw [flagged] <;> rfl

theorem flagsChanged_frame (c : CircuitNo) (f : CircuitFlags → CircuitFlags) (s : State) :
    Frame [.flags] lineSources s (flagsChanged c f s) :=
  (setFlags_frame c f s).trans (Frame.setCondition (circuit_lines c) _ _)

/-- A further condition of a zone is the only other thing that a change of flags tells. -/
theorem changeFlags_induction {P : State → Prop} (f : CircuitFlags → CircuitFlags) (changed : P (flagsChanged c f s))
    (impaired : ∀ (z : Zone) (u : State), P u → P (reImpaired z u)) : P (changeFlags c f s) := by
  rw [changeFlags_eq]
  split
  · exact impaired _ _ changed
  · exact changed

theorem changeFlags_frame (c : CircuitNo) (f : CircuitFlags → CircuitFlags) (s : State) :
    Frame [.flags] lineSources s (changeFlags c f s) :=
  changeFlags_induction f (flagsChanged_frame c f s) fun z _ h => h.trans (Frame.setCondition (impaired_lines z) _ _)

theorem changeFlags_flags (c : CircuitNo) (f : CircuitFlags → CircuitFlags) (s : State) :
    (changeFlags c f s).line.flags = upd s.line.flags c f :=
  changeFlags_induction (P := fun u => u.line.flags = upd s.line.flags c f) f (setCondition_signals _ _ _).flags
    fun _ _ h => (setCondition_signals _ _ _).flags.trans h

theorem reImpaired_condition {src : Source} (z : Zone) (other : src ≠ Source.impaired z) (owned : src ≠ Source.backlog)
    (s : State) : (reImpaired z s).alarm.condition[src] = s.alarm.condition[src] :=
  (setCondition_affects _ _ s).conditionSame src (by rwa [List.mem_singleton]) owned

/-- The circuit's condition follows its flags. -/
theorem changeFlags_condition (c : CircuitNo) (f : CircuitFlags → CircuitFlags) (s : State) :
    (changeFlags c f s).alarm.condition[Source.circuit c] = CircuitFlags.any (f s.line.flags[c]) :=
  changeFlags_induction (P := fun u => u.alarm.condition[Source.circuit c] = CircuitFlags.any (f s.line.flags[c])) f
    (setCondition_condition _ _ (circuit_ne_backlog c)) fun z u h =>
      (reImpaired_condition z (circuit_ne_impaired c z) (circuit_ne_backlog c) u).trans h

theorem changeFlags_others (other : d ≠ c) (f : CircuitFlags → CircuitFlags) (s : State) :
    (changeFlags c f s).alarm.condition[Source.circuit d] = s.alarm.condition[Source.circuit d] :=
  changeFlags_induction (P := fun u => u.alarm.condition[Source.circuit d] = s.alarm.condition[Source.circuit d]) f
    ((setCondition_affects (Source.circuit c) _ _).conditionSame _
      (by rw [List.mem_singleton]; exact circuit_ne_circuit other) (circuit_ne_backlog d)) fun z u h =>
      (reImpaired_condition z (circuit_ne_impaired d z) (circuit_ne_backlog d) u).trans h

/-! ## The SUPPLY flag (R168) -/

/-- The supply's condition as its new flag gives it; the zones' are still to follow. -/
def supplyChanged (b : Bool) (s : State) : State := setCondition Source.supply b (s.modLine fun l => { l with supply := b })

theorem changeSupply_induction {P : State → Prop} {b : Bool} (changed : P (supplyChanged b s))
    (impaired : ∀ (z : Zone) (u : State), P u → P (reImpaired z u)) : P (changeSupply b s) :=
  forEach_closed impaired allZones changed

theorem changeSupply_frame (b : Bool) (s : State) : Frame [.supply] lineSources s (changeSupply b s) := by
  have set : Frame [.supply] lineSources s (s.modLine fun l => { l with supply := b }) :=
    { Frame.refl s with supply := fun no => absurd List.mem_cons_self no }
  exact changeSupply_induction (P := Frame [.supply] lineSources s) (set.trans (Frame.setCondition supply_lines _ _))
    fun z _ h => h.trans (Frame.setCondition (impaired_lines z) _ _)

theorem changeSupply_supply (b : Bool) (s : State) : (changeSupply b s).line.supply = b :=
  changeSupply_induction (P := fun u => u.line.supply = b) (setCondition_signals _ _ _).supply
    fun _ _ h => (setCondition_signals _ _ _).supply.trans h

theorem changeSupply_condition (b : Bool) (s : State) : (changeSupply b s).alarm.condition[Source.supply] = b :=
  changeSupply_induction (P := fun u => u.alarm.condition[Source.supply] = b)
    (setCondition_condition _ _ supply_ne_backlog) fun z u h =>
      (reImpaired_condition z (supply_ne_impaired z) supply_ne_backlog u).trans h

theorem changeSupply_circuit (b : Bool) (c : CircuitNo) (s : State) :
    (changeSupply b s).alarm.condition[Source.circuit c] = s.alarm.condition[Source.circuit c] :=
  changeSupply_induction (P := fun u => u.alarm.condition[Source.circuit c] = s.alarm.condition[Source.circuit c])
    ((setCondition_affects Source.supply b _).conditionSame _
      (by rw [List.mem_singleton]; exact circuit_ne_supply c) (circuit_ne_backlog c)) fun z u h =>
      (reImpaired_condition z (circuit_ne_impaired c z) (circuit_ne_backlog c) u).trans h

/-! ## LINE_CLEAR (R176) -/

/-- The circuits that a selection names. -/
abbrev chosenCircuits (selection : Nat) : List CircuitNo := allCircuits.filter fun c => selected selection c

theorem mem_chosenCircuits {selection : Nat} : c ∈ chosenCircuits selection ↔ selection.testBit c.val = true := by
  rw [chosenCircuits, List.mem_filter]
  exact and_iff_right (List.mem_finRange c)

/-- The flags of the chosen circuits cleared. -/
abbrev circuitsCleared (selection : Nat) (s : State) : State :=
  forEach (chosenCircuits selection) (fun c => changeFlags c fun _ => ⟨false, false⟩) s

theorem circuitsCleared_frame (selection : Nat) (s : State) : Frame [.flags] lineSources s (circuitsCleared selection s) :=
  forEach_rel Frame.refl (fun _ _ _ => Frame.trans) _ _ s fun c _ u => changeFlags_frame c _ u

theorem circuitsCleared_flags (selection : Nat) (s : State) (c : CircuitNo) : (circuitsCleared selection s).line.flags[c] =
    if selection.testBit c.val then ⟨false, false⟩ else s.line.flags[c] := by
  have cleared := forEach_entry (get := fun u : State => u.line.flags[c]) (g := fun _ => ⟨false, false⟩)
    (f := fun c => changeFlags c fun _ => ⟨false, false⟩) (fun d u other => by
      rw [changeFlags_flags, upd_other _ _ _ _ other]) (fun u => by rw [changeFlags_flags, upd_same]) (fun _ => rfl)
    (chosenCircuits selection) s
  simp only [mem_chosenCircuits] at cleared
  exact cleared

theorem circuitsCleared_condition {selection : Nat} (chosen : selection.testBit c.val = true) (s : State) :
    (circuitsCleared selection s).alarm.condition[Source.circuit c] = false :=
  (forEach_entry (get := fun u : State => u.alarm.condition[Source.circuit c]) (g := fun _ => false)
    (f := fun c => changeFlags c fun _ => ⟨false, false⟩) (fun _ u other => changeFlags_others (Ne.symm other) _ u)
    (fun u => changeFlags_condition c _ u) (fun _ => rfl) (chosenCircuits selection) s).trans
    (if_pos (mem_chosenCircuits.2 chosen))

/-- The chosen flags cleared, the SUPPLY flag with bit 16. -/
def flagsCleared (selection : Nat) (s : State) : State :=
  if selection.testBit 16 then changeSupply false (circuitsCleared selection s) else circuitsCleared selection s

theorem lineClear_eq {selection : Nat} (ok : selection ≠ 0 ∧ selection < 2 ^ 17) : lineClear selection s =
    reply 0x62 .ok (.lineFlags (flagsCleared selection s).line.flags (flagsCleared selection s).line.supply)
      (writeConfig 0 .clear (flagsCleared selection s)) := by
  unfold lineClear
  rw [selectionOk_iff.2 ok, Bool.not_true, if_neg Bool.false_ne_true]
  rfl

/-- What LINE_CLEAR leaves of the flags and their conditions. -/
structure FlagsCleared (selection : Nat) (s t : State) : Prop where
  frame : Frame [.flags, .supply] lineSources s t
  flags : ∀ c : CircuitNo, t.line.flags[c] = if selection.testBit c.val then ⟨false, false⟩ else s.line.flags[c]
  supply : t.line.supply = (s.line.supply && !selection.testBit 16)
  circuits : ∀ c : CircuitNo, selection.testBit c.val = true → t.alarm.condition[Source.circuit c] = false
  supplied : selection.testBit 16 = true → t.alarm.condition[Source.supply] = false

theorem flagsCleared_cleared (selection : Nat) (s : State) : FlagsCleared selection s (flagsCleared selection s) := by
  have frame := circuitsCleared_frame selection s
  have flags := circuitsCleared_flags selection s
  have conditions := fun (c : CircuitNo) (chosen : selection.testBit c.val = true) => circuitsCleared_condition chosen s
  unfold flagsCleared
  generalize circuitsCleared selection s = u at frame flags conditions ⊢
  have widened : Frame [.flags, .supply] lineSources s u := frame.mono (by decide) fun _ h => h
  split
  · next chosen =>
    have supplied := changeSupply_frame false u
    refine ⟨widened.trans (supplied.mono (by decide) fun _ h => h), fun c => ?_, ?_, fun c named => ?_,
      fun _ => changeSupply_condition false u⟩
    · rw [supplied.flags (by decide)]
      exact flags c
    · rw [changeSupply_supply, chosen, Bool.not_true, Bool.and_false]
    · rw [changeSupply_circuit]
      exact conditions c named
  · next left =>
    refine ⟨widened, flags, ?_, conditions, fun chosen => absurd chosen left⟩
    rw [frame.supply (by decide), Bool.eq_false_iff.2 left, Bool.not_false, Bool.and_true]

theorem FlagsCleared.write {selection : Nat} (h : FlagsCleared selection s t) (k : RecordKind) (a b : Nat) (d : Detail) :
    FlagsCleared selection s (write k a b d t) := by
  have told := write_affects [] k a b d t
  refine ⟨h.frame.trans (Frame.write _ _ _ _ _), fun c => by rw [told.flags]; exact h.flags c, told.supply.trans h.supply,
    fun c chosen => (told.conditionSame _ List.not_mem_nil (circuit_ne_backlog c)).trans (h.circuits c chosen),
    fun chosen => (told.conditionSame _ List.not_mem_nil supply_ne_backlog).trans (h.supplied chosen)⟩

/-! ## Test runs that start (R171, R178) -/

theorem anyFiring_iff : anyFiring s = true ↔ ∃ z : Zone, s.release[z].firing.isSome = true := by
  unfold anyFiring
  rw [List.any_eq_true]
  exact exists_congr fun z => and_iff_right (List.mem_finRange z)

/-- No run may start (R171). -/
abbrev Busy (s : State) : Prop := s.line.run.state = .running ∨ ∃ z : Zone, s.release[z].firing.isSome = true

theorem busy_iff : Busy s ↔ s.line.run.state = .running ∨ anyFiring s = true := by
  rw [anyFiring_iff]

theorem lineTest_free {selection : Nat} (ok : selection ≠ 0 ∧ selection < 2 ^ 16) (free : ¬ Busy s) : lineTest selection s =
    reply 0x60 .ok .empty (s.modRun fun _ => RunRecord.fresh .host fun c => selection.testBit c.val) := by
  unfold lineTest
  rw [selectionOk_iff.2 ok]
  exact if_neg fun busy => free (busy_iff.2 busy)

theorem lineTest_busy {selection : Nat} (ok : selection ≠ 0 ∧ selection < 2 ^ 16) (busy : Busy s) :
    lineTest selection s = reply 0x60 .state .empty s := by
  unfold lineTest
  rw [selectionOk_iff.2 ok]
  exact if_pos (busy_iff.1 busy)

theorem lineTest_bad {selection : Nat} (bad : selection = 0 ∨ 2 ^ 16 ≤ selection) :
    lineTest selection s = reply 0x60 .param .empty s := by
  unfold lineTest
  rw [selection_bad bad]
  rfl

theorem expirePeriodic_busy (running : s.line.periodic.isSome = true) (busy : Busy s) : expirePeriodic s =
    s.modLine fun l => { l with periodic := if s.store.testInterval = 0 then none else some (60 * s.store.testInterval) } :=
  (if_pos running).trans (if_pos (busy_iff.1 busy))

theorem expirePeriodic_free (running : s.line.periodic.isSome = true) (free : ¬ Busy s) : expirePeriodic s =
    s.modLine fun l =>
      { l with
        periodic := if s.store.testInterval = 0 then none else some (60 * s.store.testInterval)
        run := RunRecord.fresh .periodic fun c => !(l.flags[c].shortFlag || l.flags[c].openFlag) } :=
  (if_pos running).trans (if_neg fun busy => free (busy_iff.2 busy))

end Sys2Proof.Machine

namespace Sys2Proof.Proofs

open Sys2Proof.Machine

/-- Settles O52, message by message. -/
theorem lineMessagesAct : Obligations.LineMessagesAct := by
  refine ⟨fun s selection => ⟨fun ok => ⟨fun free => congrArg Host.Outcome.next (lineTest_free ok free),
      fun busy => congrArg Host.Outcome.next (lineTest_busy ok busy)⟩,
      fun bad => congrArg Host.Outcome.next (lineTest_bad bad), fun running => ?_, fun off => ?_⟩,
    fun s selection f => ⟨fun ok => ?_, fun bad => ?_, rfl⟩⟩
  · refine congrArg Host.Outcome.next ?_
    by_cases busy : Busy s
    · refine (expirePeriodic_busy running busy).trans ?_
      unfold State.modLine
      dsimp only
      rw [if_pos busy]
    · refine (expirePeriodic_free running busy).trans ?_
      unfold State.modLine
      dsimp only
      rw [if_neg busy]
      rfl
  · exact congrArg Host.Outcome.next (if_neg (by rw [off]; nofun))
  · obtain ⟨frame, flags, supply, circuits, supplied⟩ := (flagsCleared_cleared selection s).write .config 0 0 .clear
    have answer := lineClear_eq (s := s) ok
    have told := writeConfig_signals 0 .clear (flagsCleared selection s)
    rw [← told.flags, ← told.supply] at answer
    refine ⟨_, congrArg Host.Outcome.next answer, ?_⟩
    unfold writeConfig
    generalize write .config 0 0 .clear (flagsCleared selection s) = u at frame flags supply circuits supplied ⊢
    exact ⟨(frame.mono (by decide) fun _ h => h).trans (reply_frame (by decide) _ _ _ _), flags, supply, circuits, supplied,
      replied_reply (frame.link (by decide)) _ _ _⟩
  · refine congrArg Host.Outcome.next ?_
    unfold lineClear
    rw [selection_bad bad]
    rfl

end Sys2Proof.Proofs
end

section
/-! The checks of a test run (R172 to R175). -/

namespace Sys2Proof.Machine

/-! ## Outside a run nothing is abandoned -/

section
variable {s t u : State} {c d : CircuitNo} {ρ : RunRecord}

/-- Two visits that agree where the property holds make the same fold. -/
theorem forEach_congr_of {α : Type} {P : State → Prop} {f g : α → State → State} (same : ∀ a s, P s → f a s = g a s)
    (keeps : ∀ a s, P s → P (g a s)) : ∀ (l : List α) {s : State}, P s → forEach l f s = forEach l g s
  | [], _, _ => rfl
  | a :: l, s, h => by
    rw [forEach_cons, forEach_cons, same a s h]
    exact forEach_congr_of same keeps l (keeps a s h)

theorem abandonCheck_idle (h : checking s c = false) : abandonCheck c s = s := if_neg (by rw [h]; nofun)

theorem checking_notRunning (h : NotRunning s) : checking s c = false :=
  Bool.eq_false_iff.2 fun progress => h (checking_iff.1 progress).1

theorem refreshOutputWith_notRunning (o : OutputNo) (h : NotRunning s) :
    refreshOutputWith abandonCheck o s = refreshOutputWith (fun _ s => s) o s := by
  unfold refreshOutputWith
  split
  · rfl
  · split
    · exact abandonCheck_idle (checking_notRunning (s := s.modOutput o fun v => { v with on := true }) h)
    · rfl

theorem deliverWith_notRunning (src : Source) (h : NotRunning s) :
    deliverWith abandonCheck src s = deliverWith (fun _ s => s) src s := by
  unfold deliverWith
  exact forEach_congr_of (P := NotRunning) (f := refreshOutputWith abandonCheck) (g := refreshOutputWith fun _ s => s)
    (fun o _ h => refreshOutputWith_notRunning o h) (fun o _ h => notRunning_react.refreshOutputWith (fun _ h => h) o h) _ h

theorem clearSilence_run (src : Source) (s : State) : (clearSilence src s).line = s.line :=
  forEach_keeps (P := fun u => u.line = s.line) _ _ s (fun _ _ _ h => h) rfl

theorem setPendingWith_notRunning (src : Source) (b : Bool) (h : NotRunning s) :
    setPendingWith abandonCheck src b s = setPendingWith (fun _ s => s) src b s := by
  have silent := clearSilence_run src (s.modAlarm fun a => { a with pending := upd a.pending src fun _ => b })
  have quiet : NotRunning (clearSilence src (s.modAlarm fun a => { a with pending := upd a.pending src fun _ => b })) := by
    unfold NotRunning
    rwa [silent]
  unfold setPendingWith
  split
  · rfl
  · dsimp only
    refine deliverWith_notRunning src ?_
    split <;> split
    · exact quiet
    · exact h
    · exact quiet
    · exact h

theorem setConditionWith_notRunning (src : Source) (b : Bool) (h : NotRunning s) :
    setConditionWith abandonCheck src b s = setConditionWith (fun _ s => s) src b s := by
  have delivered : NotRunning (deliverWith (fun _ s => s) src
      (s.modAlarm fun a => { a with condition := upd a.condition src fun _ => b })) :=
    notRunning_react.deliverWith (fun _ h => h) src h
  unfold setConditionWith
  split
  · rfl
  · dsimp only
    rw [deliverWith_notRunning src (s := s.modAlarm fun a => { a with condition := upd a.condition src fun _ => b }) h]
    split
    · rfl
    · exact setPendingWith_notRunning src _ delivered

/-- A run that has ended can lose no check, so the record of its end is a record like any other (R175). -/
theorem endRun_eq (s : State) : endRun s = write .lineResult 0 0 .lineDone (s.modRun fun run => { run with state := .done }) :=
  (setConditionWith_notRunning _ _ (notRunning_react.push _ _ _ _
    (nofun : NotRunning (s.modRun fun run => { run with state := .done })))).symm

/-! ## What a turn passes over (R173) -/

theorem circuitOn_iff : circuitOn s c = true ↔ ∃ o : OutputNo, c.val = 8 + o.val ∧ s.outputs[o].on = true := by
  unfold circuitOn circuitOutput
  split
  · next o found =>
    split at found
    · next annunciator =>
      cases found
      refine ⟨fun on => ⟨_, by dsimp only; omega, on⟩, fun ⟨o, number, on⟩ => ?_⟩
      have same : o = ⟨c.val - 8, by omega⟩ := Fin.ext (by dsimp only; omega)
      rwa [← same]
    · cases found
  · next found =>
    split at found
    · cases found
    · next release => exact iff_of_false nofun fun ⟨o, number, _⟩ => release (by omega)

theorem circuitFlagged_iff : circuitFlagged s c = true ↔ s.line.flags[c].shortFlag = true ∨ s.line.flags[c].openFlag = true :=
  Bool.or_eq_true_iff

theorem skippedAtTurn_iff : SkippedAtTurn s c ↔ circuitFlagged s c = true ∨ circuitOn s c = true := by
  unfold SkippedAtTurn
  rw [← or_assoc, ← circuitFlagged_iff, ← circuitOn_iff]

/-- The waiting circuits of a list, passed over. -/
def passedOver (l : List CircuitNo) (s : State) : State := s.modRun fun run => { run with
  results := Vector.ofFn fun x => if x ∈ l ∧ run.results[x] = .waiting then skippedResult s x else run.results[x] }

theorem modRun_congr {f g : RunRecord → RunRecord} (same : f s.line.run = g s.line.run) : s.modRun f = s.modRun g := by
  unfold State.modRun
  rw [same]

theorem modRun_modRun (f g : RunRecord → RunRecord) : (s.modRun f).modRun g = s.modRun fun run => g (f run) := rfl

theorem ofFn_get {α : Type} {n : Nat} (f : Fin n → α) (i : Fin n) : (Vector.ofFn f)[i] = f i := Vector.getElem_ofFn i.isLt

theorem vector_ext {α : Type} {n : Nat} {v w : Vector α n} (h : ∀ i : Fin n, v[i] = w[i]) : v = w :=
  Vector.ext fun i hi => h ⟨i, hi⟩

theorem passedOver_nil (s : State) : passedOver [] s = s :=
  modRun_congr (g := id) (congrArg (fun results => { s.line.run with results := results }) (vector_ext fun x => by
    rw [ofFn_get]
    exact if_neg fun no => List.not_mem_nil no.1))

theorem passedOver_cons (l : List CircuitNo) (absent : c ∉ l) {r : CircuitResult} (waits : s.line.run.results[c] = .waiting)
    (skipped : r = skippedResult s c) : passedOver l (setResult c r s) = passedOver (c :: l) s := by
  unfold setResult passedOver
  rw [modRun_modRun]
  refine modRun_congr ?_
  refine congrArg (fun results => { s.line.run with results := results }) (vector_ext fun x => ?_)
  rw [ofFn_get, ofFn_get, upd_get]
  simp only [List.mem_cons]
  by_cases here : c = x
  · subst here
    rw [if_pos rfl, if_neg fun both => absent both.1, if_pos ⟨.inl rfl, waits⟩, skipped]
  · rw [if_neg here]
    simp only [Ne.symm here, false_or]
    rfl

theorem passedOver_skip (l : List CircuitNo) (runs : s.line.run.results[c] ≠ .waiting) : passedOver l s = passedOver (c :: l) s := by
  refine modRun_congr (congrArg (fun results => { s.line.run with results := results }) (vector_ext fun x => ?_))
  rw [ofFn_get, ofFn_get]
  simp only [List.mem_cons]
  by_cases here : x = c
  · subst here
    rw [if_neg fun both => runs both.2, if_neg fun both => runs both.2]
  · simp only [here, false_or]

theorem passTurn_cons (c : CircuitNo) (rest : List CircuitNo) (s : State) : passTurn (c :: rest) s =
    if s.line.run.results[c] = .waiting then
      if circuitFlagged s c = true then passTurn rest (setResult c .skippedFlagged s)
      else if circuitOn s c = true then passTurn rest (setResult c .skippedOn s)
      else setResult c .testingShort s
    else passTurn rest s := rfl

/-- Of the circuits up front those that wait are passed over (R173). -/
theorem passTurn_append : ∀ (l rest : List CircuitNo) {s : State}, l.Nodup →
    (∀ x ∈ l, s.line.run.results[x] = .waiting → SkippedAtTurn s x) → passTurn (l ++ rest) s = passTurn rest (passedOver l s)
  | [], rest, s, _, _ => by rw [passedOver_nil, List.nil_append]
  | c :: l, rest, s, nodup, skipped => by
    obtain ⟨absent, nodup⟩ := List.nodup_cons.1 nodup
    have later {r : CircuitResult} : ∀ x ∈ l, (setResult c r s).line.run.results[x] = .waiting → SkippedAtTurn (setResult c r s) x :=
      fun x mem waits => skipped x (List.mem_cons_of_mem _ mem) (by
        have other : c ≠ x := fun same => absent (same ▸ mem)
        rwa [show (setResult c r s).line.run.results[x] = s.line.run.results[x] from upd_other _ _ _ _ other] at waits)
    rw [List.cons_append, passTurn_cons]
    split
    · next waits =>
      have passes := skippedAtTurn_iff.1 (skipped c List.mem_cons_self waits)
      split
      · next flagged =>
        rw [passTurn_append l rest nodup later]
        exact congrArg _ (passedOver_cons l absent waits (if_pos (circuitFlagged_iff.1 flagged)).symm)
      · next clear =>
        rw [if_pos (passes.resolve_left clear), passTurn_append l rest nodup later]
        exact congrArg _ (passedOver_cons l absent waits (if_neg fun flagged => clear (circuitFlagged_iff.2 flagged)).symm)
    · next runs =>
      rw [passTurn_append l rest nodup fun x mem => skipped x (List.mem_cons_of_mem _ mem)]
      exact congrArg _ (passedOver_skip l runs)

theorem allCircuits_split (c : CircuitNo) : ∃ l rest : List CircuitNo, allCircuits = l ++ c :: rest ∧ l.Nodup ∧
    ∀ x : CircuitNo, x ∈ l ↔ x < c := by
  obtain ⟨l, rest, split⟩ := List.append_of_mem (List.mem_finRange c)
  have rising := List.pairwise_lt_finRange 16
  have nodup := List.nodup_finRange 16
  have every (x : CircuitNo) : x ∈ l ∨ x = c ∨ x ∈ rest := by
    have mem := List.mem_finRange x
    rw [split] at mem
    exact (List.mem_append.1 mem).imp id List.mem_cons.1
  rw [split] at rising nodup
  obtain ⟨_, after, before⟩ := List.pairwise_append.1 rising
  refine ⟨l, rest, split, (List.nodup_append.1 nodup).1, fun x => ⟨fun mem => before x mem c List.mem_cons_self, fun less => ?_⟩⟩
  rcases every x with mem | same | mem
  · exact mem
  · exact absurd less (same ▸ Fin.lt_irrefl c)
  · exact absurd less (Fin.lt_asymm ((List.pairwise_cons.1 after).1 x mem))

/-- The turn starts at circuit 0 (R173). -/
theorem passTurn_turnPassed (s : State) : TurnPassed s (passTurn allCircuits s) := by
  refine ⟨fun c waits stays before => ?_, fun skipped => ?_⟩
  · obtain ⟨l, rest, split, nodup, lower⟩ := allCircuits_split c
    have reached : (passedOver l s).line.run.results[c] = .waiting := by
      unfold passedOver
      rw [State.modRun_line]
      dsimp only
      rw [ofFn_get, if_neg fun both => Fin.lt_irrefl c ((lower c).1 both.1), waits]
    have clear := not_or.1 fun passes => stays (skippedAtTurn_iff.2 passes)
    rw [split, passTurn_append l _ nodup fun x mem => before x ((lower x).1 mem)]
    rw [passTurn_cons, if_pos reached, if_neg (show ¬ circuitFlagged (passedOver l s) c = true from clear.1),
      if_neg (show ¬ circuitOn (passedOver l s) c = true from clear.2)]
    unfold setResult passedOver
    rw [modRun_modRun]
    refine modRun_congr ?_
    refine congrArg (fun results => { s.line.run with results := results }) (vector_ext fun x => ?_)
    rw [ofFn_get, upd_get]
    by_cases here : c = x
    · subst here
      rw [if_pos rfl, if_neg fun both => Fin.lt_irrefl c both.1, if_pos rfl]
    · rw [if_neg here, if_neg (Ne.symm here)]
      refine (ofFn_get _ _).trans ?_
      simp only [lower]
  · have whole := passTurn_append allCircuits [] (List.nodup_finRange 16) fun x _ => skipped x
    rw [List.append_nil] at whole
    rw [whole]
    unfold passTurn
    rw [endRun_eq]
    unfold passedOver
    rw [modRun_modRun]
    refine congrArg _ (modRun_congr ?_)
    refine congrArg (fun results => { s.line.run with state := .done, results := results }) (vector_ext fun x => ?_)
    rw [ofFn_get, ofFn_get]
    simp only [allCircuits, List.mem_finRange, true_and]

end

end Sys2Proof.Machine
end

section
/-! What the end of a test step makes of the run (R172, R174). -/

namespace Sys2Proof.Machine

variable {s t u : State} {c x : CircuitNo} {ρ : RunRecord} {r : CircuitResult}

/-! ## Runs that no delivery changes -/

/-- A run that makes no check keeps its record through every record and delivery. -/
theorem run_closed (idle : ∀ u : State, u.line.run = ρ → ∀ c, checking u c = false) : ReactClosed fun u => u.line.run = ρ where
  push k a b d h := (pushRecord_run k a b d).trans h
  output _ h := h
  alarm _ _ h := h
  abandonCheck {u} c h := by
    rw [abandonCheck_idle (idle u h c)]
    exact h

theorem NoCheck.idle (h : NoCheck s) (run : u.line.run = s.line.run) (c : CircuitNo) : checking u c = false :=
  (h.of_run run).2 c

/-- And where none is made, a delivery writes nothing. -/
theorem journal_closed (s : State) : LampClosed fun u => u.journal = s.journal ∧ u.line.run = s.line.run where
  output _ h := h
  alarm _ _ h := h

theorem setCondition_silent (none : NoCheck s) (src : Source) (b : Bool) (h : u.journal = s.journal ∧ u.line.run = s.line.run) :
    (setCondition src b u).journal = s.journal ∧ (setCondition src b u).line.run = s.line.run :=
  (journal_closed s).setConditionWith (react := abandonCheck) (fun {v} c h => by
    rw [abandonCheck_idle (none.idle h.2 c)]
    exact h) src b h

theorem changeFlags_silent (none : NoCheck s) (c : CircuitNo) (f : CircuitFlags → CircuitFlags) :
    (changeFlags c f s).journal = s.journal ∧ (changeFlags c f s).line.run = s.line.run :=
  changeFlags_induction (P := fun u => u.journal = s.journal ∧ u.line.run = s.line.run) f
    (setCondition_silent none _ _ (u := s.modLine fun l => { l with flags := upd l.flags c f }) ⟨rfl, rfl⟩)
    fun _ _ h => setCondition_silent none _ _ h

theorem changeSupply_silent (none : NoCheck s) (b : Bool) :
    (changeSupply b s).journal = s.journal ∧ (changeSupply b s).line.run = s.line.run :=
  changeSupply_induction (P := fun u => u.journal = s.journal ∧ u.line.run = s.line.run)
    (setCondition_silent none _ _ (u := s.modLine fun l => { l with supply := b }) ⟨rfl, rfl⟩)
    fun _ _ h => setCondition_silent none _ _ h

/-! ## Results that stand -/

/-- The circuit has a final result. -/
def Settled (c : CircuitNo) (r : CircuitResult) (s : State) : Prop := s.line.run.results[c] = r

/-- The supply's result is this one. -/
def SupplyIs (r : SupplyResult) (s : State) : Prop := s.line.run.supply = r

/-- Every step of a turn that passes keeps the property. -/
theorem passTurn_keeps {P : State → Prop} (hP : FlagClosed P) (ends : ∀ {s}, P s → P (s.modRun fun run => { run with state := .done }))
    (waits : ∀ {s c r}, s.line.run.results[c] = .waiting → P s → P (setResult c r s)) :
    ∀ (l : List CircuitNo) {s : State}, P s → P (passTurn l s)
  | [], _, h => hP.endRun (ends h)
  | c :: l, s, h => by
    rw [passTurn_cons]
    split
    · next waiting =>
      split
      · exact passTurn_keeps hP ends waits l (waits waiting h)
      · split
        · exact passTurn_keeps hP ends waits l (waits waiting h)
        · exact waits waiting h
    · exact passTurn_keeps hP ends waits l h

theorem settled_flags : FlagClosed (Settled c r) where
  push k a b d h := by
    unfold Settled
    rwa [pushRecord_run]
  output _ h := h
  alarm _ _ h := h

theorem supplyIs_flags {r : SupplyResult} : FlagClosed (SupplyIs r) where
  push k a b d h := by
    unfold SupplyIs
    rwa [pushRecord_run]
  output _ h := h
  alarm _ _ h := h

theorem Settled.setResult {d : CircuitNo} {q : CircuitResult} (other : d ≠ c) (h : Settled c r s) :
    Settled c r (setResult d q s) := (upd_other _ _ _ _ other).trans h

theorem Settled.passTurn (final : r ≠ .waiting) (l : List CircuitNo) (h : Settled c r s) : Settled c r (passTurn l s) :=
  passTurn_keeps settled_flags (fun h => h) (fun waits h => h.setResult fun same => final (by
    subst same
    exact h.symm.trans waits)) l h

theorem settled_react (final : r ≠ .waiting ∧ r ≠ .testingShort ∧ r ≠ .testingOpen) : ReactClosed (Settled c r) where
  toFlagClosed := settled_flags
  abandonCheck {u} d h := by
    unfold abandonCheck
    split
    · next progress =>
      obtain ⟨_, tested⟩ := checking_iff.1 progress
      refine (h.setResult fun same => ?_).passTurn final.1 _
      subst same
      rw [h] at tested
      exact tested.elim final.2.1 final.2.2
    · exact h

theorem SupplyIs.passTurn {r : SupplyResult} (l : List CircuitNo) (h : SupplyIs r s) : SupplyIs r (passTurn l s) :=
  passTurn_keeps supplyIs_flags (fun h => h) (fun _ h => h) l h

theorem supplyIs_react {r : SupplyResult} : ReactClosed (SupplyIs r) where
  toFlagClosed := supplyIs_flags
  abandonCheck {u} d h := by
    unfold abandonCheck
    split
    · exact SupplyIs.passTurn _ h
    · exact h

/-! ## The frames of a step's end -/

theorem passTurn_frame {parts : List Part} {srcs : List Source} (l : List CircuitNo) (s : State) :
    Frame parts srcs s (passTurn l s) := (passTurn_affects [] l s).frame fun _ no => nomatch no

theorem setResult_frame {parts : List Part} {srcs : List Source} (c : CircuitNo) (r : CircuitResult) (s : State) :
    Frame parts srcs s (setResult c r s) := modRun_parts _ s

/-- A circuit's check has found this fault: its result stands, its flags are changed. -/
def faultFound (c : CircuitNo) (r : CircuitResult) (f : CircuitFlags → CircuitFlags) (s : State) : State :=
  changeFlags c f (setResult c r s)

/-- The step's end where its check shows the fault (R174). -/
def faultTaken (c : CircuitNo) (r : CircuitResult) (f : CircuitFlags → CircuitFlags) (d : Detail) (s : State) : State :=
  passTurn allCircuits (write .lineResult c.val 0 d (faultFound c r f s))

theorem faultFound_frame (c : CircuitNo) (r : CircuitResult) (f : CircuitFlags → CircuitFlags) (s : State) :
    Frame [.flags] lineSources s (faultFound c r f s) := (setResult_frame c r s).trans (changeFlags_frame c f _)

theorem faultFound_settled (final : r ≠ .waiting ∧ r ≠ .testingShort ∧ r ≠ .testingOpen) (f : CircuitFlags → CircuitFlags)
    (s : State) : Settled c r (faultFound c r f s) :=
  (settled_react final).changeFlags (fun same h => by
    unfold Settled
    rwa [State.modLine_line, same]) c f (upd_same _ _ _)

/-- What a fault that a check shows leaves. -/
structure FaultTaken (c : CircuitNo) (r : CircuitResult) (f : CircuitFlags → CircuitFlags) (d : Detail) (s t v : State) : Prop where
  frame : Frame [.flags, .supply] lineSources s t
  turn : TurnPassed (write .lineResult c.val 0 d v) t
  found : Frame [.flags] lineSources s v
  result : v.line.run.results[c] = r
  stays : t.line.run.results[c] = r
  alone : OneCheck s → v.journal = s.journal ∧ v.line.run = { s.line.run with results := upd s.line.run.results c fun _ => r }
  condition : t.alarm.condition[Source.circuit c] = CircuitFlags.any (f s.line.flags[c])
  flags : t.line.flags = upd s.line.flags c f

theorem faultTaken_taken (final : r ≠ .waiting ∧ r ≠ .testingShort ∧ r ≠ .testingOpen) (f : CircuitFlags → CircuitFlags)
    (d : Detail) (progress : checking s c = true) : FaultTaken c r f d s (faultTaken c r f d s) (faultFound c r f s) := by
  have found := faultFound_frame c r f s
  have settled := faultFound_settled (c := c) final f s
  have flags : (faultFound c r f s).line.flags = upd s.line.flags c f := changeFlags_flags c f _
  have condition : (faultFound c r f s).alarm.condition[Source.circuit c] = CircuitFlags.any (f s.line.flags[c]) :=
    changeFlags_condition c f _
  have alone (one : OneCheck s) := changeFlags_silent (one.endCheck progress final.2) c f
  unfold faultTaken
  have same : changeFlags c f (setResult c r s) = faultFound c r f s := rfl
  rw [same] at alone
  generalize faultFound c r f s = v at found settled flags condition alone ⊢
  have told := write_affects [] .lineResult c.val 0 d v
  have passed := passTurn_affects [] allCircuits (write .lineResult c.val 0 d v)
  exact ⟨((found.trans (Frame.write _ _ _ _ _)).trans (passTurn_frame _ _)).mono (by decide) fun _ h => h,
    passTurn_turnPassed _, found, settled, ((settled_react final).write _ _ _ _ settled).passTurn final.1 _, alone,
    (passed.conditionSame _ List.not_mem_nil (circuit_ne_backlog c)).trans
      ((told.conditionSame _ List.not_mem_nil (circuit_ne_backlog c)).trans condition),
    passed.flags.trans (told.flags.trans flags)⟩

/-! ## The supply step (R172) -/

/-- The supply check has failed. -/
def supplyFailed (s : State) : State := changeSupply true (s.modRun fun run => { run with supply := .failed })

/-- The run after a failed supply check: every circuit that waits is skipped. -/
def supplySkips (run : RunRecord) : RunRecord :=
  { run with
    state := .done
    results := run.results.map fun r => if r = .waiting then .skippedSupply else r }

theorem endSupplyStep_failed (s : State) : endSupplyStep true s =
    write .lineResult 0 0 .lineDone ((write .lineResult 0 0 .lineSupply (supplyFailed s)).modRun supplySkips) := by
  have skips : CircuitResult.afterFailedSupply = fun r => if r = .waiting then .skippedSupply else r :=
    funext fun r => by cases r <;> rfl
  unfold endSupplyStep supplySkips
  rw [if_pos rfl, ← skips]
  unfold mapResults supplyFailed
  dsimp only
  rw [endRun_eq, modRun_modRun]

/-- The end of a run with the record `ρ` stands. -/
theorem done_closed (done : ρ.state ≠ .running) : ReactClosed fun u => u.line.run = ρ :=
  run_closed fun u run _ => checking_notRunning (show u.line.run.state ≠ .running by rwa [run])

theorem noCheck_of_idle {f : RunRecord → RunRecord} (supply : (f s.line.run).supply ≠ .testing)
    (results : (f s.line.run).results = s.line.run.results)
    (idle : ∀ x : CircuitNo, s.line.run.results[x] = .waiting ∨ s.line.run.results[x] = .notInRun) : NoCheck (s.modRun f) := by
  refine ⟨fun _ => supply, fun c => Bool.eq_false_iff.2 fun progress => ?_⟩
  obtain ⟨_, tested⟩ := checking_iff.1 progress
  rw [State.modRun_line] at tested
  dsimp only at tested
  rw [results] at tested
  rcases idle c with waits | out
  · rw [waits] at tested
    exact tested.elim nofun nofun
  · rw [out] at tested
    exact tested.elim nofun nofun

theorem supplyFailed_frame (s : State) : Frame [.supply] lineSources s (supplyFailed s) :=
  (modRun_parts _ s).trans (changeSupply_frame true _)

theorem supplyFailed_result (s : State) : SupplyIs .failed (supplyFailed s) :=
  supplyIs_react.changeSupply (fun same h => by
    unfold SupplyIs
    rwa [State.modLine_line, same]) true (s := s.modRun fun run => { run with supply := .failed }) rfl

/-- What a failed supply check leaves. -/
structure SupplyFailed (s t v : State) : Prop where
  frame : Frame [.flags, .supply] lineSources s t
  step : t = write .lineResult 0 0 .lineDone ((write .lineResult 0 0 .lineSupply v).modRun supplySkips)
  found : Frame [.supply] lineSources s v
  set : v.line.supply = true
  failed : v.line.run.supply = .failed
  alone : OneCheck s → v.line.run = { s.line.run with supply := .failed } ∧ v.journal = s.journal
  stays : t.line.supply = true
  ends : t.line.run.state = .done
  result : t.line.run.supply = .failed
  flags : t.line.flags = s.line.flags
  condition : t.alarm.condition[Source.supply] = true
  skips : (∀ x : CircuitNo, s.line.run.results[x] = .waiting ∨ s.line.run.results[x] = .notInRun) →
    ∀ x : CircuitNo, s.line.run.results[x] = .waiting → t.line.run.results[x] = .skippedSupply

theorem endSupplyStep_supplyFailed (running : s.line.run.state = .running) (testing : s.line.run.supply = .testing) :
    SupplyFailed s (endSupplyStep true s) (supplyFailed s) := by
  have found := supplyFailed_frame s
  have failed := supplyFailed_result s
  have set : (supplyFailed s).line.supply = true := changeSupply_supply true _
  have condition : (supplyFailed s).alarm.condition[Source.supply] = true := changeSupply_condition true _
  have silent (idle : ∀ x : CircuitNo, s.line.run.results[x] = .waiting ∨ s.line.run.results[x] = .notInRun) :
      NoCheck (s.modRun fun run => { run with supply := .failed }) ∧ (supplyFailed s).journal = s.journal ∧
        (supplyFailed s).line.run = (s.modRun fun run => { run with supply := .failed }).line.run :=
    have none := noCheck_of_idle (s := s) (f := fun run => { run with supply := .failed }) nofun rfl idle
    ⟨none, changeSupply_silent none true⟩
  rw [endSupplyStep_failed]
  generalize supplyFailed s = v at found failed set condition silent ⊢
  have noted := write_affects [] .lineResult 0 0 .lineSupply v
  have supplied : SupplyIs .failed (write .lineResult 0 0 .lineSupply v) := supplyIs_react.write _ _ _ _ failed
  have kept (idle : ∀ x : CircuitNo, s.line.run.results[x] = .waiting ∨ s.line.run.results[x] = .notInRun) :
      (write .lineResult 0 0 .lineSupply v).line.run = (s.modRun fun run => { run with supply := .failed }).line.run := by
    obtain ⟨none, _, run⟩ := silent idle
    exact (run_closed fun u same c => none.idle same c).write _ _ _ _ run
  have framed : Frame [.flags, .supply] lineSources s (write .lineResult 0 0 .lineSupply v) :=
    (found.trans (Frame.write _ _ _ _ _)).mono (by decide) fun _ h => h
  generalize same : write .lineResult 0 0 .lineSupply v = w at noted supplied kept framed ⊢
  have ended := write_affects [] .lineResult 0 0 .lineDone (w.modRun supplySkips)
  have run := (done_closed (ρ := supplySkips w.line.run) nofun).write .lineResult 0 0 .lineDone (s := w.modRun supplySkips) rfl
  have framedEnd : Frame [.flags, .supply] lineSources s (write .lineResult 0 0 .lineDone (w.modRun supplySkips)) :=
    (framed.trans (modRun_parts supplySkips w)).trans (Frame.write _ _ _ _ _)
  refine ⟨framedEnd, by rw [same], found, set, failed, fun one => ?_, ended.supply.trans (noted.supply.trans set), ?_, ?_,
    ended.flags.trans (noted.flags.trans (found.flags (by decide))),
    (ended.conditionSame _ List.not_mem_nil supply_ne_backlog).trans
      ((noted.conditionSame _ List.not_mem_nil supply_ne_backlog).trans condition), fun idle x waits => ?_⟩
  · obtain ⟨_, journal, same⟩ := silent (one.1 running testing)
    exact ⟨same, journal⟩
  · rw [run]
    rfl
  · rw [run]
    exact supplied
  · rw [run]
    unfold supplySkips
    rw [kept idle]
    refine (Vector.getElem_map _ x.isLt).trans (if_pos ?_)
    exact waits

/-! ## The steps, as commands -/

theorem endStep_taken {check : CheckInProgress} (progress : checkInProgress s = some check) (faulty : Bool) :
    exec (.testStepEnd ⟨check, faulty⟩) s = .next (takeResult check faulty s) := congrArg Host.Outcome.next (if_pos progress)

theorem takeResult_short (c : CircuitNo) (s : State) : takeResult (.short c) true s =
    faultTaken c .shortFound (fun f => { f with shortFlag := true }) .lineShort s := by
  change endShortStep c true s = _
  unfold endShortStep
  rw [if_pos rfl]
  rfl

theorem takeResult_opened (c : CircuitNo) (s : State) : takeResult (.opened c) true s =
    faultTaken c .openFound (fun f => { f with openFlag := true }) .lineOpen s := by
  change endOpenStep c true s = _
  unfold endOpenStep
  rw [if_pos rfl]
  rfl

end Sys2Proof.Machine

namespace Sys2Proof.Proofs

open Sys2Proof.Machine

/-- Settles O53, check by check: what is found stands, since a delivery can abandon only a check that is still made, and the
turn then passes. -/
theorem testStepsTakeResults : Obligations.TestStepsTakeResults := by
  intro s faulty c
  refine ⟨fun progress fails => ?_, fun progress passes => ?_, fun progress fails => ?_, fun progress passes => ?_,
    fun progress fails => ?_, fun progress passes => ?_, fun check stale => congrArg Host.Outcome.next (endStep_stale stale faulty)⟩
  · subst fails
    obtain ⟨running, testing⟩ := checkInProgress_cases progress
    have taken := endSupplyStep_supplyFailed running testing
    have answer : exec (.testStepEnd ⟨.supply, true⟩) s = .next (endSupplyStep true s) := endStep_taken progress true
    generalize endSupplyStep true s = t at taken answer
    generalize supplyFailed s = v at taken
    obtain ⟨frame, step, found, set, failed, alone, stays, ends, result, flags, condition, skips⟩ := taken
    exact ⟨t, v, answer, frame, step, found, set, failed, alone, stays, ends, result, flags, condition, skips⟩
  · subst passes
    refine ⟨_, endStep_taken progress false, ?_⟩
    change Frame _ _ s (passTurn allCircuits (s.modRun fun run => { run with supply := .passed })) ∧ _
    have passed := passTurn_affects [] allCircuits (s.modRun fun run => { run with supply := .passed })
    exact ⟨(modRun_parts _ s).trans (passTurn_frame _ _), passTurn_turnPassed _, passed.supply,
      SupplyIs.passTurn allCircuits (s := s.modRun fun run => { run with supply := .passed }) rfl, passed.flags⟩
  · subst fails
    have taken := faultTaken_taken (r := .shortFound) ⟨nofun, nofun, nofun⟩ (fun f => { f with shortFlag := true }) .lineShort
      (checkInProgress_cases progress)
    have answer := (endStep_taken progress true).trans (congrArg Host.Outcome.next (takeResult_short c s))
    generalize faultTaken c .shortFound _ .lineShort s = t at taken answer
    generalize faultFound c .shortFound _ s = v at taken
    obtain ⟨frame, turn, found, result, stays, alone, condition, flags⟩ := taken
    exact ⟨t, v, answer, frame, turn, found, result, stays, alone, condition, flags⟩
  · subst passes
    exact endStep_taken progress false
  · subst fails
    have taken := faultTaken_taken (r := .openFound) ⟨nofun, nofun, nofun⟩ (fun f => { f with openFlag := true }) .lineOpen
      (checkInProgress_cases progress)
    have answer := (endStep_taken progress true).trans (congrArg Host.Outcome.next (takeResult_opened c s))
    generalize faultTaken c .openFound _ .lineOpen s = t at taken answer
    generalize faultFound c .openFound _ s = v at taken
    obtain ⟨frame, turn, found, result, stays, alone, condition, flags⟩ := taken
    exact ⟨t, v, answer, frame, turn, found, result, stays, alone, condition.trans (Bool.or_true _), flags⟩
  · subst passes
    refine ⟨_, endStep_taken progress false, ?_⟩
    change Frame _ _ s (passTurn allCircuits (setResult c .passed s)) ∧ _
    exact ⟨(setResult_frame c .passed s).trans (passTurn_frame _ _), passTurn_turnPassed _,
      Settled.passTurn (c := c) (r := .passed) nofun allCircuits (s := setResult c .passed s) (upd_same _ _ _),
      (passTurn_affects [] allCircuits (setResult c .passed s)).flags⟩

end Sys2Proof.Proofs
end

section
/-! Conditioning (R3 to R8): where an input's raw level, timers and clears leave its phase. -/

namespace Sys2Proof.Machine

section
variable {s t : State} {i : InputNo}

/-! ## Phases -/

/-- The inputs with the phase of one replaced. -/
abbrev rephased (i : InputNo) (p : Phase) (v : Vector InputState 48) : Vector InputState 48 :=
  upd v i fun w => { w with phase := p }

theorem setPhase_inputs (p : Phase) (s : State) : (setPhase i p s).inputs = rephased i p s.inputs := rfl

theorem activate_inputs (i : InputNo) (s : State) :
    (activate i s).inputs = rephased i (settledPhase (inputMode s i)) s.inputs := by
  unfold activate
  rw [(deliverActivation_frame i _).inputs (by decide), setPhase_inputs]
  cases inputMode s i <;> rfl

theorem deactivate_inputs (i : InputNo) (s : State) : (deactivate i s).inputs = rephased i .idle s.inputs :=
  (deliverRelease_zone i _).inputs (by decide)

/-- Where an attempt goes when its debounce has ended with the raw level active (R3). -/
def attemptPhase (s : State) (i : InputNo) : Phase :=
  if s.store.inputs[i].validation = 0 then settledPhase (inputMode s i) else .validate

theorem enterValidate_inputs (i : InputNo) (s : State) :
    (enterValidate i s).inputs = rephased i (attemptPhase s i) s.inputs := by
  unfold enterValidate attemptPhase
  split
  · exact activate_inputs i s
  · rfl

theorem endDebounceOn_inputs (i : InputNo) (s : State) :
    (endDebounceOn i s).inputs = rephased i (if rawActive s i then attemptPhase s i else .idle) s.inputs := by
  unfold endDebounceOn
  split
  · exact enterValidate_inputs i s
  · rfl

theorem beginAttempt_inputs (active : rawActive s i = true) : (beginAttempt i s).inputs =
    rephased i (if s.store.inputs[i].debounce = 0 then attemptPhase s i else .debounceOn) s.inputs := by
  unfold beginAttempt
  split
  · rw [endDebounceOn_inputs, if_pos active]
  · rfl

theorem beginRelease_inputs (i : InputNo) (s : State) : (beginRelease i s).inputs =
    rephased i (if s.store.inputs[i].debounce = 0 then .idle else .debounceOff) s.inputs := by
  unfold beginRelease
  split
  · exact deactivate_inputs i s
  · rfl

/-- The phase that the statements give for the raw level as it stands. -/
abbrev judgedPhase (s : State) (i : InputNo) : Phase :=
  phaseAfterRaw (inputMode s i) (decide (s.store.inputs[i].debounce = 0)) (decide (s.store.inputs[i].validation = 0))
    (rawActive s i) s.inputs[i].phase

theorem rephased_self {p : Phase} (h : s.inputs[i].phase = p) : s.inputs = rephased i p s.inputs :=
  (upd_eq_self (by rw [← h])).symm

/-- What the raw level, as it stands, does to the input's phase. -/
theorem judgeRaw_inputs (i : InputNo) (s : State) : (judgeRaw i s).inputs = rephased i (judgedPhase s i) s.inputs := by
  unfold judgeRaw judgedPhase
  cases phase : s.inputs[i].phase <;> cases raw : rawActive s i
  case idle.true =>
    refine (beginAttempt_inputs raw).trans ?_
    simp only [phaseAfterRaw, attemptPhase, decide_eq_true_eq, if_true]
  case on.false =>
    refine (beginRelease_inputs i s).trans ?_
    simp only [phaseAfterRaw, decide_eq_true_eq, Bool.false_eq_true, if_false]
  case debounceOff.true => rfl
  case validate.false => rfl
  all_goals exact rephased_self phase

/-! ## First values (R8) -/

theorem noteFirst_inputs (i : InputNo) (s : State) : (noteFirst i s).inputs =
    upd s.inputs i fun v => { v with first := v.first || Phase.atRest v.phase } := by
  have noted : (if Phase.atRest s.inputs[i].phase then s.modInput i fun v => { v with first := true } else s).inputs =
      upd s.inputs i fun v => { v with first := v.first || Phase.atRest v.phase } := by
    split
    · next rest =>
      rw [State.modInput_inputs]
      refine upd_congr ?_
      rw [rest, Bool.or_true]
    · next busy =>
      refine (upd_eq_self ?_).symm
      rw [Bool.eq_false_iff.2 busy, Bool.or_false]
  unfold noteFirst
  dsimp only
  split
  · exact ((trySettle_zone _ _).inputs (by decide)).trans noted
  · exact noted

/-- The input's state once its event has left it at a phase. -/
theorem noteFirst_phased {p : Phase} (h : t.inputs = rephased i p s.inputs) : (noteFirst i t).inputs =
    upd s.inputs i fun v => ⟨v.raw, p, v.first || Phase.atRest p⟩ := by
  rw [noteFirst_inputs, h, upd_upd]

/-! ## Events (R3, R4) -/

theorem rawChange_inputs {level : Level} (moves : s.inputs[i].raw ≠ level) : (rawChange i level s).inputs =
    upd s.inputs i fun v =>
      ⟨level, phaseAfterRaw (inputMode s i) (decide (s.store.inputs[i].debounce = 0))
        (decide (s.store.inputs[i].validation = 0)) (decide (level = s.store.inputs[i].active)) s.inputs[i].phase,
      v.first || Phase.atRest (phaseAfterRaw (inputMode s i) (decide (s.store.inputs[i].debounce = 0))
        (decide (s.store.inputs[i].validation = 0)) (decide (level = s.store.inputs[i].active)) s.inputs[i].phase)⟩ := by
  have phase : judgedPhase (s.modInput i fun v => { v with raw := level }) i =
      phaseAfterRaw (inputMode s i) (decide (s.store.inputs[i].debounce = 0)) (decide (s.store.inputs[i].validation = 0))
        (decide (level = s.store.inputs[i].active)) s.inputs[i].phase := by
    unfold judgedPhase rawActive
    rw [State.modInput_inputs, upd_same]
    rfl
  unfold rawChange
  rw [if_neg moves, noteFirst_phased (judgeRaw_inputs i _), phase, State.modInput_inputs, upd_upd]

/-- The end of an attempt's debounce as the statements say it. -/
theorem expireDebounce_on (attempt : s.inputs[i].phase = .debounceOn) : (expireDebounce i s).inputs =
    upd s.inputs i fun v =>
      ⟨v.raw, if rawActive s i then attemptPhase s i else .idle,
        v.first || Phase.atRest (if rawActive s i then attemptPhase s i else .idle)⟩ := by
  unfold expireDebounce
  rw [attempt]
  exact noteFirst_phased (endDebounceOn_inputs i s)

theorem expireDebounce_release (releasing : s.inputs[i].phase = .debounceOff) : (expireDebounce i s).inputs =
    upd s.inputs i fun v => ⟨v.raw, .idle, true⟩ := by
  unfold expireDebounce
  rw [releasing]
  exact (noteFirst_phased (deactivate_inputs i s)).trans (upd_congr (congrArg (InputState.mk _ _) (Bool.or_true _)))

theorem expireValidation_inputs (validate : s.inputs[i].phase = .validate) : (expireValidation i s).inputs =
    upd s.inputs i fun v => ⟨v.raw, settledPhase (inputMode s i), true⟩ := by
  unfold expireValidation
  rw [validate]
  refine (noteFirst_phased (activate_inputs i s)).trans (upd_congr ?_)
  cases inputMode s i
  · exact congrArg (InputState.mk _ _) (Bool.or_true _)
  · exact congrArg (InputState.mk _ _) (Bool.or_true _)

/-! ## INPUT_CLEAR (R6) -/

/-- A latched input with its raw level inactive is cleared. -/
def cleared (v : InputState) (set : InputSettings) : InputState :=
  if v.phase = .latched ∧ v.raw ≠ set.active then { v with phase := .idle } else v

theorem clearInput_frame (i : InputNo) (s : State) : Frame inputParts inputSources s (clearInput i s) := by
  unfold clearInput
  split
  · exact deactivate_frame i s
  · exact Frame.refl s

theorem clearInput_inputs (i : InputNo) (s : State) :
    (clearInput i s).inputs = upd s.inputs i fun v => cleared v s.store.inputs[i] := by
  have inactive : rawActive s i = false ↔ s.inputs[i].raw ≠ s.store.inputs[i].active := decide_eq_false_iff_not
  unfold clearInput cleared
  simp only [inactive]
  split
  · next clears =>
    refine (deactivate_inputs i s).trans (upd_congr ?_)
    rw [if_pos clears]
  · next stays =>
    refine (upd_eq_self ?_).symm
    rw [if_neg stays]

/-- At the end of a command a reply stands as it was made. -/
theorem replied_settled {u : State} (link : u.link = s.link) (kind : Nat) (status : Status) (body : ReplyBody) :
    Replied (BitVec.ofNat 8 kind) status body s (settleGate (reply kind status body u)) :=
  ((settleGate_frame _).link (by decide)).trans (replied_reply link kind status body)

theorem Frame.reply_settled {parts more : List Part} {srcs : List Source} {u : State} (h : Frame parts srcs s u)
    (sub : ∀ p ∈ parts, p ∈ more) (allowed : ∀ p ∈ [Part.link, .gate, .doors], p ∈ more)
    (sources : ∀ src ∈ doorSources, src ∈ srcs) (kind : Nat) (status : Status) (body : ReplyBody) :
    Frame more srcs s (Machine.settleGate (reply kind status body u)) :=
  ((h.mono sub fun _ h => h).trans (reply_frame (allowed _ List.mem_cons_self) kind status body u)).settleGate
    (fun p mem => allowed p (List.mem_cons_of_mem _ mem)) sources

/-- The inputs that a selection names. -/
abbrev chosenInputs (selection : Nat) : List InputNo := allInputs.filter fun i => selected selection i

/-- The state of INPUT_CLEAR before its reply. -/
def inputsCleared (selection : Nat) (s : State) : State := forEach (chosenInputs selection) clearInput s

theorem inputsCleared_frame (selection : Nat) (s : State) : Frame inputParts inputSources s (inputsCleared selection s) :=
  forEach_rel Frame.refl (fun _ _ _ => Frame.trans) _ _ s fun i _ u => clearInput_frame i u

theorem inputsCleared_inputs (selection : Nat) (s : State) : (inputsCleared selection s).inputs[i] =
    if selection.testBit i.val = true then cleared s.inputs[i] s.store.inputs[i] else s.inputs[i] := by
  have settings (j : InputNo) (u : State) : (clearInput j u).store.inputs[i] = u.store.inputs[i] := by
    rw [((clearInput_frame j u).settings (by decide)).inputs]
  have entry := forEach_entry (f := clearInput) (a := i) (get := fun u => (u.inputs[i], u.store.inputs[i]))
    (g := fun x => (cleared x.1 x.2, x.2)) (fun j u other => ?_) (fun u => ?_) (fun x => ?_) (chosenInputs selection) s
  · refine (congrArg Prod.fst entry).trans ?_
    have chosen : i ∈ chosenInputs selection ↔ selection.testBit i.val = true :=
      List.mem_filter.trans (and_iff_right (List.mem_finRange i))
    simp only [chosen]
    split <;> rfl
  · rw [settings, clearInput_inputs, upd_other _ _ _ _ other]
  · rw [settings, clearInput_inputs, upd_same]
  · unfold cleared
    dsimp only
    split
    · rw [if_neg fun h => nomatch h.1]
    · rfl

theorem inputClear_eq {selection : Nat} (ok : selection ≠ 0 ∧ selection < 2 ^ 48) : inputClear selection s =
    reply 0x50 .ok (.latched (allInputs.filter fun i => decide (selection.testBit i.val = true ∧
      (inputsCleared selection s).inputs[i].phase = .latched))) (inputsCleared selection s) := by
  unfold inputClear
  rw [selectionOk_iff.2 ok, Bool.not_true, if_neg Bool.false_ne_true]
  dsimp only
  rw [List.filter_filter]
  simp only [selected, Bool.and_comm, Bool.decide_and, Bool.decide_eq_true]
  rfl

theorem inputClear_bad {selection : Nat} (bad : selection = 0 ∨ 2 ^ 48 ≤ selection) :
    inputClear selection s = reply 0x50 .param .empty s := by
  unfold inputClear
  rw [selection_bad bad]
  rfl

end

end Sys2Proof.Machine

namespace Sys2Proof.Proofs

open Sys2Proof.Machine

/-- Settles O7: what an input delivers leaves the inputs, so its event leaves it at the phase that the raw level, the
settings and the timers give. -/
theorem inputsAreConditionedAndCleared : Obligations.InputsAreConditionedAndCleared := by
  refine ⟨fun s i level moves => ?_, fun s i => ⟨fun attempt => ?_, fun releasing => ?_, fun validate => ?_⟩,
    fun s selection => ⟨fun ok => ?_, fun follows bad => ?_⟩⟩
  · exact ⟨_, rfl, (rawChange_frame i level s).settleGate_input, (settleGate_later _).inputs.trans (rawChange_inputs moves)⟩
  · refine ⟨_, rfl, (expireDebounce_frame i s).settleGate_input, (settleGate_later _).inputs.trans ?_⟩
    have phase : (if rawActive s i then attemptPhase s i else .idle) =
        if s.inputs[i].raw ≠ s.store.inputs[i].active then .idle
        else if s.store.inputs[i].validation = 0 then settledPhase (inputMode s i) else .validate := by
      unfold rawActive attemptPhase
      by_cases same : s.inputs[i].raw = s.store.inputs[i].active
      · rw [if_pos (decide_eq_true same), if_neg (Classical.not_not.2 same)]
      · rw [if_neg (by rw [decide_eq_false same]; nofun), if_pos same]
    rw [expireDebounce_on attempt, phase]
  · exact ⟨_, rfl, (expireDebounce_frame i s).settleGate_input,
      (settleGate_later _).inputs.trans (expireDebounce_release releasing)⟩
  · exact ⟨_, rfl, (expireValidation_frame i s).settleGate_input,
      (settleGate_later _).inputs.trans (expireValidation_inputs validate)⟩
  · refine ⟨_, congrArg finish (inputClear_eq ok), ?_⟩
    have frame := inputsCleared_frame selection s
    have inputs (i : InputNo) := inputsCleared_inputs (i := i) selection s
    generalize inputsCleared selection s = u at frame inputs ⊢
    refine ⟨frame.reply_settled (by decide) (by decide) doorSource_input _ _ _, fun i => ?_, ?_⟩
    · rw [(settleGate_later _).inputs, reply_inputs, inputs]
      unfold cleared
      by_cases chosen : selection.testBit i.val = true
      · simp only [chosen, true_and, if_true]
      · simp only [Bool.eq_false_iff.2 chosen, Bool.false_eq_true, false_and, if_false]
    · rw [(settleGate_later _).inputs, reply_inputs]
      exact replied_settled (frame.link (by decide)) _ _ _
  · exact (congrArg finish (inputClear_bad bad)).trans (finish_reply follows _ _ _)

end Sys2Proof.Proofs
end

section
/-! SET_LINK, SET_READER, SET_STAFF and SET_OUTPUT (R109, R131, R140, R197). -/

namespace Sys2Proof.Machine

section
variable {s t : State}

/-! ## SET_LINK (R197) -/

theorem modLine_frame {parts : List Part} {srcs : List Source} {f : Line → Line} (periodic : Part.periodic ∈ parts)
    (flags : (f s.line).flags = s.line.flags) (supply : (f s.line).supply = s.line.supply)
    (checks : (f s.line).checks = s.line.checks) : Frame parts srcs s (s.modLine f) :=
  { Frame.refl s with
    flags := fun _ => flags
    supply := fun _ => supply
    checks := fun _ => checks
    periodic := fun no => absurd periodic no }

/-- What SET_LINK leaves before its reply. -/
structure LinkSet (timeout interval : Nat) (s t : State) : Prop where
  frame : Frame [.settings, .periodic, .link] [] s t
  store : t.store = { s.store with receiveTimeout := timeout, testInterval := interval }
  periodic : t.line.periodic =
    if s.store.testInterval = interval then s.line.periodic else if interval = 0 then none else some (60 * interval)
  link : t.link = s.link

theorem applyLink_set (timeout interval : Nat) (s : State) : LinkSet timeout interval s (applyLink timeout interval s) := by
  have frame : Frame [.settings, .periodic, .link] [] s (writeConfig 0 (.kind 0x07)
      (s.modStore fun st => { st with receiveTimeout := timeout, testInterval := interval })) :=
    stored_frame List.mem_cons_self rfl 0 (.kind 0x07)
  have store := stored_store (fun st => { st with receiveTimeout := timeout, testInterval := interval }) 0 (.kind 0x07) s
  have signals := writeConfig_signals 0 (.kind 0x07)
    (s.modStore fun st => { st with receiveTimeout := timeout, testInterval := interval })
  have line : _ = s.line.periodic := signals.periodic
  have link : _ = s.link := signals.link
  unfold applyLink
  dsimp only
  generalize writeConfig _ _ _ = u at frame store line link ⊢
  split
  · next same => exact ⟨frame, store, line.trans (if_pos same).symm, link⟩
  · next changes => exact ⟨frame.trans (modLine_frame (by decide) rfl rfl rfl), store, (if_neg changes).symm, link⟩

theorem setLink_eq (timeout interval : Nat) (s : State) : setLink timeout interval s =
    reply 0x07 (stored (decide (240 < interval))) (.link timeout (min 240 interval))
      (applyLink timeout (min 240 interval) s) := rfl

/-! ## SET_READER (R109) -/

theorem item_some {n x : Nat} {i : Fin n} (h : item n x = some i) : x = i.val := by
  unfold item at h
  split at h
  · cases h
    rfl
  · cases h

theorem setReader_known {r : ReaderNo} {n : DoorNo} {direction policy : Nat} {d : Direction} {p : PinPolicy}
    (way : Direction.ofCode direction = some d) (pin : PinPolicy.ofCode policy = some p) :
    setReader r.val n.val direction policy s = reply 0x14 .ok (.reader r ⟨n, d, p⟩)
      (writeConfig r.val (.kind 0x14) (s.modStore fun st => { st with readers := upd st.readers r fun _ => ⟨n, d, p⟩ })) := by
  unfold setReader
  rw [item_val, item_val, way, pin]

theorem setReader_unknown {reader door direction policy : Nat} (bad : 8 ≤ reader ∨ 8 ≤ door ∨
    Direction.ofCode direction = none ∨ PinPolicy.ofCode policy = none) :
    setReader reader door direction policy s = reply 0x14 .param .empty s := by
  unfold setReader
  split
  · next r n d p reader_ door_ way pin =>
    have := item_some reader_
    have := item_some door_
    rw [way, pin] at bad
    rcases bad with bad | bad | bad | bad
    · omega
    · omega
    · cases bad
    · cases bad
  · rfl

/-! ## SET_STAFF (R131, R5) -/

/-- What a change of a staff channel's mode does to its input (R5). -/
def remoded (before after : InputMode) (set : InputSettings) (v : InputState) : InputState :=
  match before, after, v.phase with
  | .latch, .follow, .latched =>
    { v with
      phase := phaseAfterRaw .follow (decide (set.debounce = 0)) (decide (set.validation = 0))
        (decide (v.raw = set.active)) .on }
  | .follow, .latch, .on => { v with phase := .latched }
  | .follow, .latch, .debounceOff => { v with phase := .latched }
  | _, _, _ => v

theorem remoded_same (mode : InputMode) (set : InputSettings) (v : InputState) : remoded mode mode set v = v := by
  unfold remoded
  cases mode <;> rfl

/-- A staff input's release goes to no block. -/
theorem judgeRaw_staff {i : InputNo} {n : StaffNo} (role : inputRole i = .staff n) (on : s.inputs[i].phase = .on) :
    Frame [.inputs] [] s (judgeRaw i s) := by
  have released : Frame [.inputs] [] s (deactivate i s) := by
    unfold deactivate deliverRelease
    rw [role]
    exact modInput_frame List.mem_cons_self _ _ _
  unfold judgeRaw
  rw [on]
  cases rawActive s i with
  | true => exact Frame.refl s
  | false =>
    dsimp only
    unfold beginRelease
    split
    · exact released
    · exact modInput_frame List.mem_cons_self _ _ _

theorem changeMode_frame (n : StaffNo) (mode : InputMode) (s : State) :
    Frame [.inputs] [] s (changeMode (staffInput n) mode s) := by
  unfold changeMode
  split
  · have on : (setPhase (staffInput n) .on s).inputs[staffInput n].phase = .on := setPhase_phase _
    exact Frame.trans (modInput_frame List.mem_cons_self _ _ _) (judgeRaw_staff (Closed.inputRole_staff n) on)
  · exact modInput_frame List.mem_cons_self _ _ _
  · exact modInput_frame List.mem_cons_self _ _ _
  · exact Frame.refl s

theorem changeMode_follow {i : InputNo} (mode : inputMode s i = .follow) :
    (changeMode i .follow s).inputs = upd s.inputs i (remoded .latch .follow s.store.inputs[i]) := by
  unfold changeMode
  cases phase : s.inputs[i].phase
  case latched =>
    have judged : judgedPhase (setPhase i .on s) i = phaseAfterRaw .follow (decide (s.store.inputs[i].debounce = 0))
        (decide (s.store.inputs[i].validation = 0)) (decide (s.inputs[i].raw = s.store.inputs[i].active)) .on := by
      unfold judgedPhase rawActive
      rw [setPhase_phase, setPhase_inputs, upd_same, ← mode]
      rfl
    refine (judgeRaw_inputs i _).trans ?_
    rw [judged, setPhase_inputs]
    unfold rephased
    rw [upd_upd]
    refine upd_congr ?_
    unfold remoded
    rw [phase]
  all_goals
    refine (upd_eq_self ?_).symm
    unfold remoded
    rw [phase]

theorem changeMode_latch {i : InputNo} :
    (changeMode i .latch s).inputs = upd s.inputs i (remoded .follow .latch s.store.inputs[i]) := by
  unfold changeMode
  cases phase : s.inputs[i].phase
  case on =>
    refine (setPhase_inputs _ _).trans (upd_congr ?_)
    unfold remoded
    rw [phase]
  case debounceOff =>
    refine (setPhase_inputs _ _).trans (upd_congr ?_)
    unfold remoded
    rw [phase]
  all_goals
    refine (upd_eq_self ?_).symm
    unfold remoded
    rw [phase]

theorem changeMode_inputs {i : InputNo} {before after : InputMode} (moves : before ≠ after) (mode : inputMode s i = after) :
    (changeMode i after s).inputs = upd s.inputs i (remoded before after s.store.inputs[i]) := by
  match before, after with
  | .latch, .follow => exact changeMode_follow mode
  | .follow, .latch => exact changeMode_latch
  | .follow, .follow => exact absurd rfl moves
  | .latch, .latch => exact absurd rfl moves

/-- What SET_STAFF leaves before its reply. -/
structure StaffSet (n : StaffNo) (v : StaffSettings) (s t : State) : Prop where
  frame : Frame [.settings, .link, .inputs] [] s t
  store : t.store = { s.store with staff := upd s.store.staff n fun _ => v }
  inputs : t.inputs = upd s.inputs (staffInput n)
    (remoded (inputMode s (staffInput n)) (StaffKind.mode v.kind) s.store.inputs[staffInput n])
  link : t.link = s.link

theorem inputMode_staff (n : StaffNo) (s : State) : inputMode s (staffInput n) = StaffKind.mode s.store.staff[n].kind := by
  unfold inputMode
  rw [Closed.inputRole_staff]

theorem applyStaff_set (n : StaffNo) (v : StaffSettings) (s : State) : StaffSet n v s (applyStaff n v s) := by
  have frame : Frame [.settings, .link, .inputs] [] s (writeConfig n.val (.staff v.kind)
      (s.modStore fun st => { st with staff := upd st.staff n fun _ => v })) :=
    stored_frame List.mem_cons_self rfl _ _
  have store := stored_store (fun st => { st with staff := upd st.staff n fun _ => v }) n.val (.staff v.kind) s
  have signals := writeConfig_signals n.val (.staff v.kind) (s.modStore fun st => { st with staff := upd st.staff n fun _ => v })
  have inputs : _ = s.inputs := signals.inputs
  have link : _ = s.link := signals.link
  unfold applyStaff
  rw [← inputMode_staff n s]
  dsimp only
  generalize writeConfig _ _ _ = u at frame store inputs link ⊢
  split
  · next same =>
    refine ⟨frame, store, ?_, link⟩
    rw [inputs, same]
    exact (upd_eq_self (remoded_same _ _ _)).symm
  · next moves =>
    have changed := changeMode_frame n (StaffKind.mode v.kind) u
    have mode : inputMode u (staffInput n) = StaffKind.mode v.kind := by
      rw [inputMode_staff, store, upd_same]
    refine ⟨frame.trans (changed.mono (by decide) fun _ h => h), (changed.store_eq (by decide) (by decide)).trans store, ?_,
      (changed.link (by decide)).trans link⟩
    rw [changeMode_inputs moves mode, inputs, store]

theorem setStaff_known {n : StaffNo} {zone kind : Nat} {z : Option Zone} {k : StaffKind} (set : zoneSetting zone = some z)
    (code : StaffKind.ofCode kind = some k) :
    setStaff n.val zone kind s = reply 0x15 .ok (.staff n ⟨z, k⟩) (applyStaff n ⟨z, k⟩ s) := by
  unfold setStaff
  rw [item_val, set, code]

theorem setStaff_unknown {channel zone kind : Nat} (bad : 16 ≤ channel ∨ zoneSetting zone = none ∨
    StaffKind.ofCode kind = none) : setStaff channel zone kind s = reply 0x15 .param .empty s := by
  unfold setStaff
  split
  · next n z k channel_ set code =>
    have := item_some channel_
    rw [set, code] at bad
    rcases bad with bad | bad | bad
    · omega
    · cases bad
    · cases bad
  · rfl

/-! ## SET_OUTPUT (R140) -/

/-- The source lists that SET_OUTPUT accepts. -/
def GoodSources (sources : List Nat) : Prop := sources.length ≤ 16 ∧ sources.Nodup ∧ ∀ x ∈ sources, 1 ≤ x ∧ x ≤ 115

theorem sourceNumbered_some {x : Nat} {src : Source} (h : sourceNumbered x = some src) : src.val + 1 = x := by
  unfold sourceNumbered at h
  split at h
  · cases h
  · next other =>
    have := item_some h
    omega

/-- A list of sources is named by their numbers alone. -/
theorem mapM_sourceNumbered_numbers : ∀ {sources : List Nat} {list : List Source},
    sources.mapM sourceNumbered = some list → list.map (fun src => src.val + 1) = sources
  | [], list, h => by
    cases h
    rfl
  | x :: sources, list, h => by
    rw [List.mapM_cons] at h
    obtain ⟨src, named, h⟩ := Option.bind_eq_some_iff.1 h
    obtain ⟨rest, mapped, h⟩ := Option.bind_eq_some_iff.1 h
    cases h
    rw [List.map_cons, sourceNumbered_some named, mapM_sourceNumbered_numbers mapped]

theorem mapM_sourceNumbered_isSome : ∀ {sources : List Nat}, (∀ x ∈ sources, 1 ≤ x ∧ x ≤ 115) →
    ∃ list, sources.mapM sourceNumbered = some list
  | [], _ => ⟨[], rfl⟩
  | x :: sources, range => by
    obtain ⟨list, mapped⟩ := mapM_sourceNumbered_isSome fun y mem => range y (List.mem_cons_of_mem _ mem)
    obtain ⟨low, high⟩ := range x List.mem_cons_self
    have named : sourceNumbered x = some ⟨x - 1, by omega⟩ := by
      have number := sourceNumbered_val ⟨x - 1, by omega⟩
      rwa [Nat.sub_add_cancel low] at number
    rw [List.mapM_cons, named, mapped]
    exact ⟨_, rfl⟩

theorem sourceList_good {sources : List Nat} (good : GoodSources sources) :
    ∃ list, sourceList sources = some list ∧ list.map (fun src : Source => src.val + 1) = sources := by
  obtain ⟨few, once, range⟩ := good
  obtain ⟨list, mapped⟩ := mapM_sourceNumbered_isSome range
  refine ⟨list, ?_, mapM_sourceNumbered_numbers mapped⟩
  unfold sourceList
  rw [if_neg (not_or.2 ⟨Nat.not_lt.2 few, Classical.not_not.2 once⟩), mapped]

theorem sourceList_bad {sources : List Nat} (bad : ¬ GoodSources sources) : sourceList sources = none := by
  unfold sourceList
  split
  · rfl
  · next ok =>
    obtain ⟨few, once⟩ := not_or.1 ok
    refine Option.eq_none_iff_forall_ne_some.2 fun list mapped =>
      bad ⟨Nat.not_lt.1 few, Classical.byContradiction once, fun x mem => ?_⟩
    rw [← mapM_sourceNumbered_numbers mapped] at mem
    obtain ⟨src, _, rfl⟩ := List.mem_map.1 mem
    omega

/-- What SET_OUTPUT leaves before its reply: the output is heard again and lit exactly while it is called for. -/
structure OutputSet (o : OutputNo) (v : OutputSettings) (s t : State) : Prop where
  frame : Frame [.settings, .link] [] s t
  store : t.store = { s.store with outputs := upd s.store.outputs o fun _ => v }
  own : t.outputs[o] = ⟨false, calledFor t o⟩
  others : ∀ x : OutputNo, x ≠ o → Source.backlog ∉ s.store.outputs[x].sources → t.outputs[x] = s.outputs[x]
  link : t.link = s.link

/-- An output that is heard and follows is lit exactly while it is called for. -/
theorem output_called {o : OutputNo} (heard : Unsilenced o t) (follows : OutputsFollowBut (· ≠ o) t) :
    t.outputs[o] = ⟨false, calledFor t o⟩ := by
  have lit := (follows o).resolve_left fun other => other rfl
  unfold outputOn at lit
  rw [heard, Bool.not_false, Bool.and_true] at lit
  rw [← heard, ← lit]

/-- The output's new settings, with the output heard again. -/
def outputStored (o : OutputNo) (v : OutputSettings) (s : State) : State :=
  (s.modStore fun st => { st with outputs := upd st.outputs o fun _ => v }).modOutput o fun w => { w with silenced := false }

/-- An output's own changes, in a frame that leaves the outputs open. -/
theorem modOutput_frame {parts : List Part} {srcs : List Source} (settings : Part.settings ∈ parts) (o : OutputNo)
    (f : Output → Output) (s : State) : Frame parts srcs s (s.modOutput o f) :=
  { Frame.refl s with outputSame := fun no => absurd settings no }

theorem outputStored_frame {parts : List Part} {srcs : List Source} (settings : Part.settings ∈ parts) (o : OutputNo)
    (v : OutputSettings) (s : State) : Frame parts srcs s (outputStored o v s) :=
  (modStore_frame settings rfl).trans (modOutput_frame settings o _ _)

/-- Re-evaluating an output leaves, beside it and a check on its circuit that it ends, all as it was. -/
theorem refreshOutput_frame {parts : List Part} {srcs : List Source} (settings : Part.settings ∈ parts) (o : OutputNo)
    (s : State) : Frame parts srcs s (refreshOutput o s) := by
  unfold refreshOutput refreshOutputWith
  split
  · exact Frame.refl s
  · split
    · exact (modOutput_frame settings o _ s).trans ((abandonCheck_affects [] _ _).frame fun _ no => nomatch no)
    · exact modOutput_frame settings o _ s

theorem refreshOutput_other {o x : OutputNo} (other : x ≠ o) (calm : Source.backlog ∉ s.store.outputs[x].sources) :
    (refreshOutput o s).outputs[x] = s.outputs[x] := by
  have set (b : Bool) : (s.modOutput o fun v => { v with on := b }).outputs[x] = s.outputs[x] :=
    upd_other _ _ _ _ (Ne.symm other)
  unfold refreshOutput refreshOutputWith
  split
  · rfl
  · split
    · have lit := set true
      have lists : (s.modOutput o fun v => { v with on := true }).store = s.store := rfl
      generalize s.modOutput o (fun v => { v with on := true }) = u at lit lists ⊢
      refine ((abandonCheck_affects [] _ u).outputSame x fun src listed => ⟨List.not_mem_nil, fun backlog => ?_⟩).trans lit
      rw [lists, backlog] at listed
      exact calm listed
    · exact set false

theorem applyOutput_set (o : OutputNo) (v : OutputSettings) (s : State) : OutputSet o v s (applyOutput o v s) := by
  have stored := outputStored_frame (parts := [.settings, .link]) (srcs := []) List.mem_cons_self o v s
  have store : (outputStored o v s).store = { s.store with outputs := upd s.store.outputs o fun _ => v } := rfl
  have heard : Unsilenced o (outputStored o v s) := congrArg Output.silenced (upd_same _ _ _)
  have excused : OutputsFollowBut (fun _ => True) (outputStored o v s) := fun _ => .inl trivial
  have others (x : OutputNo) (other : x ≠ o) : (outputStored o v s).outputs[x] = s.outputs[x] ∧
      (outputStored o v s).store.outputs[x] = s.store.outputs[x] :=
    ⟨upd_other _ _ _ _ (Ne.symm other), upd_other _ _ _ _ (Ne.symm other)⟩
  have link : (outputStored o v s).link = s.link := rfl
  change OutputSet o v s (writeConfig o.val (.kind 0x16) (refreshOutput o (outputStored o v s)))
  generalize outputStored o v s = u at stored store heard excused others link ⊢
  have refreshed := refreshOutput_frame (parts := [.settings, .link]) (srcs := []) List.mem_cons_self o u
  have signals := refreshOutput_signals o u
  have quiet : Unsilenced o (refreshOutput o u) := (unsilenced_closed o).react.refreshOutput o heard
  have follows : OutputsFollowBut (· ≠ o) (refreshOutput o u) :=
    (refreshOutputWith_follows abandonCheck_follows o excused).mono fun _ both => both.2
  have same (x : OutputNo) (other : x ≠ o) (calm : Source.backlog ∉ s.store.outputs[x].sources) :
      (refreshOutput o u).outputs[x] = s.outputs[x] := by
    rw [refreshOutput_other other (by rwa [(others x other).2]), (others x other).1]
  have lists (x : OutputNo) (other : x ≠ o) : (refreshOutput o u).store.outputs[x] = s.store.outputs[x] := by
    rw [signals.store, (others x other).2]
  generalize refreshOutput o u = w at refreshed signals quiet follows same lists ⊢
  have written := writeConfig_affects [] o.val (.kind 0x16) w
  refine ⟨(stored.trans refreshed).trans (written.frame fun _ no => nomatch no), ?_, output_called
    ((unsilenced_closed o).react.write _ _ _ _ quiet) (writeWith_follows abandonCheck_follows _ _ _ _ follows),
    fun x other calm => ?_, written.link.trans (signals.link.trans link)⟩
  · rw [written.store, signals.store, store]
  · refine (written.outputSame x fun src listed => ⟨List.not_mem_nil, fun backlog => ?_⟩).trans (same x other calm)
    rw [lists x other, backlog] at listed
    exact calm listed

theorem setOutput_known {o : OutputNo} {sources : List Nat} {list : List Source} {mode silenceable : Nat} {m : OutputMode}
    {b : Bool} (listed : sourceList sources = some list) (code : OutputMode.ofCode mode = some m)
    (yes : YesNo.ofCode silenceable = some b) : setOutput o.val sources mode silenceable s =
      reply 0x16 .ok (.output o ⟨list, m, b⟩) (applyOutput o ⟨list, m, b⟩ s) := by
  unfold setOutput
  rw [item_val, listed, code, yes]

theorem setOutput_unknown {output : Nat} {sources : List Nat} {mode silenceable : Nat} (bad : 8 ≤ output ∨
    ¬ GoodSources sources ∨ OutputMode.ofCode mode = none ∨ YesNo.ofCode silenceable = none) :
    setOutput output sources mode silenceable s = reply 0x16 .param .empty s := by
  unfold setOutput
  split
  · next o list m b output_ listed code yes =>
    have := item_some output_
    rw [code, yes] at bad
    rcases bad with bad | bad | bad | bad
    · omega
    · rw [sourceList_bad bad] at listed
      cases listed
    · cases bad
    · cases bad
  · rfl

end

end Sys2Proof.Machine

namespace Sys2Proof.Proofs

open Sys2Proof.Machine

/-- Settles O57: each message stores its settings under a record; a staff channel's input is re-moded and an output is
re-evaluated in the same event. -/
theorem unitSettingsAreStored : Obligations.UnitSettingsAreStored := by
  refine ⟨fun s timeout interval => ?_, fun s reader door direction policy => ⟨?_, fun bad =>
      congrArg Host.Outcome.next (setReader_unknown bad)⟩,
    fun s channel zone kind => ⟨?_, fun bad => congrArg Host.Outcome.next (setStaff_unknown bad)⟩,
    fun s output sources mode silenceable => ⟨?_, fun bad => congrArg Host.Outcome.next (setOutput_unknown bad)⟩⟩
  · refine ⟨_, congrArg Host.Outcome.next (setLink_eq timeout interval s), ?_⟩
    obtain ⟨frame, store, periodic, link⟩ := applyLink_set timeout (min 240 interval) s
    generalize applyLink _ _ _ = u at frame store periodic link ⊢
    rw [stored_eq]
    exact ⟨frame.trans (reply_frame (by decide) _ _ _ _), store, periodic, replied_reply link _ _ _⟩
  · rintro r n d p rfl rfl way pin
    refine ⟨_, congrArg Host.Outcome.next (setReader_known way pin), ?_⟩
    have frame : Frame [.settings, .link] [] s (writeConfig r.val (.kind 0x14)
        (s.modStore fun st => { st with readers := upd st.readers r fun _ => ⟨n, d, p⟩ })) := stored_frame (by decide) rfl _ _
    have store := stored_store (fun st => { st with readers := upd st.readers r fun _ => ⟨n, d, p⟩ }) r.val (.kind 0x14) s
    have link : _ = s.link := (writeConfig_signals r.val (.kind 0x14)
      (s.modStore fun st => { st with readers := upd st.readers r fun _ => ⟨n, d, p⟩ })).link
    generalize writeConfig _ _ _ = u at frame store link ⊢
    exact ⟨frame.trans (reply_frame (by decide) _ _ _ _), store, replied_reply link _ _ _⟩
  · rintro n z k rfl set code
    refine ⟨_, congrArg Host.Outcome.next (setStaff_known set code), ?_⟩
    obtain ⟨frame, store, inputs, link⟩ := applyStaff_set n ⟨z, k⟩ s
    generalize applyStaff _ _ _ = u at frame store inputs link ⊢
    exact ⟨frame.trans (reply_frame (by decide) _ _ _ _), store, inputs, replied_reply link _ _ _⟩
  · rintro o m b rfl good code yes
    obtain ⟨list, listed, numbers⟩ := sourceList_good good
    refine ⟨_, list, congrArg Host.Outcome.next (setOutput_known listed code yes), numbers, ?_⟩
    obtain ⟨frame, store, own, others, link⟩ := applyOutput_set o ⟨list, m, b⟩ s
    generalize applyOutput _ _ _ = u at frame store own others link ⊢
    exact ⟨frame.trans (reply_frame (by decide) _ _ _ _), store, own, others, replied_reply link _ _ _⟩

end Sys2Proof.Proofs
end

section
/-! Samples and held detection (R10 to R16, R23). -/

namespace Sys2Proof.Machine

section
variable {s t : State} {z : Zone} {c : ChannelNo} {d : Detection}

/-! ## A rise of the held detection (R16, R23) -/

/-- What a rise can set going. -/
abbrev riseParts : List Part := .detection :: zoneParts

/-- The sources that a rise can set going. -/
abbrev riseSources : List Source := zoneSources ++ allZones.map Source.fire ++ allZones.map Source.firstKnock

theorem fire_rise (z : Zone) : Source.fire z ∈ riseSources :=
  List.mem_append_left _ (List.mem_append_right _ (List.mem_map_of_mem (List.mem_finRange z)))

theorem firstKnock_rise (z : Zone) : Source.firstKnock z ∈ riseSources :=
  List.mem_append_right _ (List.mem_map_of_mem (List.mem_finRange z))

theorem fire_ne_backlog (z : Zone) : Source.fire z ≠ Source.backlog := by revert z; decide
theorem firstKnock_ne_backlog (z : Zone) : Source.firstKnock z ≠ Source.backlog := by revert z; decide
theorem fire_ne_firstKnock (y z : Zone) : Source.fire y ≠ Source.firstKnock z := by revert y z; decide
theorem detectorFault_ne_backlog (c : ChannelNo) : Source.detectorFault c ≠ Source.backlog := by revert c; decide
theorem detectorFault_not_rise (c : ChannelNo) : Source.detectorFault c ∉ riseSources := by revert c; decide
theorem fire_not_door (z : Zone) : Source.fire z ∉ doorSources := by revert z; decide
theorem firstKnock_not_door (z : Zone) : Source.firstKnock z ∉ doorSources := by revert z; decide
theorem detectorFault_not_door (c : ChannelNo) : Source.detectorFault c ∉ doorSources := by revert c; decide

theorem setDetection_frame {parts : List Part} {srcs : List Source} (allowed : Part.detection ∈ parts) (z : Zone)
    (d : Detection) (s : State) : Frame parts srcs s (s.setDetection z d) :=
  { Frame.refl s with detection := fun no => absurd allowed no }

theorem zone_rise {src : Source} (h : src ∈ zoneSources) : src ∈ riseSources :=
  List.mem_append_left _ (List.mem_append_left _ h)

theorem fireConditions_frame {parts : List Part} (z : Zone) (s : State) : Frame parts riseSources s (fireConditions z s) :=
  (Frame.setCondition (fire_rise z) _ _).trans (Frame.setCondition (firstKnock_rise z) _ _)

theorem raiseDetection_frame (z : Zone) (d : Detection) (s : State) : Frame riseParts riseSources s (raiseDetection z d s) :=
  ((setDetection_frame List.mem_cons_self z d s).trans
    ((detectionRise_zone z d _).mono (fun _ => List.mem_cons_of_mem _) fun _ => zone_rise)).trans (fireConditions_frame z _)

theorem redetect_frame (z : Zone) (s : State) : Frame riseParts riseSources s (redetect z s) := by
  unfold redetect
  dsimp only
  split
  · exact raiseDetection_frame z _ s
  · exact Frame.refl s

/-- The zone's conditions follow its held detection. -/
theorem fireConditions_condition (z : Zone) (s : State) :
    (fireConditions z s).alarm.condition[Source.fire z] = decide (s.detection[z] = .confirmed) ∧
    (fireConditions z s).alarm.condition[Source.firstKnock z] = decide (s.detection[z] = .firstKnock) := by
  have fire := setCondition_condition (decide (s.detection[z] = .confirmed)) s (fire_ne_backlog z)
  have detection := (setCondition_signals (Source.fire z) (decide (s.detection[z] = .confirmed)) s).detection
  unfold fireConditions
  dsimp only
  generalize setCondition (Source.fire z) _ s = u at fire detection ⊢
  refine ⟨((setCondition_affects _ _ u).conditionSame _ ?_ (fire_ne_backlog z)).trans fire, ?_⟩
  · rw [List.mem_singleton]
    exact fire_ne_firstKnock z z
  · rw [setCondition_condition _ _ (firstKnock_ne_backlog z), detection]

/-- The state in which a countdown begins (R23). -/
abbrev countingState (s : State) (z : Zone) : ReleaseState := if abortHeld s z then .abortHeld else .countdown

theorem enterCountdown_release {k : Nat} (some_ : k ≠ 0) (z : Zone) (s : State) :
    (enterCountdown z k s).release = upd s.release z fun r =>
      { Release.entered .countdown r with remaining := k, interval := true } := by
  have entry := (enterState_later z .countdown (s.modRelease z fun r => { r with remaining := k })).release
  rw [entered_release, State.modRelease_release, upd_upd] at entry
  unfold enterCountdown
  refine (congrArg State.release (if_neg some_)).trans ?_
  rw [State.modRelease_release, entry, upd_upd]
  rfl

/-- A countdown of at least a second begins, or is frozen by the abort station (R26). -/
theorem beginCountdown_counting {k : Nat} (some_ : k ≠ 0) (z : Zone) (s : State) :
    (beginCountdown z k s).release[z].state = countingState s z ∧ (beginCountdown z k s).release[z].remaining = k := by
  unfold beginCountdown countingState
  by_cases held : abortHeld s z = true
  · rw [if_pos held, if_pos held, (enterAbortHeld_reached z k s).entry]
    exact ⟨rfl, rfl⟩
  · rw [if_neg held, if_neg held, enterCountdown_release some_, upd_same]
    exact ⟨rfl, rfl⟩

/-- Where a rise leaves the zone's state (R23). -/
def risenState (s : State) (z : Zone) (d : Detection) : ReleaseState :=
  match s.release[z].state, d with
  | .normal, .firstKnock => .alerted
  | .normal, .confirmed => countingState s z
  | .alerted, .confirmed => countingState s z
  | st, _ => st

theorem detectionRise_state (long : s.store.zones[z].countdown ≠ 0) (d : Detection) :
    (detectionRise z d s).release[z].state = risenState s z d ∧
    (d = .confirmed → s.release[z].state = .normal ∨ s.release[z].state = .alerted →
      (detectionRise z d s).release[z].remaining = s.store.zones[z].countdown) := by
  have counts := beginCountdown_counting long z s
  have alerted : (enterState z .alerted s).release[z].state = .alerted := by
    rw [(enterState_later z .alerted s).release, entered_release, upd_same]
    rfl
  unfold detectionRise risenState
  cases state : s.release[z].state <;> cases d
  case normal.firstKnock => exact ⟨alerted, nofun⟩
  case normal.confirmed => exact ⟨counts.1, fun _ _ => counts.2⟩
  case alerted.confirmed => exact ⟨counts.1, fun _ _ => counts.2⟩
  all_goals exact ⟨state, fun confirmed quiet => by simp_all⟩

/-! ## Samples (R10 to R13) -/

/-- The sampled channel, with its fault condition, before the zone's detection is derived. -/
def sampled (c : ChannelNo) (value : Nat) (s : State) : State :=
  faultCondition c (s.modChannel c (sampleChannel s.store.detectors[c] value))

theorem modChannel_frame {parts : List Part} {srcs : List Source} (allowed : Part.channels ∈ parts) (c : ChannelNo)
    (f : Channel → Channel) (s : State) : Frame parts srcs s (s.modChannel c f) :=
  { Frame.refl s with channels := fun no => absurd allowed no }

theorem detectorFault_mem (c : ChannelNo) : Source.detectorFault c ∈ detectionSources :=
  List.mem_append_right _ (List.mem_map_of_mem (List.mem_finRange c))

theorem faultCondition_frame {parts : List Part} (c : ChannelNo) (s : State) :
    Frame parts detectionSources s (faultCondition c s) := Frame.setCondition (detectorFault_mem c) _ _

theorem faultCondition_signals (c : ChannelNo) (s : State) : Signals s (faultCondition c s) := setCondition_signals _ _ _

theorem faultCondition_condition (c : ChannelNo) (s : State) :
    (faultCondition c s).alarm.condition[Source.detectorFault c] = decide (s.channels[c].fault ≠ .clear) :=
  setCondition_condition _ _ (detectorFault_ne_backlog c)

theorem rise_detection : ∀ src ∈ riseSources, src ∈ detectionSources := fun _ h => List.mem_append_left _ h

theorem sample_eq (c : ChannelNo) (value : Nat) (s : State) : sample c value s =
    match s.store.detectors[c].zone with
    | none => sampled c value s
    | some z =>
      if (sampled c value s).channels[c].latch = s.channels[c].latch ∧
        (sampled c value s).channels[c].fault = s.channels[c].fault then sampled c value s
      else redetect z (sampled c value s) := rfl

theorem sampled_channels (c : ChannelNo) (value : Nat) (s : State) :
    (sampled c value s).channels = upd s.channels c (sampleChannel s.store.detectors[c] value) :=
  (faultCondition_signals c _).channels

theorem sampled_frame (c : ChannelNo) (value : Nat) (s : State) :
    Frame (.channels :: detectionParts) detectionSources s (sampled c value s) :=
  (modChannel_frame List.mem_cons_self c _ s).trans (faultCondition_frame c _)

/-- A sample is the sampled channel, and the zone's detection derived again where that may have moved. -/
theorem sample_cases {P : State → Prop} {value : Nat} (plain : P (sampled c value s))
    (again : ∀ z, P (redetect z (sampled c value s))) : P (sample c value s) := by
  rw [sample_eq]
  split
  · exact plain
  · split
    · exact plain
    · exact again _

theorem sample_frame (c : ChannelNo) (value : Nat) (s : State) :
    Frame (.channels :: detectionParts) detectionSources s (sample c value s) :=
  sample_cases (sampled_frame c value s) fun z =>
    (sampled_frame c value s).trans ((redetect_frame z _).mono (by decide) rise_detection)

theorem sample_channels (c : ChannelNo) (value : Nat) (s : State) :
    (sample c value s).channels = upd s.channels c (sampleChannel s.store.detectors[c] value) :=
  sample_cases (P := fun u => u.channels = _) (sampled_channels c value s) fun z =>
    ((redetect_frame z _).channels (by decide)).trans (sampled_channels c value s)

theorem sample_condition (c : ChannelNo) (value : Nat) (s : State) :
    (sample c value s).alarm.condition[Source.detectorFault c] =
      decide ((sample c value s).channels[c].fault ≠ .clear) := by
  have condition : (sampled c value s).alarm.condition[Source.detectorFault c] =
      decide ((sampled c value s).channels[c].fault ≠ .clear) := by
    rw [sampled_channels]
    exact faultCondition_condition c _
  refine sample_cases (P := fun u => u.alarm.condition[Source.detectorFault c] = decide (u.channels[c].fault ≠ .clear))
    condition fun z => ?_
  rw [(redetect_frame z _).channels (by decide), (redetect_frame z _).conditionSame _ (detectorFault_not_rise c)
    (detectorFault_ne_backlog c)]
  exact condition

theorem inRange_iff {x : Nat} : inRange x = true ↔ 200 ≤ x ∧ x ≤ 3900 := decide_eq_true_iff

theorem sampleChannel_unused {v : DetectorSettings} (unused : v.zone = none) (x : Nat) (ch : Channel) :
    sampleChannel v x ch =
      { ch with last := x, peak := if 200 ≤ x ∧ x ≤ 3900 then max ch.peak x else ch.peak } := by
  unfold sampleChannel
  rw [unused]
  simp only [inRange_iff]
  rfl

theorem sampleChannel_out {v : DetectorSettings} (used : v.zone ≠ none) {x : Nat} (out : x < 200 ∨ 3900 < x) (ch : Channel) :
    sampleChannel v x ch =
      { ch with
        last := x
        inRun := 0
        outRun := min 3 (ch.outRun + 1)
        fault :=
          if min 3 (ch.outRun + 1) = 3 ∨ ch.fault ≠ .clear then (if x < 200 then .openWire else .shortWire) else .clear } := by
  unfold sampleChannel
  rw [Option.isNone_eq_false_iff.2 (Option.isSome_iff_ne_none.2 used)]
  dsimp only
  rw [if_neg Bool.false_ne_true, if_neg (by rw [inRange_iff]; omega)]
  rfl

theorem sampleChannel_in {v : DetectorSettings} (used : v.zone ≠ none) {x : Nat} (within : ¬ (x < 200 ∨ 3900 < x))
    (ch : Channel) : sampleChannel v x ch =
      { last := x
        arming := armingAfter v x ch
        latch := ch.latch || decide (armingAfter v x ch = 2)
        outRun := 0
        inRun := min 3 (ch.inRun + 1)
        fault := if min 3 (ch.inRun + 1) = 3 then .clear else ch.fault
        peak := max ch.peak x } := by
  unfold sampleChannel
  rw [Option.isNone_eq_false_iff.2 (Option.isSome_iff_ne_none.2 used)]
  dsimp only
  rw [if_neg Bool.false_ne_true, if_pos (by rw [inRange_iff]; omega)]
  rfl

/-- The zone's detection is derived again after a sample that moved the channel's latch or fault flag (R16). -/
theorem sample_rederives {value : Nat} (assigned : s.store.detectors[c].zone = some z) : sample c value s =
    if (sampled c value s).channels[c].latch = s.channels[c].latch ∧
      (sampled c value s).channels[c].fault = s.channels[c].fault then sampled c value s
    else redetect z (sampled c value s) := by
  rw [sample_eq, assigned]

theorem derivedDetection_congr (store : t.store = s.store) (z : Zone) :
    derivedDetection t z = derivedDetection { s with channels := t.channels } z := by
  unfold derivedDetection loopLatched loopFailed loopChannels
  rw [store]

/-- What a rise leaves at the end of the event: the held detection, its conditions and the zone's state. -/
structure Risen (s t : State) (z : Zone) (d : Detection) : Prop where
  detection : t.detection[z] = d
  fire : t.alarm.condition[Source.fire z] = decide (d = .confirmed)
  firstKnock : t.alarm.condition[Source.firstKnock z] = decide (d = .firstKnock)
  state : t.release[z].state = risenState s z d
  remaining : d = .confirmed → s.release[z].state = .normal ∨ s.release[z].state = .alerted →
    t.release[z].remaining = s.store.zones[z].countdown

theorem raiseDetection_risen (long : s.store.zones[z].countdown ≠ 0) (d : Detection) :
    Risen s (settleGate (raiseDetection z d s)) z d := by
  have later := settleGate_later (raiseDetection z d s)
  have settles := settleGate_frame (raiseDetection z d s)
  have rise := detectionRise_zone z d (s.setDetection z d)
  have risen := detectionRise_state (s := s.setDetection z d) long d
  have held : (detectionRise z d (s.setDetection z d)).detection[z] = d := by
    rw [rise.detection (by decide), State.setDetection_detection, upd_same]
  have condition := fireConditions_condition z (detectionRise z d (s.setDetection z d))
  have signals : Signals (detectionRise z d (s.setDetection z d)) (raiseDetection z d s) :=
    (setCondition_signals _ _ _).trans (setCondition_signals _ _ _)
  rw [held] at condition
  change (raiseDetection z d s).alarm.condition[_] = _ ∧ (raiseDetection z d s).alarm.condition[_] = _ at condition
  generalize raiseDetection z d s = u at later settles condition signals ⊢
  obtain ⟨fire, firstKnock⟩ := condition
  refine ⟨?_, (settles.conditionSame _ (fire_not_door z) (fire_ne_backlog z)).trans fire,
    (settles.conditionSame _ (firstKnock_not_door z) (firstKnock_ne_backlog z)).trans firstKnock, ?_, fun confirmed quiet => ?_⟩
  · rw [later.detection, signals.detection, held]
  · rw [later.release, signals.release, risen.1]
    rfl
  · rw [later.release, signals.release]
    exact risen.2 confirmed quiet

theorem countdown_of_inRange (h : SettingsInRange s) (z : Zone) : 10 ≤ s.store.zones[z].countdown := by
  obtain ⟨_, _, _, _, _, _, _, _, _, _, _, zones, _⟩ := h
  exact (zones z).1.1

theorem raiseDetection_congr (store : t.store = s.store) (release : t.release = s.release) (inputs : t.inputs = s.inputs) {u : State}
    (h : Risen t u z d) : Risen s u z d := by
  have state := h.state
  have remaining := h.remaining
  unfold risenState countingState abortHeld active at state
  rw [release, inputs] at state
  rw [release, store] at remaining
  exact ⟨h.detection, h.fire, h.firstKnock, state, remaining⟩

end

end Sys2Proof.Machine

namespace Sys2Proof.Proofs

open Sys2Proof.Machine

/-- Settles O9: the sample works its channel before anything is derived from it, and nothing derived touches a channel. -/
theorem sampleWorksItsChannel : Obligations.SampleWorksItsChannel := by
  intro s c value
  dsimp only
  have settles := settleGate_frame (sample c value.toNat s)
  refine ⟨_, rfl, (sample_frame c value.toNat s).trans (settles.mono (by decide) (by decide)), ?_, ?_⟩
  · rw [settles.channels (by decide), sample_channels]
    refine upd_congr ?_
    by_cases unused : s.store.detectors[c].zone = none
    · rw [if_pos unused, sampleChannel_unused unused]
    · rw [if_neg unused]
      by_cases out : value.toNat < 200 ∨ 3900 < value.toNat
      · rw [if_pos out, sampleChannel_out unused out]
      · rw [if_neg out, sampleChannel_in unused out]
        rfl
  · rw [settles.channels (by decide), settles.conditionSame _ (detectorFault_not_door c) (detectorFault_ne_backlog c)]
    exact sample_condition c value.toNat s

/-- Settles O10: only a rise of the derived detection is taken, to the sequencer and the zone's conditions. -/
theorem sampleRaisesItsZone : Obligations.SampleRaisesItsZone := by
  intro s c value z assigned range
  refine ⟨_, rfl, ?_⟩
  have later := settleGate_later (sample c value.toNat s)
  have channels : (settleGate (sample c value.toNat s)).channels = (sampled c value.toNat s).channels := by
    rw [(settleGate_frame _).channels (by decide), sample_channels, sampled_channels]
  have signals : Signals (s.modChannel c (sampleChannel s.store.detectors[c] value.toNat)) (sampled c value.toNat s) :=
    faultCondition_signals c _
  have store : (sampled c value.toNat s).store = s.store := signals.store
  have release : (sampled c value.toNat s).release = s.release := signals.release
  have inputs : (sampled c value.toNat s).inputs = s.inputs := signals.inputs
  have detection : (sampled c value.toNat s).detection = s.detection := signals.detection
  have derived := derivedDetection_congr store z
  have eq := sample_rederives (value := value.toNat) assigned
  dsimp only
  rw [channels, ← derived]
  generalize sampled c value.toNat s = u at store release inputs detection eq ⊢
  by_cases moved : u.channels[c].latch ≠ s.channels[c].latch ∨ u.channels[c].fault ≠ s.channels[c].fault
  · rw [if_neg fun same => moved.elim (fun other => other same.1) fun other => other same.2] at eq
    by_cases higher : Detection.rank s.detection[z] < Detection.rank (derivedDetection u z)
    · have risen : sample c value.toNat s = raiseDetection z (derivedDetection u z) u :=
        eq.trans (if_pos (by rwa [detection]))
      have long : u.store.zones[z].countdown ≠ 0 := by
        have := countdown_of_inRange range z
        rw [store]
        omega
      refine ⟨fun _ => ?_, fun still => absurd ⟨moved, higher⟩ still⟩
      rw [risen]
      obtain ⟨held, fire, firstKnock, state, remaining⟩ :=
        raiseDetection_congr store release inputs (raiseDetection_risen long (derivedDetection u z))
      exact ⟨held, fire, firstKnock, state, remaining⟩
    · have stays : sample c value.toNat s = u := eq.trans (if_neg (by rwa [detection]))
      refine ⟨fun rises => absurd rises.2 higher, fun _ => ?_⟩
      rw [later.detection, later.release, stays]
      exact ⟨detection, release⟩
  · rw [if_pos ⟨Classical.byContradiction fun other => moved (.inl other), Classical.byContradiction fun other => moved (.inr other)⟩] at eq
    refine ⟨fun rises => absurd rises.1 moved, fun _ => ?_⟩
    rw [later.detection, later.release, eq]
    exact ⟨detection, release⟩

end Sys2Proof.Proofs
end

section
/-! SET_DOOR (R66). -/

namespace Sys2Proof.Machine

section
variable {s t : State} {n : DoorNo} {v : DoorSettings} {slots : Nat}

/-- The door's new inside zone is in an egress state (R66, R25). -/
theorem joinsEgress_iff {old : DoorSettings} : joinsEgress s old v = true ↔ ∃ z : Zone, v.inside = some z ∧
    old.inside ≠ some z ∧ ReleaseState.isEgress s.release[z].state = true := by
  unfold joinsEgress
  cases v.inside with
  | none => exact iff_of_false nofun fun ⟨_, none_is, _⟩ => nomatch none_is
  | some z =>
    rw [Bool.and_eq_true, decide_eq_true_eq]
    constructor
    · exact fun ⟨moved, egress⟩ => ⟨z, rfl, moved, egress⟩
    · rintro ⟨y, same, moved, egress⟩
      cases same
      exact ⟨moved, egress⟩

/-- The door's settings, and its custody window closed where its custody or inside zone changed. -/
def doorStored (n : DoorNo) (v : DoorSettings) (slots : Nat) (s : State) : State :=
  let u := writeConfig n.val (.kind 0x13)
    (s.modStore fun st => { st with doors := upd st.doors n fun _ => v, slots := slots })
  if s.store.doors[n].custody = v.custody ∧ s.store.doors[n].inside = v.inside then u else closeCustody n u

abbrev doorSettingParts : List Part := [.settings, .link, .doors, .custody]

/-- What SET_DOOR stores before its door acts. -/
structure DoorStored (n : DoorNo) (v : DoorSettings) (slots : Nat) (s t : State) : Prop where
  frame : Frame doorSettingParts doorSources s t
  store : t.store = { s.store with doors := upd s.store.doors n fun _ => v, slots := slots }
  custody : t.custody = upd s.custody n fun w =>
    if s.store.doors[n].custody = v.custody ∧ s.store.doors[n].inside = v.inside then w else none
  doors : t.doors = s.doors
  inputs : t.inputs = s.inputs
  link : t.link = s.link

theorem doorStored_stored (n : DoorNo) (v : DoorSettings) (slots : Nat) (s : State) :
    DoorStored n v slots s (doorStored n v slots s) := by
  have frame : Frame doorSettingParts doorSources s (writeConfig n.val (.kind 0x13)
      (s.modStore fun st => { st with doors := upd st.doors n fun _ => v, slots := slots })) :=
    stored_frame List.mem_cons_self rfl _ _
  have store := stored_store (fun st => { st with doors := upd st.doors n fun _ => v, slots := slots }) n.val (.kind 0x13) s
  have signals := writeConfig_signals n.val (.kind 0x13)
    (s.modStore fun st => { st with doors := upd st.doors n fun _ => v, slots := slots })
  have custody : _ = s.custody := signals.custody
  have doors : _ = s.doors := signals.doors
  have inputs : _ = s.inputs := signals.inputs
  have link : _ = s.link := signals.link
  unfold doorStored
  dsimp only
  generalize writeConfig _ _ _ = u at frame store custody doors inputs link ⊢
  split
  · next same =>
    refine ⟨frame, store, ?_, doors, inputs, link⟩
    simp only [custody, if_pos same]
    exact (upd_eq_self rfl).symm
  · next other =>
    have closes := closeCustody_parts n u
    refine ⟨frame.trans (closes.mono (by decide) fun _ no => nomatch no),
      (closes.store_eq (by decide) (by decide)).trans store, ?_, (closes.doors (by decide)).trans doors,
      (closes.inputs (by decide)).trans inputs, (closes.link (by decide)).trans link⟩
    rw [closeCustody_custody, custody]
    exact upd_congr (if_neg other).symm

theorem reseatDoor_stored (n : DoorNo) (v : DoorSettings) (slots : Nat) (s : State) : reseatDoor n v slots s =
    if joinsEgress s s.store.doors[n] v then egressDoor n (doorStored n v slots s) else doorStored n v slots s := rfl

/-- The bolt that a new MOTOR_BOLT door finds withdrawn is thrown (R66). -/
def reboltDoor (n : DoorNo) (throws : Prop) [Decidable throws] (u : State) : State :=
  serve (if throws then joinThrow n (setDoorState n .securing u) else u)

theorem reboltDoor_frame (n : DoorNo) (throws : Prop) [Decidable throws] (u : State) : DoorFrame u (reboltDoor n throws u) := by
  unfold reboltDoor
  split
  · exact ((setDoorState_frame n .securing u).trans (joinThrow_frame n _)).trans (serve_frame _)
  · exact serve_frame u

theorem reboltDoor_egress (throws : Prop) [Decidable throws] (u : State) :
    (reboltDoor n throws u).doors[n].egress = u.doors[n].egress := by
  unfold reboltDoor
  rw [serve_carried.egress]
  by_cases throws
  · next yes => rw [if_pos yes, joinThrow_door, setDoorState_door]
  · next no => rw [if_neg no]

/-- A bolt found withdrawn is not thrown within the event. -/
theorem reboltDoor_securing {throws : Prop} [Decidable throws] {u : State} (now : throws) (away : boltThrown u n = false) :
    (reboltDoor n throws u).doors[n].state = .securing := by
  have securing : (setDoorState n .securing u).doors[n].state = .securing := by rw [setDoorState_door]
  have kept := ((setDoorState_frame n .securing u).trans (joinThrow_frame n _)).trans (serve_frame _)
  have notThrown : boltThrown (serve (joinThrow n (setDoorState n .securing u))) n ≠ true := by
    rw [kept.boltThrown_eq, away]
    nofun
  unfold reboltDoor
  rw [if_pos now]
  cases serve_joinThrow securing with
  | waits door => rw [door, securing]
  | moves door => rw [door, securing]
  | shut _ _ thrown => exact absurd thrown notThrown
  | stands _ _ thrown => exact absurd thrown notThrown

/-- What SET_DOOR leaves before its reply. -/
structure DoorSet (n : DoorNo) (v : DoorSettings) (slots : Nat) (s t : State) : Prop where
  frame : Frame doorSettingParts doorSources s t
  store : t.store = { s.store with doors := upd s.store.doors n fun _ => v, slots := slots }
  custody : t.custody = upd s.custody n fun w =>
    if s.store.doors[n].custody = v.custody ∧ s.store.doors[n].inside = v.inside then w else none
  joins : joinsEgress s s.store.doors[n] v = true → t.doors[n].egress = true
  alone : joinsEgress s s.store.doors[n] v = false → t.doors[n].egress = s.doors[n].egress
  securing : joinsEgress s s.store.doors[n] v = false → s.store.doors[n].lock ≠ .motorBolt → v.lock = .motorBolt →
    s.doors[n].state = .secured → boltThrown s n = false → t.doors[n].state = .securing
  link : t.link = s.link

theorem applyDoor_set (n : DoorNo) (v : DoorSettings) (slots : Nat) (s : State) :
    DoorSet n v slots s (applyDoor n v slots s) := by
  obtain ⟨frame, store, custody, doors, inputs, link⟩ := doorStored_stored n v slots s
  have reseated := reseatDoor_stored n v slots s
  change DoorSet n v slots s (reboltDoor n (s.store.doors[n].lock ≠ .motorBolt ∧ v.lock = .motorBolt ∧
    (reseatDoor n v slots s).doors[n].state = .secured ∧ boltThrown (reseatDoor n v slots s) n = false) (reseatDoor n v slots s))
  rw [reseated]
  generalize doorStored n v slots s = u at frame store custody doors inputs link ⊢
  have same : DoorFrame u (if joinsEgress s s.store.doors[n] v then egressDoor n u else u) := by
    split
    · exact egressDoor_frame n u
    · exact DoorFrame.refl u
  have joined (joins : joinsEgress s s.store.doors[n] v = true) :
      (if joinsEgress s s.store.doors[n] v then egressDoor n u else u).doors[n].egress = true := by
    rw [if_pos joins]
    exact egressDoor_own.1
  have left (alone : joinsEgress s s.store.doors[n] v = false) :
      (if joinsEgress s s.store.doors[n] v then egressDoor n u else u).doors = s.doors := by
    rw [if_neg (by rw [alone]; nofun), doors]
  generalize (if joinsEgress s s.store.doors[n] v then egressDoor n u else u) = w at same joined left ⊢
  have throws := reboltDoor_frame n (s.store.doors[n].lock ≠ .motorBolt ∧ v.lock = .motorBolt ∧
    w.doors[n].state = .secured ∧ boltThrown w n = false) w
  have all := same.trans throws
  refine ⟨frame.trans (Frame.mono all (by decide) fun _ h => h), all.store_eq.trans store,
    (all.custody (by decide)).trans custody, fun joins => ?_, fun alone => ?_, fun alone strike bolt secured away => ?_,
    all.link_eq.trans link⟩
  · rw [reboltDoor_egress, joined joins]
  · rw [reboltDoor_egress, left alone]
  · have found : boltThrown w n = false := by rw [same.boltThrown_eq, boltThrown, active_congr inputs, ← away, boltThrown]
    exact reboltDoor_securing ⟨strike, bolt, by rw [left alone, secured], found⟩ found

/-! ## The request -/

theorem clamp_eq {lo hi : Nat} (h : lo ≤ hi) (x : Nat) : clamp lo hi x = max lo (min hi x) := by
  unfold clamp
  split
  · omega
  · split <;> omega

theorem clamp_zero (hi x : Nat) : clamp 0 hi x = min hi x := by
  rw [clamp_eq (Nat.zero_le hi), Nat.zero_max]

/-- The settings of an acceptable request. -/
def requestedDoor (r : DoorRequest) (inside outside : Option Zone) (lock : LockKind) (fail : FailMode)
    (custody : CustodyRule) : DoorSettings :=
  { inside := inside
    outside := outside
    lock := lock
    fail := if lock = .motorBolt then .secure else fail
    unlockWindow := max 1 (min 30 r.unlockWindow)
    heldTime := max 5 (min 600 r.heldTime)
    boltTime := max 2 (min 20 r.boltTime)
    group := r.group
    custody := custody }

section
variable {r : DoorRequest} {inside outside : Option Zone} {lock : LockKind} {fail : FailMode} {custody : CustodyRule}

/-- The request names its zones, its lock, its fail mode and its custody rule. -/
structure DoorNamed (r : DoorRequest) (inside outside : Option Zone) (lock : LockKind) (fail : FailMode)
    (custody : CustodyRule) : Prop where
  inside : zoneSetting r.inside = some inside
  outside : zoneSetting r.outside = some outside
  lock : LockKind.ofCode r.lock = some lock
  fail : FailMode.ofCode r.fail = some fail
  custody : CustodyRule.ofCode r.custody = some custody

theorem clamped_of_named (named : DoorNamed r inside outside lock fail custody) : DoorRequest.clamped r =
    if (inside = outside ∧ inside ≠ none) ∨ 4 < r.group then none
    else some (requestedDoor r inside outside lock fail custody) := by
  unfold DoorRequest.clamped requestedDoor
  rw [named.inside, named.outside, named.lock, named.fail, named.custody]
  dsimp only
  rw [clamp_eq (by omega), clamp_eq (by omega), clamp_eq (by omega)]

theorem doorSlots_eq (r : DoorRequest) : DoorRequest.slotCount r = max 1 (min 3 r.slots) := clamp_eq (by omega) _

theorem doorAdjusted_iff (named : DoorNamed r inside outside lock fail custody) : DoorRequest.adjusted r v = true ↔
    ¬ (r.unlockWindow = v.unlockWindow ∧ r.heldTime = v.heldTime ∧ r.boltTime = v.boltTime ∧
      r.slots = DoorRequest.slotCount r ∧ fail = v.fail) := by
  unfold DoorRequest.adjusted
  rw [decide_eq_true_eq, named.fail]
  simp only [Classical.not_and_iff_not_or_not, ne_eq, Option.some_inj]

theorem zoneSetting_zero {x : Nat} (h : zoneSetting x = some none) : x = 0 := by
  unfold zoneSetting at h
  split at h
  · next zero => exact zero
  · obtain ⟨z, _, zone⟩ := Option.map_eq_some_iff.1 h
    cases zone

theorem clamped_none (bad : zoneSetting r.inside = none ∨ zoneSetting r.outside = none ∨ LockKind.ofCode r.lock = none ∨
    FailMode.ofCode r.fail = none ∨ CustodyRule.ofCode r.custody = none ∨ 4 < r.group ∨
    (r.inside = r.outside ∧ r.inside ≠ 0)) : DoorRequest.clamped r = none := by
  unfold DoorRequest.clamped
  split
  · next inside outside lock fail custody inside_ outside_ lock_ fail_ custody_ =>
    rw [inside_, outside_, lock_, fail_, custody_] at bad
    refine if_pos ?_
    rcases bad with bad | bad | bad | bad | bad | bad | ⟨same, zoned⟩
    · cases bad
    · cases bad
    · cases bad
    · cases bad
    · cases bad
    · exact .inr bad
    · rw [← same, inside_] at outside_
      exact .inl ⟨Option.some.inj outside_, fun none_is => zoned (zoneSetting_zero (none_is ▸ inside_))⟩
  · rfl

theorem setDoor_unknown (bad : 8 ≤ r.door ∨ DoorRequest.clamped r = none) : setDoor r s = reply 0x13 .param .empty s := by
  unfold setDoor
  split
  · next m w door clamped =>
    have := item_some door
    rcases bad with bad | bad
    · omega
    · rw [bad] at clamped
      cases clamped
  · rfl

/-- A door that takes settings stands secured under no override, and the drive runs no more motions than the new slots. -/
def TakesSettings (s : State) (n : DoorNo) (slots : Nat) : Prop :=
  s.doors[n].state = .secured ∧ overridden s n = false ∧ motionsInProgress s ≤ slots

theorem takesSettings_iff : TakesSettings s n slots ↔
    ¬ (s.doors[n].state ≠ .secured ∨ overridden s n = true ∨ slots < motionsInProgress s) := by
  unfold TakesSettings
  simp only [not_or, ne_eq, Classical.not_not, Bool.not_eq_true, Nat.not_lt]

theorem setDoor_known (door : r.door = n.val) (clamped : DoorRequest.clamped r = some v) : setDoor r s =
    if s.doors[n].state ≠ .secured ∨ overridden s n = true ∨ DoorRequest.slotCount r < motionsInProgress s then
      refuse 0x13 .state s
    else reply 0x13 (stored (DoorRequest.adjusted r v)) (.door n v (DoorRequest.slotCount r))
      (applyDoor n v (DoorRequest.slotCount r) s) := by
  unfold setDoor
  rw [door, item_val, clamped]

end

end

end Sys2Proof.Machine
end

section
/-! SET_INPUT, SET_DETECTOR and SET_ZONE (R2, R9, R19). -/

namespace Sys2Proof.Machine

section
variable {s t : State}

/-! ## SET_INPUT (R2, R7) -/

/-- Where conditioning in progress is taken back to (R7). -/
def phaseBack (p : Phase) : Phase :=
  match p with
  | .debounceOn => .idle
  | .validate => .idle
  | .debounceOff => .on
  | p => p

/-- The phase that new settings leave an input at (R7). -/
def reconditioned (i : InputNo) (s : State) : Phase :=
  phaseAfterRaw (inputMode s i) (decide (s.store.inputs[i].debounce = 0)) (decide (s.store.inputs[i].validation = 0))
    (rawActive s i) (phaseBack s.inputs[i].phase)

theorem restartConditioning_eq (i : InputNo) (s : State) : restartConditioning i s =
    noteFirst i (judgeRaw i (s.modInput i fun v => { v with phase := phaseBack v.phase })) := rfl

theorem restartConditioning_frame (i : InputNo) (s : State) :
    Frame inputParts inputSources s (restartConditioning i s) :=
  ((modInput_frame (by decide) i _ s).trans (judgeRaw_frame i _)).trans (noteFirst_frame i _)

theorem restartConditioning_inputs (i : InputNo) (s : State) : (restartConditioning i s).inputs =
    upd s.inputs i fun w => ⟨w.raw, reconditioned i s, w.first || Phase.atRest (reconditioned i s)⟩ := by
  have judged : judgedPhase (s.modInput i fun v => { v with phase := phaseBack v.phase }) i = reconditioned i s := by
    unfold judgedPhase reconditioned rawActive
    rw [State.modInput_inputs, upd_same]
    rfl
  rw [restartConditioning_eq, noteFirst_phased (judgeRaw_inputs i _), judged, State.modInput_inputs, upd_upd]

theorem setInput_known {i : InputNo} {level : Nat} {l : Level} (code : Level.ofCode level = some l) (debounce validation : Nat) :
    setInput i.val level debounce validation s =
      reply 0x10 (stored (decide (63 < debounce ∨ 63 < validation))) (.input i ⟨l, min 63 debounce, min 63 validation⟩)
        (restartConditioning i (writeConfig i.val (.kind 0x10) (s.modStore fun st => { st with
          inputs := upd st.inputs i fun _ => ⟨l, min 63 debounce, min 63 validation⟩ }))) := by
  unfold setInput
  rw [item_val, code]

theorem setInput_unknown {input level debounce validation : Nat} (bad : 48 ≤ input ∨ Level.ofCode level = none) :
    setInput input level debounce validation s = reply 0x10 .param .empty s := by
  unfold setInput
  split
  · next i l input_ code =>
    have := item_some input_
    rcases bad with bad | bad
    · omega
    · rw [bad] at code
      cases code
  · rfl

/-- What SET_INPUT leaves before its reply. -/
structure InputSet (i : InputNo) (v : InputSettings) (s t : State) : Prop where
  frame : Frame ([.settings, .link] ++ inputParts) inputSources s t
  settings : SameSettings { s.store with inputs := upd s.store.inputs i fun _ => v } t.store
  inputs : t.inputs = upd s.inputs i fun w =>
    let p := phaseAfterRaw (inputMode s i) (decide (v.debounce = 0)) (decide (v.validation = 0))
      (decide (s.inputs[i].raw = v.active)) (phaseBack s.inputs[i].phase)
    ⟨w.raw, p, w.first || Phase.atRest p⟩
  link : t.link = s.link

theorem inputSet (i : InputNo) (v : InputSettings) (s : State) : InputSet i v s (restartConditioning i
    (writeConfig i.val (.kind 0x10) (s.modStore fun st => { st with inputs := upd st.inputs i fun _ => v }))) := by
  have frame : Frame ([.settings, .link] ++ inputParts) inputSources s
      (writeConfig i.val (.kind 0x10) (s.modStore fun st => { st with inputs := upd st.inputs i fun _ => v })) :=
    stored_frame List.mem_cons_self rfl _ _
  have store := stored_store (fun st => { st with inputs := upd st.inputs i fun _ => v }) i.val (.kind 0x10) s
  have signals := writeConfig_signals i.val (.kind 0x10) (s.modStore fun st => { st with inputs := upd st.inputs i fun _ => v })
  have inputs : _ = s.inputs := signals.inputs
  have link : _ = s.link := signals.link
  generalize writeConfig _ _ _ = u at frame store inputs link ⊢
  have restarts := restartConditioning_frame i u
  refine ⟨frame.trans (restarts.mono (by decide) fun _ h => h), ?_, ?_, (restarts.link (by decide)).trans link⟩
  · rw [← store]
    exact restarts.settings (by decide)
  · have mode : inputMode u i = inputMode s i := by
      unfold inputMode
      rw [store]
    have phase : reconditioned i u = phaseAfterRaw (inputMode s i) (decide (v.debounce = 0)) (decide (v.validation = 0))
        (decide (s.inputs[i].raw = v.active)) (phaseBack s.inputs[i].phase) := by
      unfold reconditioned rawActive
      rw [mode, inputs, store, upd_same]
    rw [restartConditioning_inputs, phase, inputs]

theorem min_zero_iff {hi x : Nat} (some_ : hi ≠ 0) : min hi x = 0 ↔ x = 0 := by omega

/-! ## SET_DETECTOR (R9) -/

theorem redetectSetting_frame (z : Option Zone) (s : State) : Frame riseParts riseSources s (redetectSetting z s) := by
  cases z with
  | none => exact Frame.refl s
  | some z => exact redetect_frame z s

/-- The channel's settings and its entry under them, with its fault condition. -/
def detectorStored (c : ChannelNo) (v : DetectorSettings) (s : State) : State :=
  faultCondition c ((writeConfig c.val (.kind 0x11)
    (s.modStore fun st => { st with detectors := upd st.detectors c fun _ => v })).modChannel c
      (Channel.reassign s.store.detectors[c] v))

/-- SET_DETECTOR derives detection again in the zones that the channel leaves and joins. -/
theorem applyDetector_cases {P : State → Prop} {c : ChannelNo} {v : DetectorSettings} (plain : P (detectorStored c v s))
    (again : ∀ (z : Option Zone) (u : State), P u → P (redetectSetting z u)) : P (applyDetector c v s) := by
  unfold applyDetector
  dsimp only
  split
  · exact plain
  · split
    · exact again _ _ plain
    · exact again _ _ (again _ _ plain)

abbrev detectorParts : List Part := [.settings, .link, .channels] ++ detectionParts

/-- What SET_DETECTOR leaves before its reply. -/
structure DetectorSet (c : ChannelNo) (v : DetectorSettings) (s t : State) : Prop where
  frame : Frame detectorParts detectionSources s t
  settings : SameSettings { s.store with detectors := upd s.store.detectors c fun _ => v } t.store
  channels : t.channels = upd s.channels c (Channel.reassign s.store.detectors[c] v)
  condition : t.alarm.condition[Source.detectorFault c] = decide (t.channels[c].fault ≠ .clear)
  link : t.link = s.link

theorem detectorStored_set (c : ChannelNo) (v : DetectorSettings) (s : State) : DetectorSet c v s (detectorStored c v s) := by
  have frame : Frame detectorParts detectionSources s (writeConfig c.val (.kind 0x11)
      (s.modStore fun st => { st with detectors := upd st.detectors c fun _ => v })) :=
    stored_frame List.mem_cons_self rfl _ _
  have store := stored_store (fun st => { st with detectors := upd st.detectors c fun _ => v }) c.val (.kind 0x11) s
  have signals := writeConfig_signals c.val (.kind 0x11)
    (s.modStore fun st => { st with detectors := upd st.detectors c fun _ => v })
  have channels : _ = s.channels := signals.channels
  have link : _ = s.link := signals.link
  unfold detectorStored
  generalize writeConfig _ _ _ = u at frame store channels link ⊢
  have assigned := faultCondition_signals c (u.modChannel c (Channel.reassign s.store.detectors[c] v))
  have condition := faultCondition_condition c (u.modChannel c (Channel.reassign s.store.detectors[c] v))
  refine ⟨(frame.trans (modChannel_frame (by decide) c _ u)).trans (faultCondition_frame c _), ?_, ?_, ?_,
    assigned.link.trans link⟩
  · rw [assigned.store, State.modChannel_store, store]
    exact SameSettings.refl _
  · rw [assigned.channels, State.modChannel_channels, channels]
  · rw [condition, assigned.channels]

theorem DetectorSet.redetectSetting {c : ChannelNo} {v : DetectorSettings} {u : State} (h : DetectorSet c v s u)
    (z : Option Zone) : DetectorSet c v s (redetectSetting z u) := by
  have rise := redetectSetting_frame z u
  have channels := rise.channels (by decide)
  refine ⟨h.frame.trans (rise.mono (by decide) rise_detection), h.settings.trans (rise.settings (by decide)),
    channels.trans h.channels, ?_, (rise.link (by decide)).trans h.link⟩
  rw [channels, rise.conditionSame _ (detectorFault_not_rise c) (detectorFault_ne_backlog c), h.condition]

theorem applyDetector_set (c : ChannelNo) (v : DetectorSettings) (s : State) : DetectorSet c v s (applyDetector c v s) :=
  applyDetector_cases (P := DetectorSet c v s) (detectorStored_set c v s) fun z _ h => h.redetectSetting z

theorem zoneBusy_iff {z : Option Zone} : zoneBusy s z = true ↔ ∃ y : Zone, z = some y ∧ s.release[y].state ≠ .normal ∧
    s.release[y].state ≠ .alerted ∧ s.release[y].state ≠ .disabled := by
  unfold zoneBusy
  cases z with
  | none => exact iff_of_false nofun fun ⟨_, none_is, _⟩ => nomatch none_is
  | some y =>
    have quiet : (!ReleaseState.isQuiet s.release[y].state) = true ↔ s.release[y].state ≠ .normal ∧
        s.release[y].state ≠ .alerted ∧ s.release[y].state ≠ .disabled := by
      cases s.release[y].state <;> decide
    refine quiet.trans ⟨fun h => ⟨y, rfl, h⟩, ?_⟩
    rintro ⟨x, same, h⟩
    cases same
    exact h

/-- A channel is not moved to or from a zone that is releasing (R9). -/
abbrev ChannelKept (s : State) (c : ChannelNo) (z : Option Zone) : Prop :=
  s.store.detectors[c].zone ≠ z ∧ (zoneBusy s s.store.detectors[c].zone = true ∨ zoneBusy s z = true)

section
variable {c : ChannelNo} {zone loop : Nat} {z : Option Zone} {l : Loop}

theorem setDetector_known (set : zoneSetting zone = some z) (code : Loop.ofCode loop = some l) (threshold hysteresis : Nat) :
    setDetector c.val zone loop threshold hysteresis s =
      if ChannelKept s c z then refuse 0x11 .state s
      else reply 0x11 (stored (decide (4095 < threshold ∨ min 4095 threshold < hysteresis)))
        (.detector c ⟨z, l, min 4095 threshold, min (min 4095 threshold) hysteresis⟩)
        (applyDetector c ⟨z, l, min 4095 threshold, min (min 4095 threshold) hysteresis⟩ s) := by
  unfold setDetector
  rw [item_val, set, code]

theorem setDetector_unknown {channel threshold hysteresis : Nat}
    (bad : 16 ≤ channel ∨ zoneSetting zone = none ∨ Loop.ofCode loop = none) :
    setDetector channel zone loop threshold hysteresis s = reply 0x11 .param .empty s := by
  unfold setDetector
  split
  · next c z l channel_ set code =>
    have := item_some channel_
    rw [set, code] at bad
    rcases bad with bad | bad | bad
    · omega
    · cases bad
    · cases bad
  · rfl

end

/-! ## SET_ZONE (R19, R48) -/

abbrev zoneSettingParts : List Part := [.settings, .link] ++ periodParts ++ detectionParts

/-- What SET_ZONE leaves before its reply. -/
structure ZoneSet (z : Zone) (v : ZoneSettings) (s t : State) : Prop where
  frame : Frame zoneSettingParts detectionSources s t
  settings : SameSettings { s.store with zones := upd s.store.zones z fun _ => v } t.store
  link : t.link = s.link

section
variable {z : Zone} {v : ZoneSettings} {u : State}

theorem ZoneSet.then {parts : List Part} {srcs : List Source} {w : State} (h : ZoneSet z v s u) (frame : Frame parts srcs u w)
    (sub : ∀ p ∈ parts, p ∈ zoneSettingParts ∧ p ≠ .settings ∧ p ≠ .link) (sources : ∀ src ∈ srcs, src ∈ detectionSources) :
    ZoneSet z v s w :=
  ⟨h.frame.trans (frame.mono (fun p mem => (sub p mem).1) sources),
    h.settings.trans (frame.settings fun mem => (sub _ mem).2.1 rfl), (frame.link fun mem => (sub _ mem).2.2 rfl).trans h.link⟩

theorem impaired_detection (z : Zone) : Source.impaired z ∈ detectionSources := by revert z; decide

theorem applyZone_set (z : Zone) (v : ZoneSettings) (s : State) : ZoneSet z v s (applyZone z v s) := by
  have stored : ZoneSet z v s (writeConfig (Zone.number z) (.kind 0x12)
      (s.modStore fun st => { st with zones := upd st.zones z fun _ => v })) := by
    refine ⟨stored_frame List.mem_cons_self rfl _ _, ?_, (writeConfig_signals _ _ _).link⟩
    rw [stored_store]
    exact SameSettings.refl _
  unfold applyZone
  dsimp only
  generalize writeConfig _ _ _ = u at stored ⊢
  have detected : ZoneSet z v s (if s.store.zones[z].singleKnock = v.singleKnock then u else redetect z u) := by
    split
    · exact stored
    · exact stored.then (redetect_frame z u) (by decide) rise_detection
  generalize (if s.store.zones[z].singleKnock = v.singleKnock then u else redetect z u) = w at detected ⊢
  have reserved : ZoneSet z v s (if s.store.zones[z].reservePresent = v.reservePresent then w else reImpaired z w) := by
    split
    · exact detected
    · exact detected.then (parts := []) (Frame.setCondition (srcs := [Source.impaired z]) List.mem_cons_self _ w)
        (fun _ no => nomatch no) fun src mem => List.mem_singleton.1 mem ▸ impaired_detection z
  generalize (if s.store.zones[z].reservePresent = v.reservePresent then w else reImpaired z w) = x at reserved ⊢
  split
  · exact reserved
  · exact reserved.then (rePeriods_frame x) (by decide) fun _ no => nomatch no

/-- The settings of a zone request with its named values (R19, R48). -/
def requestedZone (r : ZoneRequest) (abort : AbortMode) (occupied : OccupiedRelease) (present auto single : Bool)
    (passback : Passback) : ZoneSettings :=
  { countdown := max 10 (min 60 r.countdown)
    manualDelay := min 30 r.manualDelay
    abortMode := abort
    doorHoldMax := min 120 r.doorHoldMax
    occupiedRelease := occupied
    occupancyHoldMax := max 30 (min 600 r.occupancyHoldMax)
    firingTime := max 1 (min 10 r.firingTime)
    reservePresent := present
    reserveAuto := auto
    singleKnock := single
    soakConstant := min 65535 r.soakConstant
    ventConstant := min 65535 r.ventConstant
    doorConstant := min 65535 r.doorConstant
    holdThreshold := max 1000 (min 10000 r.holdThreshold)
    reentryThreshold := min (max 1000 (min 10000 r.holdThreshold) - 1) r.reentryThreshold
    minimumSoak := max 6 (min 360 r.minimumSoak)
    reserveFraction := min 10000 r.reserveFraction
    custodyWindow := max 5 (min 60 r.custodyWindow)
    passback := passback
    loneTime := max 1 (min 120 r.loneTime)
    openingSchedule := ⟨min 15 r.openingSchedule, by omega⟩ }

section
variable {r : ZoneRequest} {abort : AbortMode} {occupied : OccupiedRelease} {present auto single : Bool} {passback : Passback}

/-- The named values of a zone request. -/
structure ZoneNamed (r : ZoneRequest) (abort : AbortMode) (occupied : OccupiedRelease) (present auto single : Bool)
    (passback : Passback) : Prop where
  abort : AbortMode.ofCode r.abortMode = some abort
  occupied : OccupiedRelease.ofCode r.occupiedRelease = some occupied
  present : YesNo.ofCode r.reservePresent = some present
  auto : YesNo.ofCode r.reserveAuto = some auto
  single : YesNo.ofCode r.singleKnock = some single
  passback : Passback.ofCode r.passback = some passback

theorem clampedZone_of_named (named : ZoneNamed r abort occupied present auto single passback) :
    ZoneRequest.clamped r = some (requestedZone r abort occupied present auto single passback) := by
  unfold ZoneRequest.clamped requestedZone
  rw [named.abort, named.occupied, named.present, named.auto, named.single, named.passback]
  simp only [clamp_zero, clamp_eq (lo := 10) (hi := 60) (by decide), clamp_eq (lo := 30) (hi := 600) (by decide),
    clamp_eq (lo := 1) (hi := 10) (by decide), clamp_eq (lo := 1000) (hi := 10000) (by decide),
    clamp_eq (lo := 6) (hi := 360) (by decide), clamp_eq (lo := 5) (hi := 60) (by decide),
    clamp_eq (lo := 1) (hi := 120) (by decide)]

theorem clampedZone_none (bad : AbortMode.ofCode r.abortMode = none ∨ OccupiedRelease.ofCode r.occupiedRelease = none ∨
    YesNo.ofCode r.reservePresent = none ∨ YesNo.ofCode r.reserveAuto = none ∨ YesNo.ofCode r.singleKnock = none ∨
    Passback.ofCode r.passback = none) : ZoneRequest.clamped r = none := by
  unfold ZoneRequest.clamped
  split
  · next abort occupied present auto single passback =>
    rw [abort, occupied, present, auto, single, passback] at bad
    rcases bad with bad | bad | bad | bad | bad | bad <;> cases bad
  · rfl

theorem setZone_known (zone : r.zone = z.val + 1) (clamped : ZoneRequest.clamped r = some v) : setZone r s =
    if ReleaseState.inSpan s.release[z].state then refuse 0x12 .state s
    else reply 0x12 (stored (decide (ZoneRequest.numbers r ≠ ZoneSettings.numbers v))) (.zone z v) (applyZone z v s) := by
  unfold setZone
  rw [zone, zoneNumbered_val, clamped]

theorem setZone_unknown (bad : r.zone = 0 ∨ 4 < r.zone ∨ ZoneRequest.clamped r = none) :
    setZone r s = reply 0x12 .param .empty s := by
  unfold setZone
  rcases bad with bad | bad | bad
  · rw [zoneNumbered_of_bad (.inl bad)]
    rfl
  · rw [zoneNumbered_of_bad (.inr bad)]
    rfl
  · rw [bad]
    split
    · next none_is => cases none_is
    · rfl

end

end

end

end Sys2Proof.Machine

namespace Sys2Proof.Proofs

open Sys2Proof.Machine

/-- Settles O56: each message stores its settings, clamped, under a record, and what it sets going stays in its frame. -/
theorem fieldSettingsAreStored : Obligations.FieldSettingsAreStored := by
  refine ⟨fun s input level debounce validation => ⟨?_, fun follows bad =>
      (congrArg finish (setInput_unknown bad)).trans (finish_reply follows _ _ _)⟩,
    fun s channel zone loop threshold hysteresis => ⟨?_, fun follows bad =>
      (congrArg finish (setDetector_unknown bad)).trans (finish_reply follows _ _ _)⟩,
    fun s r => ⟨?_, fun follows bad => ?_⟩, fun s r => ⟨?_, fun bad => ?_⟩⟩
  · rintro i l rfl code
    refine ⟨_, congrArg finish (setInput_known code debounce validation), ?_⟩
    obtain ⟨frame, settings, inputs, link⟩ := inputSet i ⟨l, min 63 debounce, min 63 validation⟩ s
    generalize restartConditioning i _ = u at frame settings inputs link ⊢
    refine ⟨frame.reply_settled (by decide) (by decide) doorSource_input _ _ _, ?_, ?_, ?_⟩
    · rw [(settleGate_later _).store]
      exact settings
    · rw [(settleGate_later _).inputs, reply_inputs, inputs]
      simp only [min_zero_iff (hi := 63) (by decide)]
      rfl
    · rw [stored_eq]
      exact replied_settled link _ _ _
  · rintro c z l rfl set code
    have known := setDetector_known (s := s) (c := c) set code threshold hysteresis
    simp only [← zoneBusy_iff]
    refine ⟨fun free => ?_, fun follows kept => ?_⟩
    · refine ⟨_, congrArg finish (known.trans (if_neg free)), ?_⟩
      obtain ⟨frame, settings, channels, condition, link⟩ :=
        applyDetector_set c ⟨z, l, min 4095 threshold, min (min 4095 threshold) hysteresis⟩ s
      generalize applyDetector _ _ _ = u at frame settings channels condition link ⊢
      have settles := settleGate_frame (reply 0x11 (stored (decide (4095 < threshold ∨ min 4095 threshold < hysteresis)))
        (.detector c ⟨z, l, min 4095 threshold, min (min 4095 threshold) hysteresis⟩) u)
      have same := settles.channels (by decide)
      refine ⟨frame.reply_settled (by decide) (by decide) (by decide) _ _ _, ?_, ?_, ?_, ?_⟩
      · rw [(settleGate_later _).store]
        exact settings
      · exact same.trans channels
      · rw [same]
        exact (settles.conditionSame _ (detectorFault_not_door c) (detectorFault_ne_backlog c)).trans condition
      · rw [← stored_eq]
        exact replied_settled link _ _ _
    · exact (congrArg finish (known.trans (if_pos kept))).trans (finish_reply follows _ _ _)
  · rintro z abort occupied present auto single passback zone abort_ occupied_ present_ auto_ single_ passback_
    have clamped := clampedZone_of_named ⟨abort_, occupied_, present_, auto_, single_, passback_⟩
    refine ⟨fun outside => ?_, fun follows within => ?_⟩
    · refine ⟨_, congrArg finish ((setZone_known zone clamped).trans (if_neg (by rw [outside]; nofun))), ?_⟩
      obtain ⟨frame, settings, link⟩ := applyZone_set z (requestedZone r abort occupied present auto single passback) s
      generalize applyZone _ _ _ = u at frame settings link ⊢
      refine ⟨frame.reply_settled (by decide) (by decide) (by decide) _ _ _, ?_, ?_⟩
      · rw [(settleGate_later _).store]
        exact settings
      · rw [stored_eq, ite_not]
        exact replied_settled link _ _ _
    · exact (congrArg finish ((setZone_known zone clamped).trans (if_pos within))).trans (finish_reply follows _ _ _)
  · refine (congrArg finish (setZone_unknown ?_)).trans (finish_reply follows _ _ _)
    exact bad.imp_right fun bad => bad.imp_right clampedZone_none
  · rintro n inside outside lock fail custody door inside_ outside_ lock_ fail_ custody_ few sides
    have named : DoorNamed r inside outside lock fail custody := ⟨inside_, outside_, lock_, fail_, custody_⟩
    have clamped := (clamped_of_named named).trans (if_neg (not_or.2 ⟨fun ⟨same, some_⟩ => some_ (sides same), Nat.not_lt.2 few⟩))
    have known := setDoor_known (s := s) door clamped
    have adjusted := doorAdjusted_iff (v := requestedDoor r inside outside lock fail custody) named
    have joins := joinsEgress_iff (s := s) (old := s.store.doors[n]) (v := requestedDoor r inside outside lock fail custody)
    rw [doorSlots_eq] at known adjusted
    refine ⟨fun takes => ?_, fun refused => ?_⟩
    · refine ⟨_, congrArg Host.Outcome.next (known.trans (if_neg (takesSettings_iff.1 takes))), ?_⟩
      obtain ⟨frame, store, window, joined, alone, securing, link⟩ :=
        applyDoor_set n (requestedDoor r inside outside lock fail custody) (max 1 (min 3 r.slots)) s
      generalize applyDoor _ _ _ _ = u at frame store window joined alone securing link ⊢
      obtain ⟨secured, plain, _⟩ := takes
      have stays (apart : ¬ _) := Bool.eq_false_iff.2 fun yes => apart (joins.1 yes)
      have unmoved : s.doors[n].egress = false := Bool.eq_false_iff.2 fun under => by
        rw [overridden_iff.2 (.inl under)] at plain
        cases plain
      refine ⟨frame.trans (reply_frame (by decide) _ _ _ _), store, window, fun yes => joined (joins.2 yes),
        fun apart => (alone (stays apart)).trans unmoved, fun apart strike bolt away =>
          securing (stays apart) (by rw [strike]; nofun) bolt secured away, ?_⟩
      have status : stored (DoorRequest.adjusted r (requestedDoor r inside outside lock fail custody)) =
          if ¬ (_ ∧ _) then .adjusted else .ok := if_of_iff adjusted rfl rfl
      rw [status, ite_not]
      exact replied_reply link _ _ _
    · exact congrArg Host.Outcome.next (known.trans (if_pos (Classical.byContradiction fun free => refused (takesSettings_iff.2 free))))
  · exact congrArg Host.Outcome.next (setDoor_unknown (bad.imp_right clamped_none))

end Sys2Proof.Proofs
end

section
/-! The link interface: the framer, what a whole frame runs, the reply sent (R189 to R193). -/

namespace Sys2Proof.Machine

section
variable {s t : State} {addr len b kind : Byte} {received payload body : List Byte}

/-! ## The framer (R190) -/

/-- The link after a byte that leaves the framer in `f`, timed or not. -/
def framed (f : Framer) (timed : Bool) (s : State) : State :=
  s.modLink fun l => { l with framer := f, timing := timed && decide (l.limit ≠ 0), slot := l.slot.map fun _ => true }

theorem setFramer_timed {f : Framer} (runs : f ≠ .waiting) (s : State) : setFramer f (heardActivity s) = framed f true s := by
  unfold setFramer framed heardActivity State.modLink Link.heard
  simp only [runs, ne_eq, not_false_eq_true, true_and, Bool.true_and]

theorem setFramer_waiting (s : State) : setFramer .waiting (heardActivity s) = framed .waiting false s := by
  unfold setFramer framed heardActivity State.modLink Link.heard
  simp only [ne_eq, not_true_eq_false, false_and, decide_false, Bool.false_and]

theorem GateFollows.framed (h : GateFollows s) (f : Framer) (timed : Bool) : GateFollows (framed f timed s) := h

theorem receiveByte_waiting (waits : s.link.framer = .waiting) (b : Byte) : receiveByte b s = s.modLink fun l =>
    { l with
      framer := .header b
      limit := s.store.receiveTimeout
      timing := decide (s.store.receiveTimeout ≠ 0)
      slot := l.slot.map fun _ => true } := by
  unfold receiveByte
  rw [waits]
  unfold takeAddress setFramer heardActivity State.modLink Link.heard
  simp only [ne_eq, reduceCtorEq, not_false_eq_true, true_and]

theorem receiveByte_header (headed : s.link.framer = .header addr) (b : Byte) : receiveByte b s =
    if b.toNat = 0 ∨ 251 < b.toNat then framed .waiting false s else framed (.body addr b []) true s := by
  unfold receiveByte
  rw [headed]
  dsimp only
  unfold takeLength
  rw [setFramer_waiting, setFramer_timed (f := .body addr b []) nofun]

theorem receiveByte_body (within : s.link.framer = .body addr len received) (b : Byte) : receiveByte b s =
    if received.length + 1 = len.toNat + 2 then completeFrame addr len (received ++ [b]) (framed .waiting false s)
    else framed (.body addr len (received ++ [b])) true s := by
  unfold receiveByte
  rw [within]
  dsimp only
  unfold takeBody
  dsimp only
  rw [setFramer_waiting, setFramer_timed (f := .body addr len (received ++ [b])) nofun, List.length_append,
    List.length_singleton]

/-! ## Whole frames (R189 to R192) -/

/-- A frame whose CRC is wrong, that meets a reply still to be sent, or that is another part's, is discarded. -/
theorem completeFrame_discarded (bad : withCrc (addr :: len :: body.take len.toNat) ≠ addr :: len :: body ∨
    s.link.reply.isSome = true ∨ (addr ≠ 0 ∧ addr.toNat ≠ s.link.node.toNat)) : completeFrame addr len body s = s := by
  unfold completeFrame
  dsimp only
  split
  · rfl
  · next crc =>
    split
    · rfl
    · next free =>
      obtain ⟨other, elsewhere⟩ := (bad.resolve_left crc).resolve_left free
      split
      · unfold accept
        rw [if_neg other, if_neg elsewhere]
      · rfl

/-- An addressed frame of this part runs its request. -/
theorem completeFrame_runs (crc : withCrc (addr :: len :: body.take len.toNat) = addr :: len :: body)
    (free : s.link.reply = none) (content : body.take len.toNat = kind :: payload) (addressed : addr ≠ 0)
    (mine : addr.toNat = s.link.node.toNat) : completeFrame addr len body s = request kind payload s := by
  unfold completeFrame
  dsimp only
  rw [if_neg (Classical.not_not.2 crc), free, content]
  dsimp only
  unfold accept
  rw [if_neg addressed, if_pos mine]
  rfl

/-- The two bytes that a CRC adds. -/
theorem withCrc_bytes (bytes : List Byte) : ∃ high low : Byte, withCrc bytes = bytes ++ [high, low] := ⟨_, _, rfl⟩

/-- The last byte of a whole addressed frame runs its request, on the link as it then stands. -/
theorem receiveByte_runs (mine : addr.toNat = s.link.node.toNat) (addressed : addr ≠ 0) (free : s.link.reply = none)
    (length : len.toNat = payload.length + 1)
    (within : s.link.framer = .body addr len
      (((kind :: payload) ++ (withCrc (addr :: len :: kind :: payload)).drop (payload.length + 3)).dropLast))
    (last : (withCrc (addr :: len :: kind :: payload)).getLast? = some b) :
    receiveByte b s = request kind payload (framed .waiting false s) := by
  obtain ⟨high, low, crc⟩ := withCrc_bytes (addr :: len :: kind :: payload)
  have tail : (withCrc (addr :: len :: kind :: payload)).drop (payload.length + 3) = [high, low] := by
    rw [crc]
    exact List.drop_left' rfl
  have low_eq : b = low := by
    rw [crc, show [high, low] = [high] ++ [low] from rfl, ← List.append_assoc, List.getLast?_concat] at last
    exact (Option.some.inj last).symm
  have before : ((kind :: payload) ++ [high, low]).dropLast = (kind :: payload) ++ [high] := by
    rw [List.dropLast_append_of_ne_nil (List.cons_ne_nil _ _)]
    rfl
  rw [tail, before] at within
  have whole : ((kind :: payload) ++ [high]) ++ [b] = (kind :: payload) ++ [high, low] := by
    rw [low_eq, List.append_assoc]
    rfl
  have content : ((kind :: payload) ++ [high, low]).take len.toNat = kind :: payload := List.take_left' (length ▸ rfl)
  rw [receiveByte_body within, if_pos (by rw [length]; simp), whole]
  refine completeFrame_runs ?_ free content addressed mine
  rw [content]
  exact crc

/-! ## Requests (R193) -/

theorem request_known {f : State → State} (known : kindCodes.contains kind.toNat = true)
    (fits : message kind.toNat payload = some f) (s : State) : request kind payload s = f s := by
  unfold request
  rw [if_pos known, fits]

theorem request_unknown (unknown : kindCodes.contains kind.toNat = false) (s : State) :
    request kind payload s = unknownKind kind s := if_neg (by rw [unknown]; nofun)

/-- A command that leaves the gate to the end of the event answers as one that settles it (R38). -/
theorem finish_of_exec {c : Instr} {u : State} (follows : GateFollows s) (runs : exec c s = .next u ∨ exec c s = finish u) :
    finish u = exec c s := by
  rcases runs with next | settles
  · obtain ⟨t, answer, held⟩ := exec_gateFollows c follows
    rw [next] at answer ⊢
    cases answer
    exact finish_of_follows held
  · exact settles.symm

/-! ## The reply (R192) and the receive timeout (R190) -/

theorem expireReceive_timing (timed : s.link.timing = true) :
    expireReceive s = s.modLink fun l => { l with framer := .waiting, timing := false } := by
  unfold expireReceive setFramer
  rw [if_pos timed]
  simp only [ne_eq, not_true_eq_false, false_and, decide_false]

theorem expireReceive_stopped (stopped : s.link.timing = false) : expireReceive s = s :=
  if_neg (by rw [stopped]; nofun)

theorem sendReply_none (free : s.link.reply = none) : sendReply s = s := by
  unfold sendReply
  rw [free]

theorem sendReply_some {r : Reply} (waits : s.link.reply = some r) : sendReply s =
    s.modLink fun l => { l with sent := replyFrame l.node r, reply := none, slot := l.slot.map fun _ => true } := by
  unfold sendReply
  rw [waits]
  rfl

end

end Sys2Proof.Machine

namespace Sys2Proof.Proofs

open Sys2Proof.Machine

/-- Settles O59: the framer takes byte after byte, and the last byte of a frame of this part runs what its message names. -/
theorem linkFramesRunCommands : Obligations.LinkFramesRunCommands := by
  refine ⟨fun s b follows => ⟨fun waits => ?_, fun addr headed => ?_, fun addr len received within => ⟨fun more => ?_,
    fun done bad => ?_⟩⟩, fun s len b kind payload => ?_, fun s => ⟨fun timed => ?_, fun stopped => ?_, fun free => ?_,
    fun r waits => ?_⟩⟩
  · have taken := receiveByte_waiting waits b
    refine (congrArg finish taken).trans (finish_of_follows ?_)
    exact follows
  · refine (congrArg finish (receiveByte_header headed b)).trans ?_
    split
    · exact finish_of_follows (follows.framed _ _)
    · exact finish_of_follows (follows.framed _ _)
  · exact (congrArg finish ((receiveByte_body within b).trans (if_neg more))).trans (finish_of_follows (follows.framed _ _))
  · have discarded : completeFrame addr len (received ++ [b]) (framed .waiting false s) = framed .waiting false s := by
      refine completeFrame_discarded ?_
      rw [List.take_append_of_le_length (by omega)]
      exact bad
    exact (congrArg finish (((receiveByte_body within b).trans (if_pos done)).trans discarded)).trans
      (finish_of_follows (follows.framed _ _))
  · dsimp only
    intro follows real free length within last
    have node : (BitVec.setWidth 8 s.link.node).toNat = s.link.node.toNat :=
      BitVec.toNat_setWidth_of_le (by decide)
    have addressed : BitVec.setWidth 8 s.link.node ≠ 0 := fun zero => real (BitVec.eq_of_toNat_eq (by rw [← node, zero]; rfl))
    have taken := receiveByte_runs node addressed free length within last
    have runs {f : State → State} {c : Instr} (known : kindCodes.contains kind.toNat = true)
        (fits : message kind.toNat payload = some f)
        (answers : exec c (framed .waiting false s) = .next (f (framed .waiting false s)) ∨
          exec c (framed .waiting false s) = finish (f (framed .waiting false s))) :
        exec (.receiveByte b) s = exec c (framed .waiting false s) :=
      (congrArg finish (taken.trans (request_known known fits _))).trans (finish_of_exec (follows.framed _ _) answers)
    refine ⟨?_, fun unknown => ?_, ?_, ?_⟩
    · rintro rfl
      exact runs rfl rfl (.inl rfl)
    · exact (congrArg finish (taken.trans (request_unknown unknown _))).trans
        (finish_of_exec (c := .unknownKind kind) (follows.framed .waiting false) (.inl rfl))
    · rintro rfl
      refine ⟨?_, ?_, ?_, ?_, ?_, ?_, ?_, ?_, ?_, ?_⟩
      all_goals
        rintro rfl
        exact runs rfl rfl (.inl rfl)
    · rintro item rfl
      refine ⟨?_, ?_, ?_, ?_, ?_, ?_, ?_, ?_, ?_, ?_⟩ <;> rintro rfl
      · exact runs (c := .zoneDisable item.toNat) rfl rfl (.inl rfl)
      · exact runs (c := .zoneEnable item.toNat) rfl rfl (.inr rfl)
      · exact runs (c := .reserveRelease item.toNat) rfl rfl (.inr rfl)
      · exact runs (c := .zoneReset item.toNat) rfl rfl (.inl rfl)
      · exact runs (c := .zoneStatus item.toNat) rfl rfl (.inl rfl)
      · exact runs (c := .doorStatus item.toNat) rfl rfl (.inl rfl)
      · exact runs (c := .occupancyRead item.toNat) rfl rfl (.inl rfl)
      · exact runs (c := .occupancyConfirm item.toNat) rfl rfl (.inr rfl)
      · exact runs (c := .complete item.toNat) rfl rfl (.inl rfl)
      · exact runs (c := .silence item.toNat) rfl rfl (.inl rfl)
  · exact congrArg Host.Outcome.next (expireReceive_timing timed)
  · exact congrArg Host.Outcome.next (expireReceive_stopped stopped)
  · exact congrArg Host.Outcome.next (sendReply_none free)
  · exact congrArg Host.Outcome.next (sendReply_some waits)

end Sys2Proof.Proofs
end

section
/-! Relations of states that the release sequencer's steps stand in, walked through once; and the calm of a part whose doors
hold no passes: what its events leave of passes, FREE flags, circuit flags and the attention line. -/

namespace Sys2Proof.Machine

/-! ## The release sequencer's steps, as a relation -/

/-- A relation that every step of the release sequencer and of the estimator stands in. -/
structure ZoneRel (R : State → State → Prop) : Prop where
  refl : ∀ s, R s s
  trans : ∀ s t u, R s t → R t u → R s u
  write : ∀ (k : RecordKind) (a b : Nat) (d : Detail) (s : State), R s (write k a b d s)
  setCondition : ∀ (src : Source) (b : Bool) (s : State), R s (setCondition src b s)
  edgeEvent : ∀ (src : Source) (s : State), R s (edgeEvent src s)
  release : ∀ (z : Zone) (f : Release → Release) (s : State), R s (s.modRelease z f)
  record : ∀ (z : Zone) (f : ZoneRecord → ZoneRecord) (s : State), R s (s.modRecord z f)
  estimate : ∀ (z : Zone) (f : Estimate → Estimate) (s : State), R s (s.modEstimate z f)
  egressMove : ∀ (old new : ReleaseState) (z : Zone) (s : State), R s (egressMove old new z s)
  beginFiring : ∀ (c : Fin 8) (s : State), R s (beginFiring c s)

namespace ZoneRel

section
variable {R : State → State → Prop} (hR : ZoneRel R)
include hR

/-- One step after others. -/
theorem and {s t u : State} (h1 : R s t) (h2 : R t u) : R s u := hR.trans _ _ _ h1 h2

theorem enterStateAs (d : Detail) (z : Zone) (st : ReleaseState) (s : State) : R s (enterStateAs d z st s) := by
  unfold Machine.enterStateAs
  refine hR.and (hR.and (hR.and (hR.and ?_ (hR.write _ _ _ _ _)) (hR.setCondition _ _ _)) (hR.setCondition _ _ _))
    (hR.egressMove _ _ _ _)
  split
  · exact hR.and (hR.release _ _ _) (hR.record _ _ _)
  · exact hR.release _ _ _

theorem enterState (z : Zone) (st : ReleaseState) (s : State) : R s (enterState z st s) := hR.enterStateAs _ _ _ _

theorem enterAbortHeld (z : Zone) (k : Nat) (s : State) : R s (enterAbortHeld z k s) :=
  hR.and (hR.release _ _ _) (hR.enterState _ _ _)

theorem fireBank (z : Zone) (b : Bank) (s : State) : R s (fireBank z b s) :=
  hR.and (hR.and (hR.and (hR.and (hR.record _ _ _) (hR.record _ _ _)) (hR.release _ _ _)) (hR.write _ _ _ _ _))
    (hR.beginFiring _ _)

theorem occupantRecords (z : Zone) (s : State) : R s (occupantRecords z s) := by
  unfold Machine.occupantRecords
  dsimp only
  split
  · split
    · exact hR.refl s
    · exact hR.write _ _ _ _ s
  · exact forEach_rel hR.refl hR.trans _ _ _ fun _ _ u => hR.write _ _ _ _ u

theorem enterDischarge (z : Zone) (s : State) : R s (enterDischarge z s) :=
  hR.and (hR.and (hR.and (hR.enterState _ _ _) (hR.fireBank _ _ _)) (hR.edgeEvent _ _)) (hR.occupantRecords _ _)

theorem goDischarge (z : Zone) (s : State) : R s (goDischarge z s) := by
  unfold Machine.goDischarge
  split
  · exact hR.enterAbortHeld _ _ _
  · exact hR.enterDischarge _ _

theorem occupancyCheck (z : Zone) (s : State) : R s (occupancyCheck z s) := by
  unfold Machine.occupancyCheck
  split
  · exact hR.goDischarge _ _
  · exact hR.and (hR.enterState _ _ _) (hR.release _ _ _)

theorem endCountdown (z : Zone) (s : State) : R s (endCountdown z s) := by
  unfold Machine.endCountdown
  split
  · exact hR.goDischarge _ _
  · split
    · exact hR.and (hR.enterState _ _ _) (hR.release _ _ _)
    · exact hR.occupancyCheck _ _

theorem enterCountdown (z : Zone) (k : Nat) (s : State) : R s (enterCountdown z k s) := by
  have entered := hR.and (hR.release z (fun r => { r with remaining := k }) s) (hR.enterState z .countdown _)
  unfold Machine.enterCountdown
  dsimp only
  split
  · exact hR.and entered (hR.endCountdown _ _)
  · exact hR.and entered (hR.release _ _ _)

theorem beginCountdown (z : Zone) (k : Nat) (s : State) : R s (beginCountdown z k s) := by
  unfold Machine.beginCountdown
  split
  · exact hR.enterAbortHeld _ _ _
  · exact hR.enterCountdown _ _ _

theorem setManual (z : Zone) (s : State) : R s (setManual z s) := hR.release _ _ _

theorem manualStart (z : Zone) (s : State) : R s (manualStart z s) := by
  unfold Machine.manualStart
  split
  · exact hR.and (hR.setManual _ _) (hR.goDischarge _ _)
  · exact hR.and (hR.setManual _ _) (hR.beginCountdown _ _ _)

theorem manualShorten (z : Zone) (s : State) : R s (manualShorten z s) := by
  unfold Machine.manualShorten
  dsimp only
  split
  · exact hR.and (hR.and (hR.setManual _ _) (hR.release _ _ _)) (hR.endCountdown _ _)
  · exact hR.and (hR.setManual _ _) (hR.release _ _ _)

theorem manualActivation (z : Zone) (s : State) : R s (manualActivation z s) := by
  unfold Machine.manualActivation
  split
  · exact hR.manualStart _ _
  · exact hR.manualStart _ _
  · exact hR.manualShorten _ _
  · exact hR.setManual _ _
  · exact hR.and (hR.setManual _ _) (hR.goDischarge _ _)
  · exact hR.and (hR.setManual _ _) (hR.goDischarge _ _)
  · exact hR.write _ _ _ _ _

theorem abortActivation (z : Zone) (s : State) : R s (abortActivation z s) := by
  unfold Machine.abortActivation
  split
  · exact hR.enterAbortHeld _ _ _
  · exact hR.enterAbortHeld _ _ _
  · exact hR.enterAbortHeld _ _ _
  · exact hR.refl s

theorem noteOpening (z : Zone) (s : State) : R s (noteOpening z s) := by
  unfold Machine.noteOpening
  split
  · exact hR.estimate _ _ _
  · exact hR.refl s

theorem reportOpening (n : DoorNo) (s : State) : R s (reportOpening n s) := by
  unfold Machine.reportOpening
  split
  · exact hR.noteOpening _ _
  · exact hR.refl s

end

end ZoneRel

/-! ## Calm -/

/-- No pass comes to the door, and its FREE flag stands. -/
structure DoorKept (d e : Door) : Prop where
  free : e.free = d.free
  passes : d.passes = [] → e.passes = []

theorem DoorKept.refl (d : Door) : DoorKept d d := ⟨rfl, id⟩
theorem DoorKept.trans {d e f : Door} (h1 : DoorKept d e) (h2 : DoorKept e f) : DoorKept d f :=
  ⟨h2.free.trans h1.free, h2.passes ∘ h1.passes⟩
theorem DoorKept.of_eq {d e : Door} (h : e = d) : DoorKept d e := h ▸ .refl e
theorem Carried.kept {d e : Door} (h : Carried d e) : DoorKept d e := ⟨h.free, fun none_held => h.passes.trans none_held⟩

/-- From `s` to `t` no pass comes to a door, no FREE flag and no circuit flag changes, and the attention line is not
suppressed. -/
structure Calm (s t : State) : Prop where
  doors : ∀ n : DoorNo, DoorKept s.doors[n] t.doors[n]
  flags : t.line.flags = s.line.flags
  driven : t.alarm.suppressed = true → s.alarm.suppressed = true

section
variable {s t u : State} {n m : DoorNo} {z : Zone}

theorem Calm.refl (s : State) : Calm s s := ⟨fun _ => .refl _, rfl, id⟩

theorem Calm.trans (h1 : Calm s t) (h2 : Calm t u) : Calm s u :=
  ⟨fun n => (h1.doors n).trans (h2.doors n), h2.flags.trans h1.flags, h1.driven ∘ h2.driven⟩

/-- The attention line is not suppressed. -/
def Driven (s : State) : Prop := s.alarm.suppressed = false

theorem driven_closed : LineClosed Driven where
  push k a b d h := by
    unfold pushRecord
    split <;> exact h
  output _ h := h
  alarm _ lifts h := Bool.eq_false_iff.2 fun suppressed => Bool.eq_false_iff.1 h (lifts _ suppressed)
  line h := h

/-- What lifts a suppression, or leaves it, never suppresses. -/
theorem driven_of (h : Driven s → Driven t) : t.alarm.suppressed = true → s.alarm.suppressed = true := fun suppressed =>
  Bool.of_not_eq_false fun driven => Bool.eq_false_iff.1 (h driven) suppressed

theorem Signals.calm (h : Signals s t) (driven : Driven s → Driven t) : Calm s t :=
  ⟨fun _ => .of_eq h.door, h.flags, driven_of driven⟩

theorem write_calm (k : RecordKind) (a b : Nat) (d : Detail) (s : State) : Calm s (write k a b d s) :=
  (write_signals k a b d s).calm (driven_closed.react.write k a b d)

theorem setCondition_calm (src : Source) (b : Bool) (s : State) : Calm s (setCondition src b s) :=
  (setCondition_signals src b s).calm (driven_closed.react.setCondition src b)

theorem edgeEvent_calm (src : Source) (s : State) : Calm s (edgeEvent src s) :=
  (edgeEvent_signals src s).calm (driven_closed.react.setPending src true)

theorem driven_doors : OverrideClosed Driven where
  toSignalClosed := driven_closed.react.signals
  door _ h := h
  queue _ _ h := h
  stop _ h := h
  start _ _ _ h := h
  egress _ h := h

/-- A step of the door controller, by what it leaves of the doors' entries. -/
theorem DoorFrame.calm (h : DoorFrame s t) (doors : ∀ n : DoorNo, DoorKept s.doors[n] t.doors[n])
    (driven : Driven s → Driven t) : Calm s t := ⟨doors, h.flags (by decide), driven_of driven⟩

/-- A step at one door. -/
theorem SameDoor.kept (own : DoorKept s.doors[n] t.doors[n]) (others : ∀ m : DoorNo, m ≠ n → t.doors[m] = s.doors[m])
    (m : DoorNo) : DoorKept s.doors[m] t.doors[m] := by
  by_cases here : m = n
  · rw [here]
    exact own
  · exact .of_eq (others m here)

theorem serve_calm (s : State) : Calm s (serve s) :=
  (serve_frame s).calm (fun _ => serve_carried.kept) driven_doors.serve

theorem modDoor_calm {f : Door → Door} (n : DoorNo) (s : State) (kept : ∀ d, DoorKept d (f d) := by exact fun _ => ⟨rfl, id⟩) :
    Calm s (s.modDoor n f) := by
  refine ⟨fun m => ?_, rfl, id⟩
  rw [State.modDoor_doors, upd_get]
  split
  · next here =>
    rw [← here]
    exact kept _
  · exact .refl _

/-- A step that leaves the doors' entries, the circuit flags and the alarm flags. -/
theorem calm_of_same (doors : t.doors = s.doors) (flags : t.line.flags = s.line.flags) (alarm : t.alarm = s.alarm) :
    Calm s t := ⟨fun n => .of_eq (by rw [doors]), flags, by rw [alarm]; exact id⟩

theorem overrideEnd_passes (none_held : s.doors[n].passes = []) : (overrideEnd n s).doors[n].passes = [] := by
  by_cases resting : s.doors[n].state = .released ∨ s.doors[n].state = .releasing
  · rcases overrideEnd_door resting with h | h <;> rw [h]
    rfl
  · rw [overrideEnd_eq, serve_carried.passes]
    unfold overrideUnlock
    split
    · next released => exact absurd (.inl released) resting
    · next releasing => exact absurd (.inr releasing) resting
    · unfold startHeld
      split
      · exact none_held
      · exact (congrArg Door.passes (modDoor_door _)).trans none_held
    · rw [turnRetry_state]
      exact none_held
    · exact none_held

theorem egressEndDoor_kept (n m : DoorNo) (s : State) : DoorKept s.doors[m] (egressEndDoor n s).doors[m] := by
  by_cases here : m = n
  · subst here
    refine ⟨egressEndDoor_flags.2, fun none_held => ?_⟩
    by_cases ends : EgressEnds s.doors[m]
    · rw [egressEndDoor_ends ends]
      exact overrideEnd_passes (by rw [egressCleared_door]; exact none_held)
    · rw [egressEndDoor_stays ends, egressCleared_door]
      exact none_held
  · exact (egressEndDoor_other here s).kept

theorem egressDoor_kept (n m : DoorNo) (s : State) : DoorKept s.doors[m] (egressDoor n s).doors[m] := by
  by_cases here : m = n
  · subst here
    obtain ⟨_, free, passes, _⟩ := egressDoor_own (n := m) (s := s)
    exact ⟨free, fun none_held => by rw [passes, none_held]; rfl⟩
  · exact (egressDoor_other here s).kept

theorem egressMove_calm (old new : ReleaseState) (z : Zone) (s : State) : Calm s (egressMove old new z s) := by
  unfold egressMove
  split
  · exact forEach_rel Calm.refl (fun _ _ _ => Calm.trans) _ _ s fun n _ u =>
      (egressDoor_frame n u).calm (fun m => egressDoor_kept n m u) driven_doors.egressDoor
  · split
    · exact forEach_rel Calm.refl (fun _ _ _ => Calm.trans) _ _ s fun n _ u =>
        (egressEndDoor_frame n u).calm (fun m => egressEndDoor_kept n m u) driven_doors.egressEndDoor
    · exact .refl s

theorem beginFiring_calm (c : Fin 8) (s : State) : Calm s (beginFiring c s) :=
  ((abortRun_signals s).calm driven_closed.abortRun).trans (calm_of_same rfl rfl rfl)

theorem zoneRel_calm : ZoneRel Calm where
  refl := .refl
  trans _ _ _ := .trans
  write := write_calm
  setCondition := setCondition_calm
  edgeEvent := edgeEvent_calm
  release _ _ _ := calm_of_same rfl rfl rfl
  record _ _ _ := calm_of_same rfl rfl rfl
  estimate _ _ _ := calm_of_same rfl rfl rfl
  egressMove := egressMove_calm
  beginFiring := beginFiring_calm

/-! ## The door controller's steps are calm where no pass is added (R70, R73, R85, R92) -/

theorem startHeld_calm (n : DoorNo) (s : State) : Calm s (startHeld n s) := by
  unfold startHeld
  split
  · exact .refl s
  · exact modDoor_calm n s

theorem startWindow_calm (n : DoorNo) (s : State) : Calm s (startWindow n s) := by
  unfold startWindow
  split
  · exact .refl s
  · exact modDoor_calm n s

theorem setDoorState_calm (n : DoorNo) (st : DoorState) (s : State) : Calm s (setDoorState n st s) :=
  modDoor_calm n s

theorem setMark_calm (n : DoorNo) (s : State) : Calm s (setMark n s) := modDoor_calm n s

theorem enterOpen_calm (n : DoorNo) (s : State) : Calm s (enterOpen n s) :=
  (modDoor_calm n s).trans (startHeld_calm n _)

theorem enterReleased_calm (n : DoorNo) (s : State) : Calm s (enterReleased n s) :=
  (setDoorState_calm n _ s).trans (startWindow_calm n _)

theorem join_calm (n : DoorNo) (motion : Motion) (cls : BoltClass) (s : State) : Calm s (join n motion cls s) :=
  calm_of_same (join_doors _ _) (by rw [(join_frame n motion cls s).flags (by decide)]) (join_alarm _ _)

theorem joinWithdraw_calm (n : DoorNo) (cls : BoltClass) (s : State) : Calm s (joinWithdraw n cls s) :=
  (setMark_calm n s).trans (join_calm n _ _ _)

theorem removeThrow_calm (n : DoorNo) (s : State) : Calm s (removeThrow n s) := by
  unfold removeThrow
  split
  · exact calm_of_same rfl rfl rfl
  · exact .refl s

theorem openDoor_calm (n : DoorNo) (s : State) : Calm s (openDoor n s) := by
  have emptied : Calm s (s.modDoor n fun d => { d with passes := [] }) := modDoor_calm n s fun _ => ⟨rfl, fun _ => rfl⟩
  unfold openDoor
  split
  · exact emptied.trans (enterOpen_calm n _)
  · exact emptied.trans (enterOpen_calm n _)
  · exact ((setDoorState_calm n _ s).trans (edgeEvent_calm _ _)).trans (write_calm _ _ _ _ _)
  · exact (removeThrow_calm n s).trans (enterOpen_calm n _)
  · exact .refl s

theorem releaseLock_calm (n : DoorNo) (cls : BoltClass) (s : State) : Calm s (releaseLock n cls s) := by
  unfold releaseLock
  split
  · split
    · exact (setDoorState_calm n _ s).trans (joinWithdraw_calm n _ _)
    · exact (setMark_calm n s).trans (enterReleased_calm n _)
  · exact join_calm n _ _ s
  · exact startWindow_calm n s
  · exact (setDoorState_calm n _ s).trans (joinWithdraw_calm n _ _)
  · exact .refl s

theorem secureDoor_calm (n : DoorNo) (s : State) : Calm s (secureDoor n s) := modDoor_calm n s

theorem settleDoor_calm (n : DoorNo) (s : State) : Calm s (settleDoor n s) := by
  have stopped : Calm s (s.modDoor n fun d => { d with window := none, heldTimer := none }) :=
    modDoor_calm n s
  unfold settleDoor
  dsimp only
  refine stopped.trans ?_
  generalize s.modDoor n (fun d => { d with window := none, heldTimer := none }) = u
  split
  · split
    · exact (enterOpen_calm n u).trans (joinWithdraw_calm n _ _)
    · exact enterOpen_calm n u
  · split
    · split
      · exact (setDoorState_calm n _ u).trans (joinWithdraw_calm n _ _)
      · exact (setDoorState_calm n _ u).trans (setMark_calm n _)
    · split
      · exact (setDoorState_calm n _ u).trans (join_calm n _ _ _)
      · exact secureDoor_calm n u

theorem motionEffect_calm (n : DoorNo) (motion : Motion) (s : State) : Calm s (motionEffect n motion s) := by
  unfold motionEffect
  split
  · exact enterReleased_calm n s
  · split
    · exact .refl s
    · exact secureDoor_calm n s
  · exact ((settleDoor_calm n s).trans (setCondition_calm _ _ _)).trans (write_calm _ _ _ _ _)
  · exact .refl s

theorem boltChange_calm (n : DoorNo) (s : State) : Calm s (boltChange n s) := by
  unfold boltChange
  split
  · split
    · have freed {m : Option InMotion} : Calm s (s.setMotion n m) := calm_of_same rfl rfl rfl
      exact (freed.trans (motionEffect_calm n _ _)).trans (serve_calm _)
    · exact .refl s
  · split
    · exact ((setDoorState_calm n _ s).trans (join_calm n _ _ _)).trans (serve_calm _)
    · exact .refl s

end

end Sys2Proof.Machine
end

section
/-! POWER_ON, the event: what the first readings of the inputs leave of a part that starts afresh (R8, R92). -/

namespace Sys2Proof.Machine

section
variable {s t u : State} {n : DoorNo} {i : InputNo} {z : Zone}

/-! ## A part without people -/

/-- No list holds anyone and none is certain, no lone timer runs, and no door holds a pass. -/
structure Dawn (s : State) : Prop where
  doors : ∀ n : DoorNo, s.doors[n].passes = []
  occupancy : s.occupancy = Vector.replicate 4 ⟨[], false⟩
  loneTimer : s.loneTimer = Vector.replicate 4 none

theorem Dawn.lists (h : Dawn s) (z : Zone) : s.occupancy[z].list = [] := by
  rw [h.occupancy]
  simp only [Fin.getElem_fin, Vector.getElem_replicate]

theorem Dawn.lone (h : Dawn s) (z : Zone) : s.loneTimer[z] = none := by
  rw [h.loneTimer]
  simp only [Fin.getElem_fin, Vector.getElem_replicate]

/-- What an input sets going in a part without people. -/
abbrev WakingParts : List Part := [.inputs, .gate] ++ zoneParts

/-- An event of such a part. -/
structure Wakes (s t : State) : Prop where
  frame : Frame WakingParts inputSources s t
  calm : Calm s t

theorem Wakes.refl (s : State) : Wakes s s := ⟨Frame.refl s, .refl s⟩
theorem Wakes.trans (h1 : Wakes s t) (h2 : Wakes t u) : Wakes s u := ⟨h1.frame.trans h2.frame, h1.calm.trans h2.calm⟩

theorem Wakes.dawn (h : Wakes s t) (dawn : Dawn s) : Dawn t :=
  ⟨fun n => (h.calm.doors n).passes (dawn.doors n), (h.frame.occupancy (by decide)).trans dawn.occupancy,
    (h.frame.loneTimer (by decide)).trans dawn.loneTimer⟩

theorem ZoneFrame.wakes (h : ZoneFrame s t) (calm : Calm s t) : Wakes s t :=
  ⟨Frame.mono h (by decide) fun _ hs => List.mem_append_left _ (List.mem_append_left _ hs), calm⟩

theorem write_wakes (k : RecordKind) (a b : Nat) (d : Detail) (s : State) : Wakes s (write k a b d s) :=
  ⟨Frame.write _ _ _ _ _, write_calm _ _ _ _ _⟩

/-! ## What the inputs deliver -/

theorem reportOpening_wakes (n : DoorNo) (s : State) : Wakes s (reportOpening n s) :=
  (reportOpening_zone n s).wakes (zoneRel_calm.reportOpening n s)

/-- No pass is handed over where the doors hold none (R73). -/
theorem contactOpened_wakes (dawn : Dawn s) (n : DoorNo) : Wakes s (contactOpened n s) := by
  have none_handed : openingPasses s n = [] := by
    unfold openingPasses
    split
    · exact dawn.doors n
    · exact dawn.doors n
    · rfl
  unfold contactOpened
  rw [none_handed]
  exact ((openDoor_frame n s).toZoneFrame.wakes (openDoor_calm n s)).trans (reportOpening_wakes n _)

/-- An exit request leaves an empty list as it is (R125). -/
theorem rexReport_empty (dawn : Dawn s) (n : DoorNo) : rexReport n s = s := by
  unfold rexReport
  split
  · next z _ =>
    rw [dawn.lists z]
    rfl
  · rfl

theorem rexActivation_wakes (dawn : Dawn s) (n : DoorNo) : Wakes s (rexActivation n s) := by
  have served : Wakes s (write .rexExit n.val 0 .blank (release n .egress [] s)) :=
    ((release_frame n .egress [] s).toZoneFrame.wakes ((releaseLock_calm n .egress s).trans (serve_calm _))).trans
      (write_wakes _ _ _ _ _)
  unfold rexActivation
  split
  · split
    · rw [rexReport_empty (served.dawn dawn)]
      exact served
    · exact write_wakes _ _ _ _ _
  · split
    · exact .refl s
    · exact write_wakes _ _ _ _ _

theorem restartLone_idle (idle : s.loneTimer[z] = none) : restartLone z s = s := by
  unfold restartLone
  rw [idle]
  rfl

theorem staffActivation_wakes (dawn : Dawn s) (n : StaffNo) : Wakes s (staffActivation n s) := by
  have noted := write_wakes .staff n.val 0 (.staff s.store.staff[n].kind) s
  unfold staffActivation
  dsimp only
  split
  · split
    · rw [restartLone_idle ((noted.dawn dawn).lone _)]
      exact noted
    · exact noted
  · exact Wakes.trans ⟨Frame.edgeEvent (staff_mem n) s, edgeEvent_calm _ s⟩ (write_wakes _ _ _ _ _)

theorem deliverActivation_wakes (dawn : Dawn s) (i : InputNo) : Wakes s (deliverActivation i s) := by
  unfold deliverActivation
  split
  · exact contactOpened_wakes dawn _
  · exact (boltChange_frame _ _).toZoneFrame.wakes (boltChange_calm _ _)
  · exact rexActivation_wakes dawn _
  · exact (manualActivation_zone _ _).wakes (zoneRel_calm.manualActivation _ _)
  · exact (abortActivation_zone _ _).wakes (zoneRel_calm.abortActivation _ _)
  · exact staffActivation_wakes dawn _

/-! ## First readings (R8, R92) -/

theorem modInput_wakes (i : InputNo) (f : InputState → InputState) (s : State) : Wakes s (s.modInput i f) :=
  ⟨modInput_frame (by decide) i f s, calm_of_same rfl rfl rfl⟩

theorem setPhase_wakes (i : InputNo) (p : Phase) (s : State) : Wakes s (setPhase i p s) := modInput_wakes i _ s

theorem activate_wakes (dawn : Dawn s) (i : InputNo) : Wakes s (activate i s) :=
  (setPhase_wakes i _ s).trans (deliverActivation_wakes ((setPhase_wakes i _ s).dawn dawn) i)

theorem beginAttempt_wakes (dawn : Dawn s) (i : InputNo) : Wakes s (beginAttempt i s) := by
  unfold beginAttempt endDebounceOn enterValidate
  split
  · split
    · split
      · exact activate_wakes dawn i
      · exact setPhase_wakes i _ s
    · exact setPhase_wakes i _ s
  · exact setPhase_wakes i _ s

/-- An input that rests inactive can only begin an attempt. -/
theorem judgeRaw_idle (idle : s.inputs[i].phase = .idle) :
    judgeRaw i s = if rawActive s i then beginAttempt i s else s := by
  unfold judgeRaw
  rw [idle]
  cases rawActive s i <;> rfl

theorem trySettle_wakes (n : DoorNo) (s : State) : Wakes s (trySettle n s) := by
  refine (trySettle_zone n s).wakes ?_
  have settled : Calm s (serve (settleDoor n s)) := (settleDoor_calm n s).trans (serve_calm _)
  unfold trySettle
  split
  · dsimp only
    split
    · exact settled.trans (zoneRel_calm.reportOpening n _)
    · exact settled
  · exact .refl s

theorem noteFirst_wakes (i : InputNo) (s : State) : Wakes s (noteFirst i s) := by
  have noted : Wakes s (if Phase.atRest s.inputs[i].phase then s.modInput i fun v => { v with first := true } else s) := by
    split
    · exact modInput_wakes i _ s
    · exact .refl s
  unfold noteFirst
  dsimp only
  split
  · exact noted.trans (trySettle_wakes _ _)
  · exact noted

theorem firstReading_wakes (dawn : Dawn s) (idle : s.inputs[i].phase = .idle) : Wakes s (firstReading i s) := by
  have judged : Wakes s (judgeRaw i s) := by
    rw [judgeRaw_idle idle]
    split
    · exact beginAttempt_wakes dawn i
    · exact .refl s
  exact judged.trans (noteFirst_wakes i _)

/-- An input's first reading leaves the other inputs. -/
theorem firstReading_other {j : InputNo} (other : j ≠ i) (s : State) : (firstReading i s).inputs[j] = s.inputs[j] := by
  unfold firstReading
  rw [noteFirst_inputs, upd_other _ _ _ _ (Ne.symm other), judgeRaw_inputs, upd_other _ _ _ _ (Ne.symm other)]

theorem forEach_firstReading_wakes : ∀ (l : List InputNo) {s : State}, l.Nodup → Dawn s →
    (∀ i ∈ l, s.inputs[i].phase = .idle) → Wakes s (forEach l firstReading s)
  | [], s, _, _, _ => .refl s
  | i :: l, s, nodup, dawn, idle => by
    obtain ⟨absent, rest⟩ := List.nodup_cons.1 nodup
    have first := firstReading_wakes dawn (idle i List.mem_cons_self)
    rw [forEach_cons]
    refine first.trans (forEach_firstReading_wakes l rest (first.dawn dawn) fun j mem => ?_)
    have other : j ≠ i := fun same => absent (by rwa [← same])
    rw [firstReading_other other]
    exact idle j (List.mem_cons_of_mem _ mem)

theorem settleGate_calm (s : State) : Calm s (settleGate s) := by
  have gate {b : Bool} : Calm s { s with gateClosed := b } := calm_of_same rfl rfl rfl
  unfold settleGate
  split
  · exact .refl s
  · split
    · exact gate
    · exact gate.trans (serve_calm _)

theorem settleGate_wakes (s : State) : Wakes s (settleGate s) :=
  ⟨(settleGate_frame s).mono (by decide) doorSource_input, settleGate_calm s⟩

/-! ## The evaluation that comes before (R47, R107, R166) -/

/-- The part when its zones have been announced and evaluated, before the first readings. -/
def evaluated (straps : BitVec 5) (levels : BitVec 48) (s : State) : State :=
  clockCondition (forEach allZones evaluateZone (forEach allZones announceZone
    (write .powerOn 0 0 (if s.store.written then .stored else .erased) (coldStart straps levels s))))

theorem powerOn_eq (straps : BitVec 5) (levels : BitVec 48) (s : State) :
    powerOn straps levels s = forEach allInputs firstReading (evaluated straps levels s) := rfl

/-- An evaluation step: records, conditions, periods. -/
structure Evaluates (s t : State) : Prop where
  frame : Frame [.period] allSources s t
  calm : Calm s t
  doors : t.doors = s.doors
  store : t.store = s.store

theorem Evaluates.refl (s : State) : Evaluates s s := ⟨Frame.refl s, .refl s, rfl, rfl⟩
theorem Evaluates.trans (h1 : Evaluates s t) (h2 : Evaluates t u) : Evaluates s u :=
  ⟨h1.frame.trans h2.frame, h1.calm.trans h2.calm, h2.doors.trans h1.doors, h2.store.trans h1.store⟩

theorem mem_allSources (src : Source) : src ∈ allSources := List.mem_finRange src

theorem write_evaluates (k : RecordKind) (a b : Nat) (d : Detail) (s : State) : Evaluates s (write k a b d s) :=
  ⟨Frame.write _ _ _ _ _, write_calm _ _ _ _ _, (write_signals _ _ _ _ _).doors, (write_signals _ _ _ _ _).store⟩

theorem setCondition_evaluates (src : Source) (b : Bool) (s : State) : Evaluates s (setCondition src b s) :=
  ⟨Frame.setCondition (mem_allSources src) _ _, setCondition_calm _ _ _, (setCondition_signals _ _ _).doors,
    (setCondition_signals _ _ _).store⟩

theorem evaluateZone_evaluates (z : Zone) (s : State) : Evaluates s (evaluateZone z s) :=
  Evaluates.trans (t := s.setPeriod z (derivedPeriod s z))
    ⟨{ Frame.refl s with period := fun no => absurd List.mem_cons_self no }, calm_of_same rfl rfl rfl, rfl, rfl⟩
    ((setCondition_evaluates _ _ _).trans (setCondition_evaluates _ _ _))

theorem evaluated_evaluates (straps : BitVec 5) (levels : BitVec 48) (s : State) :
    Evaluates (coldStart straps levels s) (evaluated straps levels s) := by
  have announces (u : State) : Evaluates u (forEach allZones announceZone u) :=
    forEach_rel Evaluates.refl (fun _ _ _ => Evaluates.trans) _ _ u fun z _ v => write_evaluates _ _ _ _ v
  have evaluates (u : State) : Evaluates u (forEach allZones evaluateZone u) :=
    forEach_rel Evaluates.refl (fun _ _ _ => Evaluates.trans) _ _ u fun z _ v => evaluateZone_evaluates z v
  unfold evaluated clockCondition
  generalize coldStart straps levels s = c
  exact (((write_evaluates _ _ _ _ c).trans (announces _)).trans (evaluates _)).trans (setCondition_evaluates _ _ _)

theorem evaluateZone_period (z : Zone) (s : State) :
    (evaluateZone z s).period = upd s.period z fun _ => derivedPeriod s z :=
  ((setCondition_signals _ _ _).trans (setCondition_signals _ _ _)).period

theorem forEach_evaluateZone_other : ∀ (l : List Zone) {s : State}, z ∉ l →
    (forEach l evaluateZone s).period[z] = s.period[z]
  | [], _, _ => rfl
  | y :: l, s, absent => by
    obtain ⟨first, rest⟩ := not_or.1 (mt List.mem_cons.2 absent)
    rw [forEach_cons, forEach_evaluateZone_other l rest, evaluateZone_period, upd_other _ _ _ _ (Ne.symm first)]

/-- Each zone's period is derived, from settings and a clock that stay (R106, R107). -/
theorem forEach_evaluateZone_period : ∀ (l : List Zone) {s : State}, z ∈ l →
    (forEach l evaluateZone s).period[z] = derivedPeriod s z
  | [], _, mem => absurd mem List.not_mem_nil
  | y :: l, s, mem => by
    have step := evaluateZone_evaluates y s
    rw [forEach_cons]
    by_cases later : z ∈ l
    · rw [forEach_evaluateZone_period l later, derivedPeriod_congr step.store (step.frame.clock (by decide))]
    · rw [forEach_evaluateZone_other l later, evaluateZone_period, (List.mem_cons.1 mem).resolve_right later, upd_same]

/-- The periods read the stored settings and the clock. -/
theorem derivedPeriod_settings (same : SameSettings s.store t.store) (clock : t.clock = s.clock) (z : Zone) :
    derivedPeriod t z = derivedPeriod s z := by
  unfold derivedPeriod scheduleActive effectiveDay
  rw [same.modes, same.zones, same.schedules, same.holidays, clock]

theorem evaluated_period (straps : BitVec 5) (levels : BitVec 48) (s : State) (z : Zone) :
    (evaluated straps levels s).period[z] = derivedPeriod (coldStart straps levels s) z := by
  have announces (u : State) : Evaluates u (forEach allZones announceZone u) :=
    forEach_rel Evaluates.refl (fun _ _ _ => Evaluates.trans) _ _ u fun z _ v => write_evaluates _ _ _ _ v
  unfold evaluated clockCondition
  generalize coldStart straps levels s = c
  have before := (write_evaluates .powerOn 0 0 (if s.store.written then .stored else .erased) c).trans (announces _)
  have condition (src : Source) (b : Bool) (u : State) : (setCondition src b u).period[z] = u.period[z] := by
    rw [(setCondition_signals src b u).period]
  rw [condition, forEach_evaluateZone_period allZones (List.mem_finRange z),
    derivedPeriod_congr before.store (before.frame.clock (by decide))]

/-! ## The whole event -/

theorem coldStart_dawn (straps : BitVec 5) (levels : BitVec 48) (s : State) : Dawn (coldStart straps levels s) :=
  ⟨fun n => by rw [coldStart_door]; rfl, rfl, rfl⟩

theorem coldStart_idle (straps : BitVec 5) (levels : BitVec 48) (s : State) (i : InputNo) :
    (coldStart straps levels s).inputs[i] = ⟨wired levels i, .idle, false⟩ := Vector.getElem_ofFn _

theorem coldStart_settings (straps : BitVec 5) (levels : BitVec 48) (s : State) :
    SameSettings { (if s.store.written then s.store else Store.erased) with written := true }
      (coldStart straps levels s).store := by
  constructor <;> rfl

theorem Evaluates.dawn (h : Evaluates s t) (dawn : Dawn s) : Dawn t :=
  ⟨fun n => by rw [h.doors]; exact dawn.doors n, (h.frame.occupancy (by decide)).trans dawn.occupancy,
    (h.frame.loneTimer (by decide)).trans dawn.loneTimer⟩

theorem evaluated_dawn (straps : BitVec 5) (levels : BitVec 48) (s : State) : Dawn (evaluated straps levels s) :=
  (evaluated_evaluates straps levels s).dawn (coldStart_dawn straps levels s)

/-- What the first readings and the gate do. -/
theorem powerOn_wakes (straps : BitVec 5) (levels : BitVec 48) (s : State) :
    Wakes (evaluated straps levels s) (settleGate (powerOn straps levels s)) := by
  have idle (i : InputNo) : (evaluated straps levels s).inputs[i].phase = .idle := by
    rw [(evaluated_evaluates straps levels s).frame.inputs (by decide), coldStart_idle]
  rw [powerOn_eq]
  exact (forEach_firstReading_wakes allInputs (List.nodup_finRange 48) (evaluated_dawn straps levels s)
    fun i _ => idle i).trans (settleGate_wakes _)

/-- What POWER_ON leaves of the state it starts from. -/
structure StartedFrom (c t : State) : Prop where
  frame : Frame (.period :: WakingParts) allSources c t
  calm : Calm c t

theorem powerOn_startedFrom (straps : BitVec 5) (levels : BitVec 48) (s : State) :
    StartedFrom (coldStart straps levels s) (settleGate (powerOn straps levels s)) := by
  have evaluates := evaluated_evaluates straps levels s
  have wakes := powerOn_wakes straps levels s
  exact ⟨(evaluates.frame.mono (by decide) fun _ h => h).trans (wakes.frame.mono (by decide) fun src _ => mem_allSources src),
    evaluates.calm.trans wakes.calm⟩

theorem powerOn_period (straps : BitVec 5) (levels : BitVec 48) (s : State) (z : Zone) :
    (settleGate (powerOn straps levels s)).period[z] = derivedPeriod (settleGate (powerOn straps levels s)) z := by
  have started := (powerOn_startedFrom straps levels s).frame
  rw [(powerOn_wakes straps levels s).frame.period (by decide), evaluated_period]
  exact (derivedPeriod_settings (started.settings (by decide)) (started.clock (by decide)) z).symm

end

end Sys2Proof.Machine

namespace Sys2Proof.Proofs

open Sys2Proof.Machine

/-- Settles O4: what the event of POWER_ON sets going lies in the frame of the inputs, and without people, passes and firing
ends it leaves the lists, the lone timers, the circuit flags and the FREE flags as the start made them. -/
theorem powerOnStartsAfresh : Obligations.PowerOnStartsAfresh := by
  intro s straps levels
  have started := powerOn_startedFrom straps levels s
  have period := powerOn_period straps levels s
  have settings := coldStart_settings straps levels s
  refine ⟨_, rfl, ?_⟩
  generalize settleGate (powerOn straps levels s) = t at started period ⊢
  obtain ⟨frame, calm⟩ := started
  have kept := frame.settings (by decide)
  have link := frame.link (by decide)
  refine ⟨settings.trans kept, frame.clock (by decide), period, frame.channels (by decide), frame.detection (by decide),
    frame.occupancy (by decide), frame.custody (by decide), frame.readers (by decide), frame.loneTimer (by decide),
    frame.loneOutrun (by decide), frame.inService, ?_, calm.flags, frame.supply (by decide), ?_, ?_, ?_, ?_, ?_, ?_, ?_, ?_,
    fun n => ?_⟩
  · exact Bool.eq_false_iff.2 fun suppressed => Bool.false_ne_true (calm.driven suppressed)
  · rw [frame.periodic (by decide), kept.testInterval]
    rfl
  · rw [link]; rfl
  · rw [link]; rfl
  · rw [link]; rfl
  · rw [link]; rfl
  · rw [link]; rfl
  · rw [link]; rfl
  · rw [link]; rfl
  · rw [(calm.doors n).free, coldStart_door]
    rfl

end Sys2Proof.Proofs
end

section
/-! The messages of the release sequencer (R33, R34, R40, R41, R43). -/

namespace Sys2Proof.Machine

section
variable {s t u : State} {z : Zone} {st : ReleaseState} {k : Nat}

/-- A zone message that is served: what it does to the zone, and its reply. -/
theorem ZoneFrame.replied (h : ZoneFrame s u) (kind : Nat) (status : Status) (body : ReplyBody) :
    Frame (.link :: zoneParts) zoneSources s (reply kind status body u) :=
  (Frame.mono h (fun _ => List.mem_cons_of_mem _) fun _ hs => hs).trans (reply_frame List.mem_cons_self kind status body u)

theorem ZoneFrame.answered (h : ZoneFrame s u) (kind : Nat) (status : Status) (body : ReplyBody) :
    Replied (BitVec.ofNat 8 kind) status body s (reply kind status body u) :=
  replied_reply (h.link (by decide)) kind status body

/-- The same at the end of the command, once the gate follows. -/
theorem ZoneFrame.replied_settled (h : ZoneFrame s u) (kind : Nat) (status : Status) (body : ReplyBody) :
    Frame (.link :: .gate :: zoneParts) zoneSources s (settleGate (reply kind status body u)) :=
  Frame.reply_settled h (by decide) (by decide) (fun _ => doorSource_mem) kind status body

theorem ZoneFrame.answered_settled (h : ZoneFrame s u) (kind : Nat) (status : Status) (body : ReplyBody) :
    Replied (BitVec.ofNat 8 kind) status body s (settleGate (reply kind status body u)) :=
  Machine.replied_settled (h.link (by decide)) kind status body

/-- A zone that reached a state without a discharge has arrived there, whatever is replied. -/
theorem Reached.replied {s0 : State} (h : Reached s t z st k) (grounds : SameGrounds s0 s)
    (others : ∀ y : Zone, y ≠ z → s.release[y] = s0.release[y]) (unfired : st ≠ .discharge) (kind : Nat) (status : Status)
    (body : ReplyBody) : Arrived s0 (reply kind status body t) z st :=
  h.arrived grounds.zones (grounds.dischargeBank_eq z) others (reply_later kind status body t)
    (fun discharged => absurd discharged unfired) fun discharged => absurd discharged unfired

/-! ## ZONE_DISABLE and ZONE_ENABLE (R33, R34) -/

theorem impaired_ne_backlog (z : Zone) : Source.impaired z ≠ Source.backlog := by revert z; decide
theorem impaired_not_door (z : Zone) : Source.impaired z ∉ doorSources := by revert z; decide
theorem impaired_ne_occupant (y z : Zone) : Source.impaired y ≠ Source.occupant z := by revert y z; decide

/-- A disabled zone is impaired (R44). -/
theorem enterState_disabled_impaired (z : Zone) (s : State) :
    (enterState z .disabled s).alarm.condition[Source.impaired z] = true := by
  have written : ∀ u : State, u.release[z].state = .disabled → (reImpaired z u).alarm.condition[Source.impaired z] = true := by
    intro u disabled
    refine (setCondition_condition _ _ (impaired_ne_backlog z)).trans ?_
    unfold impaired
    rw [disabled]
    rfl
  refine ((egressMove_frame _ _).conditionSame _ (impaired_not_door z) (impaired_ne_backlog z)).trans ?_
  refine ((setCondition_affects _ _ _).conditionSame _ ?_ (impaired_ne_backlog z)).trans (written _ ?_)
  · rw [List.mem_singleton]
    exact impaired_ne_occupant z z
  · have entry : (write .zoneState (Zone.number z) 0 (.state .disabled) (entered z .disabled s)).release[z] =
        Release.entered .disabled s.release[z] := by
      rw [(write_signals _ _ _ _ _).release, entered_release, upd_same]
    exact congrArg Release.state entry

theorem enterState_stored (stored : ReleaseState.isStored st = true) (z : Zone) (d : Detail) (s : State) :
    (enterStateAs d z st s).store.records = upd s.store.records z fun r => { r with state := st } := by
  rw [(enterStateAs_later d z st s).store, entered_store_of_stored stored]

theorem enterStateAs_state (d : Detail) (z : Zone) (s : State) : (enterStateAs d z st s).release[z].state = st := by
  rw [(enterStateAs_later d z st s).release, entered_release, upd_same]
  rfl

theorem zoneDisable_takes (quiet : s.release[z].state = .normal ∨ s.release[z].state = .alerted) :
    zoneDisable (z.val + 1) s = reply 0x31 .ok .empty (enterState z .disabled s) := by
  unfold zoneDisable
  rw [zoneNumbered_val]
  exact if_pos quiet

theorem zoneDisable_refused (state : ¬ (s.release[z].state = .normal ∨ s.release[z].state = .alerted)) :
    zoneDisable (z.val + 1) s = reply 0x31 .state .empty s := by
  unfold zoneDisable
  rw [zoneNumbered_val]
  exact if_neg state

theorem zoneDisable_bad (bad : k = 0 ∨ 4 < k) : zoneDisable k s = reply 0x31 .param .empty s := by
  unfold zoneDisable
  rw [zoneNumbered_of_bad bad] <;> rfl

theorem zoneEnable_takes (disabled : s.release[z].state = .disabled) :
    zoneEnable (z.val + 1) s = reply 0x32 .ok .empty (enableZone z s) := by
  unfold zoneEnable
  rw [zoneNumbered_val]
  exact if_pos disabled

theorem zoneEnable_refused (state : s.release[z].state ≠ .disabled) :
    zoneEnable (z.val + 1) s = reply 0x32 .state .empty s := by
  unfold zoneEnable
  rw [zoneNumbered_val]
  exact if_neg state

theorem zoneEnable_bad (bad : k = 0 ∨ 4 < k) : zoneEnable k s = reply 0x32 .param .empty s := by
  unfold zoneEnable
  rw [zoneNumbered_of_bad bad] <;> rfl

theorem enableZone_zone (z : Zone) (s : State) : ZoneFrame s (enableZone z s) := by
  unfold enableZone
  split
  · exact enterState_zone z _ s
  · exact enterState_zone z _ s
  · exact beginCountdown_zone z _ s

/-- Where the held detection sends an enabled zone (R34). -/
theorem enableZone_state (long : s.store.zones[z].countdown ≠ 0) :
    (enableZone z s).release[z].state =
      (match s.detection[z] with
       | .quiet => .normal
       | .firstKnock => .alerted
       | .confirmed => if abortHeld s z then .abortHeld else .countdown) ∧
    (s.detection[z] = .confirmed → (enableZone z s).release[z].remaining = s.store.zones[z].countdown) := by
  have counts := beginCountdown_counting long z s
  unfold enableZone
  cases s.detection[z] with
  | quiet => exact ⟨enterStateAs_state _ z s, nofun⟩
  | firstKnock => exact ⟨enterStateAs_state _ z s, nofun⟩
  | confirmed => exact ⟨counts.1, fun _ => counts.2⟩

/-! ## VENT and RESERVE_RELEASE (R40, R41) -/

theorem firing_eq_false : firing s z = false ↔ s.release[z].firing = none := by
  unfold firing
  exact Option.isSome_eq_false_iff.trans Option.isNone_iff_eq_none

/-- VENT is taken in SOAK_DONE, and forced in SOAK (R41). -/
abbrev VentTakes (s : State) (z : Zone) (force : Bool) : Prop :=
  s.release[z].firing = none ∧ (s.release[z].state = .soakDone ∨ (s.release[z].state = .soak ∧ force = true))

theorem vent_takes {force : Bool} (takes : VentTakes s z force) :
    ∃ d, vent (z.val + 1) force s = reply 0x33 .ok .empty (enterStateAs d z .vent s) := by
  obtain ⟨still, takes⟩ := takes
  have entry : vent (z.val + 1) force s =
      if s.release[z].state = .soakDone then reply 0x33 .ok .empty (enterState z .vent s)
      else if s.release[z].state = .soak ∧ force = true then reply 0x33 .ok .empty (enterStateAs .ventForced z .vent s)
      else reply 0x33 .state .empty s := by
    unfold vent
    rw [zoneNumbered_val]
    dsimp only
    rw [firing_eq_false.2 still]
    rfl
  by_cases done : s.release[z].state = .soakDone
  · exact ⟨_, entry.trans (if_pos done)⟩
  · exact ⟨_, entry.trans ((if_neg done).trans (if_pos (takes.resolve_left done)))⟩

theorem vent_refused {force : Bool} (refused : ¬ VentTakes s z force) :
    vent (z.val + 1) force s = reply 0x33 .state .empty s := by
  unfold vent
  rw [zoneNumbered_val]
  dsimp only
  by_cases fires : firing s z = true
  · exact if_pos fires
  · have still := firing_eq_false.1 (Bool.eq_false_iff.2 fires)
    rw [if_neg fires, if_neg fun done => refused ⟨still, .inl done⟩, if_neg fun soak => refused ⟨still, .inr soak⟩]
    rfl

theorem vent_bad {force : Bool} (bad : k = 0 ∨ 4 < k) : vent k force s = reply 0x33 .param .empty s := by
  unfold vent
  rw [zoneNumbered_of_bad bad] <;> rfl

/-- RESERVE_RELEASE is taken in SOAK and SOAK_DONE while nothing fires and the reserve is available (R40). -/
abbrev ReserveTakes (s : State) (z : Zone) : Prop :=
  (s.release[z].state = .soak ∨ s.release[z].state = .soakDone) ∧ s.release[z].firing = none ∧
    bankAvailable s z .reserve = true

theorem reserveRelease_eq : reserveRelease (z.val + 1) s =
    if ReserveTakes s z then reply 0x34 .ok .empty (releaseReserve z s) else reply 0x34 .state .empty s := by
  unfold reserveRelease
  rw [zoneNumbered_val]
  simp only [firing_eq_false]
  rfl

theorem reserveRelease_bad (bad : k = 0 ∨ 4 < k) : reserveRelease k s = reply 0x34 .param .empty s := by
  unfold reserveRelease
  rw [zoneNumbered_of_bad bad] <;> rfl

/-- A change of the estimate alone. -/
theorem BankFired.modEstimate {b : Bank} (h : BankFired s t z b) (f : Estimate → Estimate) (u : State)
    (time : s.store.zones[z].firingTime = u.store.zones[z].firingTime) {t1 : State} (later : Later (t.modEstimate z f) t1) :
    Fired u (settleGate t1) z b := by
  have fired : BankFired { s with estimate := (t.modEstimate z f).estimate } (t.modEstimate z f) z b :=
    ⟨h.release, rfl, h.records, h.check, h.flags, h.run⟩
  exact (fired.later later).settled time

theorem releaseReserve_release (z : Zone) (s : State) : (releaseReserve z s).release = upd s.release z fun r =>
    { r with firing := some ⟨.reserve, s.store.zones[z].firingTime⟩ } :=
  (State.modEstimate_release _ _ _).trans (fireBank_fired z .reserve s).release

theorem releaseReserve_estimate (z : Zone) (s : State) : (releaseReserve z s).estimate = upd s.estimate z fun e =>
    { e with level := min 10000 (e.level + s.store.zones[z].reserveFraction) } :=
  (State.modEstimate_estimate _ _ _).trans (congrArg (fun v => upd v z _) (fireBank_fired z .reserve s).estimate)

end

end Sys2Proof.Machine

namespace Sys2Proof.Proofs

open Sys2Proof.Machine

/-- Settles O18: both messages are read off their cases. -/
theorem zoneDisableAndEnable : Obligations.ZoneDisableAndEnable := by
  intro s z inRange
  refine ⟨fun quiet => ?_, fun normal alerted => ?_, fun disabled => ?_, fun follows state => ?_, fun k bad => ⟨?_, fun follows => ?_⟩⟩
  · have zone := enterState_zone z .disabled s
    have reached := enterStateAs_reached (.state .disabled) z (st := .disabled) s ⟨nofun, nofun, nofun⟩
    refine ⟨_, congrArg Host.Outcome.next (zoneDisable_takes quiet), zone.replied _ _ _,
      reached.replied (.refl s) (fun _ _ => rfl) nofun _ _ _, ?_, enterState_disabled_impaired z s, zone.answered _ _ _⟩
    rw [reply_store]
    refine (congrArg (fun v => v[z].state) (enterState_stored (st := .disabled) rfl z _ s)).trans ?_
    exact congrArg ZoneRecord.state (upd_same _ _ _)
  · exact congrArg Host.Outcome.next (zoneDisable_refused (not_or.2 ⟨normal, alerted⟩))
  · have zone := enableZone_zone z s
    have long := countdown_of_inRange inRange z
    obtain ⟨state, remaining⟩ := enableZone_state (s := s) (z := z) (by omega)
    refine ⟨_, congrArg finish (zoneEnable_takes disabled), zone.replied_settled _ _ _, zone.answered_settled _ _ _, ?_,
      fun confirmed => ?_⟩
    · rw [(settleGate_later _).release]
      exact state
    · rw [(settleGate_later _).release]
      exact remaining confirmed
  · exact (congrArg finish (zoneEnable_refused state)).trans (finish_reply follows _ _ _)
  · exact congrArg Host.Outcome.next (zoneDisable_bad bad)
  · exact (congrArg finish (zoneEnable_bad bad)).trans (finish_reply follows _ _ _)

end Sys2Proof.Proofs
end

section
/-! ZONE_RESET (R17, R43), and the messages that vent a zone and fire its reserve (R40, R41). -/

namespace Sys2Proof.Machine

section
variable {s t u : State} {z : Zone} {k : Nat}

/-! ## The detector monitor's part (R17) -/

/-- The latch and the arming count of a channel of the zone cleared. -/
def clearLatch (z : Zone) (c : ChannelNo) (s : State) : State :=
  if s.store.detectors[c].zone = some z then s.modChannel c fun ch => { ch with latch := false, arming := 0 } else s

/-- The latches of the zone cleared, its detection derived from them. -/
def latchesCleared (z : Zone) (s : State) : State := (forEach allChannels (clearLatch z) s).setDetection z .quiet

theorem resetDetection_eq : resetDetection z s =
    setCondition (Source.firstKnock z) false (setCondition (Source.fire z) false (latchesCleared z s)) := rfl

/-- What ZONE_RESET tells the detector monitor. -/
abbrev ResetParts : List Part := [.channels, .detection]

theorem clearLatch_frame (z : Zone) (c : ChannelNo) (s : State) : Frame ResetParts detectionSources s (clearLatch z c s) := by
  unfold clearLatch
  split
  · exact modChannel_frame List.mem_cons_self c _ s
  · exact Frame.refl s

theorem clearLatch_store (z : Zone) (c : ChannelNo) (s : State) : (clearLatch z c s).store = s.store := by
  unfold clearLatch
  split <;> rfl

theorem clearLatches_frame (z : Zone) (s : State) :
    Frame ResetParts detectionSources s (forEach allChannels (clearLatch z) s) :=
  forEach_rel Frame.refl (fun _ _ _ => Frame.trans) _ _ s fun c _ u => clearLatch_frame z c u

theorem latchesCleared_frame (z : Zone) (s : State) : Frame ResetParts detectionSources s (latchesCleared z s) :=
  (clearLatches_frame z s).trans (setDetection_frame (by decide) z _ _)

theorem fire_detection (z : Zone) : Source.fire z ∈ detectionSources := rise_detection _ (fire_rise z)
theorem firstKnock_detection (z : Zone) : Source.firstKnock z ∈ detectionSources := rise_detection _ (firstKnock_rise z)

theorem resetDetection_frame (z : Zone) (s : State) : Frame ResetParts detectionSources s (resetDetection z s) :=
  ((latchesCleared_frame z s).trans (Frame.setCondition (fire_detection z) _ _)).trans
    (Frame.setCondition (firstKnock_detection z) _ _)

theorem resetDetection_signals (z : Zone) (s : State) : Signals (latchesCleared z s) (resetDetection z s) :=
  (setCondition_signals _ _ _).trans (setCondition_signals _ _ _)

/-- The same with the detectors' settings read beforehand. -/
def clearOwn (settings : Vector DetectorSettings 16) (z : Zone) (c : ChannelNo) (s : State) : State :=
  if settings[c].zone = some z then s.modChannel c fun ch => { ch with latch := false, arming := 0 } else s

theorem clearLatch_eq (c : ChannelNo) : clearLatch z c s = clearOwn s.store.detectors z c s := rfl

section
variable {settings : Vector DetectorSettings 16} {c d : ChannelNo}

theorem clearOwn_store : (clearOwn settings z c s).store = s.store := by
  unfold clearOwn
  split <;> rfl

theorem clearOwn_other (other : d ≠ c) : (clearOwn settings z d s).channels[c] = s.channels[c] := by
  unfold clearOwn
  split
  · exact upd_other _ _ _ _ other
  · rfl

theorem clearOwn_own : (clearOwn settings z c s).channels[c] =
    if settings[c].zone = some z then { s.channels[c] with latch := false, arming := 0 } else s.channels[c] := by
  unfold clearOwn
  by_cases own : settings[c].zone = some z
  · rw [if_pos own, if_pos own]
    exact upd_same _ _ _
  · rw [if_neg own, if_neg own]

end

/-- The zone's channels, and no others, lose latch and arming count. -/
theorem clearLatches_channels (z : Zone) (c : ChannelNo) (s : State) :
    (forEach allChannels (clearLatch z) s).channels[c] =
      if s.store.detectors[c].zone = some z then { s.channels[c] with latch := false, arming := 0 } else s.channels[c] := by
  have same : forEach allChannels (clearLatch z) s = forEach allChannels (clearOwn s.store.detectors z) s :=
    forEach_congr_of (P := fun u => u.store.detectors = s.store.detectors) (fun _ _ settings => by rw [clearLatch_eq, settings])
      (fun d u settings => by rw [clearOwn_store, settings]) _ rfl
  rw [same]
  have entry := forEach_entry (f := clearOwn s.store.detectors z) (get := fun u : State => u.channels[c]) (a := c)
    (g := fun ch => if s.store.detectors[c].zone = some z then { ch with latch := false, arming := 0 } else ch)
    (fun d u other => clearOwn_other other) (fun u => clearOwn_own)
    (fun ch => by
      by_cases own : s.store.detectors[c].zone = some z
      · simp only [if_pos own]
      · simp only [if_neg own]) allChannels s
  exact entry.trans (if_pos (List.mem_finRange c))

theorem resetDetection_channels (z : Zone) (c : ChannelNo) (s : State) : (resetDetection z s).channels[c] =
    if s.store.detectors[c].zone = some z then { s.channels[c] with latch := false, arming := 0 } else s.channels[c] := by
  rw [(resetDetection_signals z s).channels, latchesCleared, State.setDetection_channels]
  exact clearLatches_channels z c s

theorem resetDetection_detection (z : Zone) (s : State) :
    (resetDetection z s).detection = upd s.detection z fun _ => .quiet := by
  have kept : (forEach allChannels (clearLatch z) s).detection = s.detection :=
    forEach_keeps (P := fun u => u.detection = s.detection) _ _ _ (fun c _ u same => by
      unfold clearLatch
      split
      · exact same
      · exact same) rfl
  rw [(resetDetection_signals z s).detection, latchesCleared, State.setDetection_detection, kept]

theorem resetDetection_conditions (z : Zone) (s : State) :
    (resetDetection z s).alarm.condition[Source.fire z] = false ∧
    (resetDetection z s).alarm.condition[Source.firstKnock z] = false := by
  rw [resetDetection_eq]
  refine ⟨?_, setCondition_condition _ _ (firstKnock_ne_backlog z)⟩
  refine ((setCondition_affects _ _ _).conditionSame _ ?_ (fire_ne_backlog z)).trans
    (setCondition_condition _ _ (fire_ne_backlog z))
  rw [List.mem_singleton]
  exact fire_ne_firstKnock z z

theorem resetDetection_store (z : Zone) (s : State) : (resetDetection z s).store = s.store := by
  rw [(resetDetection_signals z s).store, latchesCleared, State.setDetection_store]
  exact forEach_keeps (P := fun u => u.store = s.store) _ _ _ (fun c _ u same => (clearLatch_store z c u).trans same) rfl

/-! ## The accepted reset (R43) -/

/-- The zone's manual mark, its remaining time and its bank-used flags cleared. -/
def wiped (z : Zone) (s : State) : State :=
  (s.modRelease z fun r => { r with manual := false, remaining := 0 }).modRecord z fun r =>
    { r with mainUsed := false, reserveUsed := false }

theorem resetZone_eq : resetZone z s =
    (resetDetection z (enterState z .normal (wiped z s))).modEstimate z fun _ => Estimate.absent := rfl

theorem zone_detection : ∀ src ∈ zoneSources, src ∈ detectionSources := fun _ h =>
  rise_detection _ (zone_rise h)

theorem enterState_wiped_zone (z : Zone) (s : State) : ZoneFrame s (enterState z .normal (wiped z s)) :=
  ((modRelease_zone z _ s).trans (modRecord_zone z _ _)).trans (enterState_zone z _ _)

theorem resetZone_frame (z : Zone) (s : State) : Frame (ResetParts ++ zoneParts) detectionSources s (resetZone z s) :=
  (((enterState_wiped_zone z s).mono (by decide) zone_detection).trans
    ((resetDetection_frame z _).mono (by decide) fun _ h => h)).trans
    ((modEstimate_zone z _ _).mono (by decide) zone_detection)

theorem resetZone_release : (resetZone z s).release = upd s.release z fun r =>
    { Release.entered .normal r with manual := false, remaining := 0 } := by
  have entry := (enterState_later z .normal (wiped z s)).release
  rw [entered_release] at entry
  rw [resetZone_eq, State.modEstimate_release, (resetDetection_frame z _).release (by decide), entry]
  exact upd_upd _ _ _ _

theorem resetZone_records : (resetZone z s).store.records[z] = ⟨.normal, false, false⟩ := by
  rw [resetZone_eq, State.modEstimate_store, resetDetection_store]
  refine (congrArg (fun v => v[z]) (enterState_stored (st := .normal) rfl z _ _)).trans ?_
  rw [upd_same]
  exact congrArg (fun r : ZoneRecord => { r with state := .normal }) (upd_same _ _ _)

theorem resetZone_estimate : (resetZone z s).estimate = upd s.estimate z fun _ => ⟨0, 0, false, false, none⟩ := by
  have entry := (enterState_later z .normal (wiped z s)).estimate
  rw [entered_estimate] at entry
  rw [resetZone_eq, State.modEstimate_estimate, (resetDetection_frame z _).estimate (by decide), entry]
  rfl

/-- The settings, channels and detection that a reset starts from are those of the state it is given in. -/
theorem enterState_wiped_settings (z : Zone) (s : State) :
    (enterState z .normal (wiped z s)).store.detectors = s.store.detectors :=
  ((enterState_wiped_zone z s).settings (by decide)).detectors

theorem resetZone_channels (c : ChannelNo) : (resetZone z s).channels[c] =
    if s.store.detectors[c].zone = some z then { s.channels[c] with latch := false, arming := 0 } else s.channels[c] := by
  have reset := resetDetection_channels z c (enterState z .normal (wiped z s))
  rw [enterState_wiped_settings, (enterState_wiped_zone z s).channels (by decide)] at reset
  rw [resetZone_eq, State.modEstimate_channels]
  exact reset

theorem resetZone_detection : (resetZone z s).detection = upd s.detection z fun _ => .quiet := by
  have reset := resetDetection_detection z (enterState z .normal (wiped z s))
  rw [(enterState_wiped_zone z s).detection (by decide)] at reset
  rw [resetZone_eq, State.modEstimate_detection]
  exact reset

theorem resetZone_conditions (z : Zone) (s : State) : (resetZone z s).alarm.condition[Source.fire z] = false ∧
    (resetZone z s).alarm.condition[Source.firstKnock z] = false := by
  rw [resetZone_eq, State.modEstimate_alarm]
  exact resetDetection_conditions z _

/-- A reset zone has arrived in NORMAL. -/
theorem resetZone_arrived (kind : Nat) (status : Status) (body : ReplyBody) :
    Arrived s (reply kind status body (resetZone z s)) z .normal := by
  have entry := (reply_release (resetZone z s) kind status body).trans resetZone_release
  refine ⟨?_, ?_, ?_, nofun, fun y apart => ?_⟩
  · rw [entry, upd_same]
    rfl
  · rw [entry, upd_same]
    rfl
  · rw [entry, upd_same]
    rfl
  · rw [entry, upd_other _ _ _ _ (Ne.symm apart)]

/-- ZONE_RESET is taken in ALERTED, ABORT_HELD and CLEARED (R43). -/
abbrev ResetTakes (s : State) (z : Zone) : Prop :=
  s.release[z].state = .alerted ∨ s.release[z].state = .abortHeld ∨ s.release[z].state = .cleared

theorem zoneReset_takes (takes : ResetTakes s z) : zoneReset (z.val + 1) s = reply 0x35 .ok .empty (resetZone z s) := by
  unfold zoneReset
  rw [zoneNumbered_val]
  obtain state | state | state := takes <;>
  · dsimp only
    rw [state] <;> rfl

theorem zoneReset_refused (refused : ¬ ResetTakes s z) : zoneReset (z.val + 1) s = reply 0x35 .state .empty s := by
  unfold zoneReset
  rw [zoneNumbered_val]
  dsimp only
  split
  · next state => exact absurd (.inl state) refused
  · next state => exact absurd (.inr (.inl state)) refused
  · next state => exact absurd (.inr (.inr state)) refused
  · rfl

theorem zoneReset_bad (bad : k = 0 ∨ 4 < k) : zoneReset k s = reply 0x35 .param .empty s := by
  unfold zoneReset
  rw [zoneNumbered_of_bad bad] <;> rfl

end

end Sys2Proof.Machine

namespace Sys2Proof.Proofs

open Sys2Proof.Machine

/-- Settles O19, message by message. -/
theorem zonesAreVentedAndReset : Obligations.ZonesAreVentedAndReset := by
  refine ⟨fun s z force => ⟨fun takes => ?_, fun refused => congrArg Host.Outcome.next (vent_refused refused),
      fun k bad => congrArg Host.Outcome.next (vent_bad bad)⟩,
    fun s z => ⟨fun takes => ?_, fun follows refused => ?_, fun k bad follows => ?_⟩,
    fun s z => ⟨fun takes => ?_, fun refused => congrArg Host.Outcome.next (zoneReset_refused refused),
      fun k bad => congrArg Host.Outcome.next (zoneReset_bad bad)⟩⟩
  · obtain ⟨d, vents⟩ := vent_takes takes
    have zone := enterStateAs_zone d z .vent s
    have reached := enterStateAs_reached d z (st := .vent) s ⟨nofun, nofun, nofun⟩
    have stored := enterState_stored (st := .vent) rfl z d s
    refine ⟨_, congrArg Host.Outcome.next vents, zone.replied _ _ _, reached.replied (.refl s) (fun _ _ => rfl) nofun _ _ _,
      ?_, reached.estimate, zone.answered _ _ _⟩
    rw [reply_store]
    exact (congrArg (fun v => v[z].state) stored).trans (congrArg ZoneRecord.state (upd_same _ _ _))
  · have zone := releaseReserve_zone z s
    have fired := fireBank_fired z .reserve s
    have later := settleGate_later (reply 0x34 .ok .empty (releaseReserve z s))
    refine ⟨_, congrArg finish (reserveRelease_eq.trans (if_pos takes)), zone.replied_settled _ _ _,
      fired.modEstimate _ s rfl (reply_later _ _ _ _), ?_, fun y apart => ?_, ?_, zone.answered_settled _ _ _⟩
    · rw [later.release, reply_release, releaseReserve_release, upd_same]
    · rw [later.release, reply_release, releaseReserve_release, upd_other _ _ _ _ (Ne.symm apart)]
    · rw [later.estimate, reply_estimate, releaseReserve_estimate]
  · exact (congrArg finish (reserveRelease_eq.trans (if_neg refused))).trans (finish_reply follows _ _ _)
  · exact (congrArg finish (reserveRelease_bad bad)).trans (finish_reply follows _ _ _)
  · have arrived := resetZone_arrived (s := s) (z := z) 0x35 .ok .empty
    have frame := resetZone_frame z s
    have conditions := resetZone_conditions z s
    have entry := (congrArg (fun v => v[z]) (resetZone_release (z := z) (s := s))).trans (upd_same _ _ _)
    have records := resetZone_records (z := z) (s := s)
    have estimate := resetZone_estimate (z := z) (s := s)
    have detection := resetZone_detection (z := z) (s := s)
    have channels := fun c => resetZone_channels (z := z) (s := s) c
    refine ⟨_, congrArg Host.Outcome.next (zoneReset_takes takes), ?_⟩
    generalize resetZone z s = u at arrived frame conditions entry records estimate detection channels ⊢
    exact ⟨(frame.mono (by decide) fun _ h => h).trans (reply_frame (by decide) _ _ _ _), arrived,
      congrArg Release.manual entry, congrArg Release.remaining entry, records, estimate, detection, channels,
      conditions.1, conditions.2, replied_reply (frame.link (by decide)) _ _ _⟩

end Sys2Proof.Proofs
end

section
/-! The agent estimator's step (R53 to R61). -/

namespace Sys2Proof.Machine

section
variable {s t u : State} {z y : Zone} {st : ReleaseState}

/-! ## The other zones -/

/-- The other zones stand as they did. -/
structure Elsewhere (z : Zone) (s t : State) : Prop where
  estimate : ∀ y : Zone, y ≠ z → t.estimate[y] = s.estimate[y]
  release : ∀ y : Zone, y ≠ z → t.release[y] = s.release[y]

theorem Elsewhere.refl (s : State) : Elsewhere z s s := ⟨fun _ _ => rfl, fun _ _ => rfl⟩

theorem Elsewhere.trans (h1 : Elsewhere z s t) (h2 : Elsewhere z t u) : Elsewhere z s u :=
  ⟨fun y apart => (h2.estimate y apart).trans (h1.estimate y apart),
    fun y apart => (h2.release y apart).trans (h1.release y apart)⟩

theorem Later.elsewhere (h : Later s t) : Elsewhere z s t :=
  ⟨fun y _ => by rw [h.estimate], fun y _ => by rw [h.release]⟩

theorem modEstimate_elsewhere (f : Estimate → Estimate) (s : State) : Elsewhere z s (s.modEstimate z f) :=
  ⟨fun _ apart => upd_other _ _ _ _ (Ne.symm apart), fun _ _ => rfl⟩

theorem enterState_elsewhere (st : ReleaseState) (s : State) : Elsewhere z s (enterState z st s) :=
  Elsewhere.trans (t := entered z st s) ⟨fun _ _ => by rw [entered_estimate], fun _ apart => by
    rw [entered_release, upd_other _ _ _ _ (Ne.symm apart)]⟩ (enterState_later z st s).elsewhere

theorem fireBank_elsewhere (b : Bank) (s : State) : Elsewhere z s (fireBank z b s) :=
  have fired := fireBank_fired z b s
  ⟨fun _ _ => by rw [fired.estimate], fun _ apart => by rw [fired.release, upd_other _ _ _ _ (Ne.symm apart)]⟩

/-! ## Steps 1 to 5 (R53) -/

theorem loss_eq (level constant : Nat) : loss level constant = stepLoss level constant := by
  unfold loss stepLoss divUp
  generalize level * constant = product
  exact congrArg (· / 65536) (by omega)

theorem reduce_eq (e : Estimate) (base door : Nat) :
    reduce e.level base door e.doorOpened = steppedLevel e base door := by
  unfold reduce steppedLevel
  dsimp only
  rw [loss_eq, loss_eq]

/-- The estimate after the losses of a step (R53). -/
abbrev levelAfter (s : State) (z : Zone) : Nat :=
  steppedLevel s.estimate[z]
    (if s.release[z].state = .vent then s.store.zones[z].ventConstant else s.store.zones[z].soakConstant)
    s.store.zones[z].doorConstant

theorem stepEstimate_entry (z : Zone) (s : State) : (stepEstimate z s).estimate[z] =
    ⟨levelAfter s z, min 65535 (s.estimate[z].steps + 1), zoneDoorOpen s z, s.estimate[z].soakLoss, some 10⟩ := by
  unfold levelAfter
  rw [← reduce_eq]
  exact upd_same _ _ _

theorem stepEstimate_elsewhere (s : State) : Elsewhere z s (stepEstimate z s) := modEstimate_elsewhere _ s

/-! ## The hold check (R56 to R58) -/

/-- The estimate is low before the minimum soak is over. -/
abbrev HoldFails (s : State) (z : Zone) : Prop :=
  s.estimate[z].level < s.store.zones[z].holdThreshold ∧ s.estimate[z].steps < s.store.zones[z].minimumSoak

/-- The reserve is fired by itself (R57). -/
abbrev ReserveAnswers (s : State) (z : Zone) : Prop :=
  bankAvailable s z .reserve = true ∧ s.store.zones[z].reserveAuto = true

theorem holdCheck_holds (holds : ¬ HoldFails s z) : holdCheck z s = s := if_neg holds

theorem holdCheck_fires (fails : HoldFails s z) (answers : ReserveAnswers s z) : holdCheck z s = releaseReserve z s :=
  (if_pos fails).trans (if_pos (Bool.and_eq_true_iff.2 answers))

theorem holdCheck_loses (fails : HoldFails s z) (unanswered : ¬ ReserveAnswers s z) : holdCheck z s = soakLoss z s :=
  (if_pos fails).trans (if_neg fun h => unanswered (Bool.and_eq_true_iff.1 h))

/-- The estimate marked lost, its source set. -/
def lossMarked (z : Zone) (s : State) : State :=
  edgeEvent (Source.soakLoss z) (s.modEstimate z fun e => { e with soakLoss := true })

theorem soakLoss_first (first : s.estimate[z].soakLoss = false) : soakLoss z s =
    write .soakLoss (Zone.number z) 0 (.reason (soakReason s z)) (lossMarked z s) := by
  unfold soakLoss
  exact if_neg (Bool.eq_false_iff.1 first)

theorem soakLoss_again (again : s.estimate[z].soakLoss = true) : soakLoss z s = s := if_pos again

theorem soakLoss_first_later (first : s.estimate[z].soakLoss = false) :
    Later (s.modEstimate z fun e => { e with soakLoss := true }) (soakLoss z s) := by
  rw [soakLoss_first first]
  exact (edgeEvent_later _ _).trans (write_later _ _ _ _ _)

theorem soakLoss_release (z : Zone) (s : State) : (soakLoss z s).release = s.release := by
  cases lost : s.estimate[z].soakLoss with
  | true => rw [soakLoss_again lost]
  | false => exact (soakLoss_first_later lost).release

theorem soakLoss_entry (z : Zone) (s : State) : (soakLoss z s).estimate[z] = { s.estimate[z] with soakLoss := true } := by
  cases lost : s.estimate[z].soakLoss with
  | true =>
    rw [soakLoss_again lost]
    exact congrArg (fun b => { s.estimate[z] with soakLoss := b }) lost
  | false =>
    rw [(soakLoss_first_later lost).estimate]
    exact upd_same _ _ _

theorem soakLoss_elsewhere (s : State) : Elsewhere z s (soakLoss z s) := by
  cases lost : s.estimate[z].soakLoss with
  | true =>
    rw [soakLoss_again lost]
    exact .refl s
  | false => exact (modEstimate_elsewhere _ s).trans (soakLoss_first_later lost).elsewhere

theorem soakLoss_ne_backlog (z : Zone) : Source.soakLoss z ≠ Source.backlog := by revert z; decide
theorem soakLoss_not_door (z : Zone) : Source.soakLoss z ∉ doorSources := by revert z; decide

theorem soakLoss_pending (first : s.estimate[z].soakLoss = false) :
    (soakLoss z s).alarm.pending[Source.soakLoss z] = true := by
  rw [soakLoss_first first]
  exact ((write_affects [] _ _ _ _ _).pendingSame _ List.not_mem_nil (soakLoss_ne_backlog z)).trans
    (setPending_pending true (.inl (soakLoss_ne_backlog z)))

theorem holdCheck_elsewhere (s : State) : Elsewhere z s (holdCheck z s) := by
  by_cases fails : HoldFails s z
  · by_cases answers : ReserveAnswers s z
    · rw [holdCheck_fires fails answers]
      exact (fireBank_elsewhere _ s).trans (modEstimate_elsewhere _ _)
    · rw [holdCheck_loses fails answers]
      exact soakLoss_elsewhere s
  · rw [holdCheck_holds fails]
    exact .refl s

/-! ## The minimum soak and the re-entry level (R59, R61) -/

theorem minimumSoak_elsewhere (s : State) : Elsewhere z s (minimumSoak z s) := by
  unfold minimumSoak
  split
  · exact enterState_elsewhere _ s
  · exact .refl s

theorem reentryCheck_elsewhere (s : State) : Elsewhere z s (reentryCheck z s) := by
  unfold reentryCheck
  split
  · exact (modEstimate_elsewhere _ s).trans (enterState_elsewhere _ _)
  · exact .refl s

theorem minimumSoak_short (short : s.estimate[z].steps ≠ s.store.zones[z].minimumSoak) : minimumSoak z s = s := if_neg short

/-- The minimum soak is over: the zone's state is all that changes. -/
theorem minimumSoak_entry (z : Zone) (s : State) : (minimumSoak z s).estimate = s.estimate ∧
    (minimumSoak z s).release[z].firing = s.release[z].firing ∧
    (minimumSoak z s).release[z].state =
      if s.estimate[z].steps = s.store.zones[z].minimumSoak then .soakDone else s.release[z].state := by
  unfold minimumSoak
  by_cases over_ : s.estimate[z].steps = s.store.zones[z].minimumSoak
  · have entry := enterState_later z .soakDone s
    rw [if_pos over_, if_pos over_, entry.release, entry.estimate, entered_release, entered_estimate, upd_same]
    exact ⟨rfl, rfl, rfl⟩
  · rw [if_neg over_, if_neg over_]
    exact ⟨rfl, rfl, rfl⟩

theorem reentryCheck_high (high : s.store.zones[z].reentryThreshold < s.estimate[z].level) : reentryCheck z s = s :=
  if_neg (by omega)

/-- The estimate has come down to the re-entry level: the estimator stops, the zone is CLEARED. -/
theorem reentryCheck_low (low : s.estimate[z].level ≤ s.store.zones[z].reentryThreshold) :
    (reentryCheck z s).estimate[z] = { s.estimate[z] with doorOpened := false, timer := none } ∧
    (reentryCheck z s).release[z].state = .cleared := by
  have entry := enterState_later z .cleared (s.modEstimate z fun e => { e with doorOpened := false, timer := none })
  have now : reentryCheck z s = enterState z .cleared (s.modEstimate z fun e => { e with doorOpened := false, timer := none }) :=
    if_pos low
  rw [now, entry.release, entry.estimate, entered_release, entered_estimate, upd_same]
  exact ⟨upd_same _ _ _, rfl⟩

/-! ## The step -/

section
variable (running : s.estimate[z].timer.isSome = true)
include running

theorem estimateStep_soak (soak : s.release[z].state = .soak) :
    estimateStep z s = minimumSoak z (holdCheck z (stepEstimate z s)) := by
  unfold estimateStep
  rw [if_pos running, soak]

theorem estimateStep_vent (vent : s.release[z].state = .vent) : estimateStep z s = reentryCheck z (stepEstimate z s) := by
  unfold estimateStep
  rw [if_pos running, vent]

theorem estimateStep_other (soak : s.release[z].state ≠ .soak) (vent : s.release[z].state ≠ .vent) :
    estimateStep z s = stepEstimate z s := by
  unfold estimateStep
  rw [if_pos running]
  dsimp only
  split
  · next h => exact absurd h soak
  · next h => exact absurd h vent
  · rfl

theorem estimateStep_elsewhere : Elsewhere z s (estimateStep z s) := by
  by_cases soak : s.release[z].state = .soak
  · rw [estimateStep_soak running soak]
    exact ((stepEstimate_elsewhere s).trans (holdCheck_elsewhere _)).trans (minimumSoak_elsewhere _)
  · by_cases vent : s.release[z].state = .vent
    · rw [estimateStep_vent running vent]
      exact (stepEstimate_elsewhere s).trans (reentryCheck_elsewhere _)
    · rw [estimateStep_other running soak vent]
      exact stepEstimate_elsewhere s

end

end

end Sys2Proof.Machine

namespace Sys2Proof.Proofs

open Sys2Proof.Machine

/-- Settles O17: the step's estimate decides which of the checks acts. -/
theorem estimateSteps : Obligations.EstimateSteps := by
  intro s z running v e level count low fires
  have later := settleGate_later (estimateStep z s)
  have frame := (estimateStep_zone z s).settled
  have elsewhere := (estimateStep_elsewhere running).trans (later.elsewhere (z := z))
  have entry : (stepEstimate z s).estimate[z] = ⟨level, count, zoneDoorOpen s z, e.soakLoss, some 10⟩ :=
    stepEstimate_entry z s
  refine ⟨_, rfl, frame, fun soak => ?_, fun done => ?_, fun vents => ?_,
    fun y apart => ⟨elsewhere.estimate y apart, elsewhere.release y apart⟩⟩
  · have step := estimateStep_soak running soak
    have fails : HoldFails (stepEstimate z s) z ↔ low := by
      unfold HoldFails
      rw [entry] <;> exact Iff.rfl
    obtain ⟨kept, still, state⟩ := minimumSoak_entry z (holdCheck z (stepEstimate z s))
    have settings := (((stepEstimate_zone z s).trans (holdCheck_zone z _)).settings (by decide)).zones
    rw [← step] at kept still
    rw [← step, settings] at state
    rw [later.estimate, later.release, kept, still, state]
    by_cases below : low
    · have short : count ≠ v.minimumSoak := Nat.ne_of_lt below.2
      by_cases answers : ReserveAnswers (stepEstimate z s) z
      · have fired : fires := ⟨below, answers⟩
        have acts := holdCheck_fires (fails.2 below) answers
        have added : (holdCheck z (stepEstimate z s)).estimate[z] =
            ⟨min 10000 (level + v.reserveFraction), count, zoneDoorOpen s z, e.soakLoss, some 10⟩ := by
          rw [acts, releaseReserve_estimate, upd_same, entry] <;> rfl
        refine ⟨?_, fun _ => ?_, fun h => absurd fired h, fun _ h => absurd fired h, ?_⟩
        · rw [added, if_pos fired, decide_eq_false fun h => h.2 fired, Bool.or_false]
        · rw [step, acts, minimumSoak_short] 
          · exact (fireBank_fired z .reserve (stepEstimate z s)).modEstimate _ s rfl (.refl _)
          · rw [← acts, added, settings]
            exact short
        · refine if_of_iff (by rw [added]) rfl ?_
          rw [acts, releaseReserve_release, upd_same]
          exact soak
      · have unfired : ¬ fires := fun h => answers h.2
        have acts := holdCheck_loses (fails.2 below) answers
        have lost : (holdCheck z (stepEstimate z s)).estimate[z] = ⟨level, count, zoneDoorOpen s z, true, some 10⟩ := by
          rw [acts, soakLoss_entry, entry]
        refine ⟨?_, fun h => absurd h unfired, fun _ => ?_, fun _ _ first => ?_, ?_⟩
        · rw [lost, if_neg unfired, decide_eq_true ⟨below, unfired⟩, Bool.or_true]
        · rw [acts, soakLoss_release]
          rfl
        · rw [(settleGate_frame _).pendingSame _ (soakLoss_not_door z) (soakLoss_ne_backlog z), step, minimumSoak_short, acts]
          · exact soakLoss_pending (by rw [entry]; exact first)
          · rw [lost, settings]
            exact short
        · refine if_of_iff (by rw [lost]) rfl ?_
          rw [acts, soakLoss_release]
          exact soak
    · have unfired : ¬ fires := fun h => below h.1
      have acts := holdCheck_holds fun h => below (fails.1 h)
      rw [acts, entry]
      refine ⟨?_, fun h => absurd h unfired, fun _ => rfl, fun h => absurd h below, ?_⟩
      · rw [if_neg unfired, decide_eq_false fun h => below h.1, Bool.or_false]
      · exact if_of_iff Iff.rfl rfl soak
  · have step := estimateStep_other running (by rw [done]; nofun) (by rw [done]; nofun)
    exact ⟨by rw [later.estimate, step, entry], by rw [later.release, step]; rfl⟩
  · have step := estimateStep_vent running vents
    refine ⟨fun down => ?_, fun up => ?_⟩
    · obtain ⟨stopped, cleared⟩ := reentryCheck_low (s := stepEstimate z s) (z := z) (by rw [entry]; exact down)
      rw [entry] at stopped
      exact ⟨by rw [later.estimate, step, stopped], by rw [later.release, step, cleared]⟩
    · have stays := reentryCheck_high (s := stepEstimate z s) (z := z) (by rw [entry]; exact up)
      exact ⟨by rw [later.estimate, step, stays, entry], by rw [later.release, step, stays]; rfl⟩

end Sys2Proof.Proofs
end

section
/-! The end of a firing (R37, R179). -/

namespace Sys2Proof.Machine

section
variable {s t u : State} {z : Zone} {b : Bank}

theorem currentSeen_iff {c : Fin 8} : currentSeen s c = true ↔ s.line.checks[c] = some true := decide_eq_true_iff

/-! ## The firing check ends (R179) -/

/-- The zone with its firing over, journalled where it failed; the line supervisor is still to be told. -/
def firingOver (z : Zone) (b : Bank) (s : State) : State :=
  if currentSeen s (bankRelease z b) then s.modRelease z fun r => { r with firing := none }
  else write .firingFailed (Zone.number z) 0 (.bank b) (s.modRelease z fun r => { r with firing := none })

theorem firingOver_later (z : Zone) (b : Bank) (s : State) :
    Later (s.modRelease z fun r => { r with firing := none }) (firingOver z b s) := by
  unfold firingOver
  split
  · exact .refl _
  · exact write_later _ _ _ _ _

/-- What the end of a firing leaves to the sequencer (R37). -/
structure FiringOver (z : Zone) (b : Bank) (s t : State) : Prop where
  release : t.release = upd s.release z fun r => { r with firing := none }
  estimate : t.estimate = s.estimate
  store : t.store = s.store
  inputs : t.inputs = s.inputs
  seen : s.line.checks[bankRelease z b] = some true → t.line.flags = s.line.flags
  failed : s.line.checks[bankRelease z b] ≠ some true →
    t.line.flags = upd s.line.flags (bankCircuit z b) fun v => { v with openFlag := true }

theorem changeFlags_signals (c : CircuitNo) (f : CircuitFlags → CircuitFlags) (s : State) :
    Signals (s.modLine fun l => { l with flags := upd l.flags c f }) (changeFlags c f s) :=
  changeFlags_induction (P := fun u => Signals (s.modLine fun l => { l with flags := upd l.flags c f }) u) f
    (setCondition_signals _ _ _) fun _ _ h => h.trans (setCondition_signals _ _ _)

theorem firingEnds_over (z : Zone) (b : Bank) (s : State) : FiringOver z b s (firingEnds z b s) := by
  have over_ := firingOver_later z b s
  have eq : firingEnds z b s = endFiring (bankRelease z b) (firingOver z b s) := rfl
  rw [eq]
  generalize firingOver z b s = u at over_ ⊢
  have noticed : currentSeen u (bankRelease z b) = true ↔ s.line.checks[bankRelease z b] = some true := by
    rw [currentSeen_iff, over_.checks]
    rfl
  unfold endFiring
  dsimp only
  by_cases seen : currentSeen u (bankRelease z b) = true
  · rw [if_pos seen]
    exact ⟨over_.release, over_.estimate, over_.store, over_.inputs, fun _ => over_.flags, fun h => absurd (noticed.1 seen) h⟩
  · rw [if_neg seen]
    have told := changeFlags_signals (releaseCircuit (bankRelease z b)) (fun f => { f with openFlag := true })
      (u.modLine fun l => { l with checks := upd l.checks (bankRelease z b) fun _ => none })
    refine ⟨told.release.trans over_.release, told.estimate.trans over_.estimate, told.store.trans over_.store,
      told.inputs.trans over_.inputs, fun h => absurd (noticed.2 h) seen, fun _ => told.flags.trans ?_⟩
    exact congrArg (fun v => upd v (bankCircuit z b) fun f => { f with openFlag := true }) over_.flags

theorem main_ne_reserve (z : Zone) : bankCircuit z .main ≠ bankCircuit z .reserve := by revert z; decide

section
variable (over_ : FiringOver z b s u)
include over_

theorem FiringOver.entry : u.release[z] = { s.release[z] with firing := none } := by
  rw [over_.release, upd_same]

theorem FiringOver.elsewhere : Elsewhere z s u :=
  ⟨fun _ _ => by rw [over_.estimate], fun _ apart => by rw [over_.release, upd_other _ _ _ _ (Ne.symm apart)]⟩

theorem FiringOver.zoneDoorOpen_eq : zoneDoorOpen u z = zoneDoorOpen s z := by
  unfold zoneDoorOpen zoneDoors inside contactOpen active
  rw [over_.inputs, over_.store]

/-- A failed main leaves the reserve as it was. -/
theorem FiringOver.reserve_eq (main : b = .main) : bankAvailable u z .reserve = bankAvailable s z .reserve := by
  subst main
  have flags : u.line.flags[bankCircuit z .reserve] = s.line.flags[bankCircuit z .reserve] := by
    by_cases seen : s.line.checks[bankRelease z .main] = some true
    · rw [over_.seen seen]
    · rw [over_.failed seen, upd_other _ _ _ _ (main_ne_reserve z)]
  unfold bankAvailable bankUsed bankFlagged circuitFlagged
  rw [flags, over_.store]

end

/-! ## SOAK (R37, R50) -/

theorem enterSoak_release (z : Zone) (s : State) : (enterSoak z s).release = upd s.release z (Release.entered .soak) :=
  (State.modEstimate_release _ _ _).trans ((enterState_later z .soak s).release.trans entered_release)

theorem enterSoak_estimate (z : Zone) (s : State) :
    (enterSoak z s).estimate = upd s.estimate z fun _ => ⟨10000, 0, zoneDoorOpen s z, false, some 10⟩ := by
  have entry := enterState_later z .soak s
  refine (State.modEstimate_estimate _ _ _).trans ?_
  rw [(enterState_grounds z .soak s).zoneDoorOpen_eq, entry.estimate, entered_estimate]

theorem enterSoak_records (z : Zone) (s : State) :
    (enterSoak z s).store.records = upd s.store.records z fun r => { r with state := .soak } :=
  (congrArg Store.records (State.modEstimate_store _ _ _)).trans (enterState_stored (st := .soak) rfl z _ s)

theorem enterSoak_flags (z : Zone) (s : State) : (enterSoak z s).line.flags = s.line.flags := by
  refine (congrArg (fun l => l.flags) (State.modEstimate_line _ _ _)).trans ?_
  rw [(enterState_later z .soak s).flags, entered_line]

theorem enterSoak_elsewhere (s : State) : Elsewhere z s (enterSoak z s) :=
  (enterState_elsewhere .soak s).trans (modEstimate_elsewhere _ _)

/-! ## What follows the firing (R37) -/

/-- The main bank failed in DISCHARGE and the reserve is there. -/
abbrev FiresAgain (s : State) (z : Zone) (b : Bank) : Prop :=
  s.release[z].state = .discharge ∧ b = .main ∧ s.line.checks[bankRelease z b] ≠ some true ∧
    bankAvailable s z .reserve = true

theorem expireFiring_eq {f : Firing} (fires : s.release[z].firing = some f) : expireFiring z s =
    afterFiring z f.bank (currentSeen s (bankRelease z f.bank)) (firingEnds z f.bank s) := by
  unfold expireFiring
  rw [fires]

section
variable (over_ : FiringOver z b s u)
include over_

theorem afterFiring_again (again : FiresAgain s z b) :
    afterFiring z b (currentSeen s (bankRelease z b)) u = fireBank z .reserve u := by
  obtain ⟨discharge, main, failed, reserve⟩ := again
  have state : u.release[z].state = .discharge := by rw [over_.entry]; exact discharge
  refine (if_pos state).trans (if_pos ⟨main, ?_, by rw [over_.reserve_eq main]; exact reserve⟩)
  exact Bool.eq_false_iff.2 fun seen => failed (currentSeen_iff.1 seen)

theorem afterFiring_soak (discharge : s.release[z].state = .discharge) (last : ¬ FiresAgain s z b) :
    afterFiring z b (currentSeen s (bankRelease z b)) u = enterSoak z u := by
  have state : u.release[z].state = .discharge := by rw [over_.entry]; exact discharge
  refine (if_pos state).trans (if_neg ?_)
  rintro ⟨main, failed, reserve⟩
  rw [over_.reserve_eq main] at reserve
  refine last ⟨discharge, main, fun seen => ?_, reserve⟩
  rw [currentSeen_iff.2 seen] at failed
  exact Bool.noConfusion failed

theorem afterFiring_done {seen : Bool} (other : s.release[z].state ≠ .discharge) : afterFiring z b seen u = u :=
  if_neg (by rw [over_.entry]; exact other)

end

/-- Whatever follows, it concerns this zone, and no flag. -/
theorem afterFiring_elsewhere (seen : Bool) : Elsewhere z u (afterFiring z b seen u) := by
  unfold afterFiring
  split
  · split
    · exact fireBank_elsewhere _ u
    · exact enterSoak_elsewhere u
  · exact .refl u

theorem afterFiring_flags (seen : Bool) : (afterFiring z b seen u).line.flags = u.line.flags := by
  unfold afterFiring
  split
  · split
    · exact (fireBank_fired z .reserve u).flags
    · exact enterSoak_flags z u
  · rfl

end

end Sys2Proof.Machine

namespace Sys2Proof.Proofs

open Sys2Proof.Machine

/-- Settles O16: the firing check decides what the sequencer does with a zone still in DISCHARGE. -/
theorem firingEnds : Obligations.FiringEnds := by
  intro s z f fires seen again
  have frame := (expireFiring_zone z s).settled
  have later := settleGate_later (expireFiring z s)
  have eq := expireFiring_eq fires
  have over_ := firingEnds_over z f.bank s
  rw [eq] at frame later
  have elsewhere := (over_.elsewhere.trans (afterFiring_elsewhere (b := f.bank)
    (currentSeen s (bankRelease z f.bank)))).trans (later.elsewhere (z := z))
  have flags := later.flags.trans (afterFiring_flags (z := z) (b := f.bank) (currentSeen s (bankRelease z f.bank)))
  refine ⟨_, congrArg finish eq, frame, fun y apart => ⟨elsewhere.release y apart, elsewhere.estimate y apart⟩,
    fun noticed => flags.trans (over_.seen noticed), fun failed => flags.trans (over_.failed failed), fun more => ?_,
    fun discharge last => ?_, fun other => ?_⟩
  · have fired := fireBank_fired z .reserve (Machine.firingEnds z f.bank s)
    rw [afterFiring_again over_ more] at later ⊢
    refine ⟨?_, fired.settled (by rw [over_.store])⟩
    rw [later.release, fired.release, upd_same, over_.entry]
    exact more.1
  · rw [afterFiring_soak over_ discharge last] at later ⊢
    rw [later.release, later.store, later.estimate, enterSoak_release, enterSoak_records, enterSoak_estimate, upd_same,
      upd_same, upd_same, over_.entry, over_.zoneDoorOpen_eq]
    exact ⟨rfl, rfl, rfl, rfl⟩
  · rw [afterFiring_done over_ other] at later ⊢
    rw [later.release, later.estimate, over_.entry, over_.estimate]
    exact ⟨rfl, rfl⟩

end Sys2Proof.Proofs
end

section
/-! The release stations (R22 to R24, R27). -/

namespace Sys2Proof.Machine

section
variable {s t u : State} {z : Zone} {i : InputNo} {st : ReleaseState} {k : Nat}

/-! ## A station's event -/

/-- What a station sets going, beside its own phase. -/
abbrev StationParts : List Part := [.inputs, .gate] ++ zoneParts

/-- The event of a station: the zone's part of it, between the station's new phase and its first value. -/
def stationEvent (i : InputNo) (p : Phase) (f : State → State) (s : State) : State := firstGiven i (f (setPhase i p s))

theorem expireValidation_manual (validate : s.inputs[manualInput z].phase = .validate) :
    expireValidation (manualInput z) s = stationEvent (manualInput z) .on (manualActivation z) s := by
  have delivered : deliverActivation (manualInput z) (setPhase (manualInput z) .on s) =
      manualActivation z (setPhase (manualInput z) .on s) := by
    unfold deliverActivation
    rw [inputRole_manual]
  rw [expireValidation_follow validate (by rw [inputMode, inputRole_manual]),
    noteFirst_rest (by rw [deliverActivation_phase]; rfl), waitingDoor, inputRole_manual, delivered]
  rfl

theorem expireValidation_abort (validate : s.inputs[abortInput z].phase = .validate) :
    expireValidation (abortInput z) s = stationEvent (abortInput z) .on (abortActivation z) s := by
  have delivered : deliverActivation (abortInput z) (setPhase (abortInput z) .on s) =
      abortActivation z (setPhase (abortInput z) .on s) := by
    unfold deliverActivation
    rw [inputRole_abort]
  rw [expireValidation_follow validate (by rw [inputMode, inputRole_abort]),
    noteFirst_rest (by rw [deliverActivation_phase]; rfl), waitingDoor, inputRole_abort, delivered]
  rfl

theorem expireDebounce_abort (releasing : s.inputs[abortInput z].phase = .debounceOff) :
    expireDebounce (abortInput z) s = stationEvent (abortInput z) .idle (abortRelease z) s := by
  have delivered : deliverRelease (abortInput z) (setPhase (abortInput z) .idle s) =
      abortRelease z (setPhase (abortInput z) .idle s) := by
    unfold deliverRelease
    rw [inputRole_abort]
  rw [expireDebounce_off releasing, noteFirst_rest (by rw [deliverRelease_phase]; rfl), waitingDoor, inputRole_abort,
    delivered]
  rfl

theorem stationEvent_frame {f : State → State} (p : Phase) (zone : ∀ u, ZoneFrame u (f u)) (s : State) :
    Frame StationParts zoneSources s (settleGate (stationEvent i p f s)) :=
  Frame.settleGate (((modInput_frame (by decide) i _ s).trans (Frame.mono (zone _) (by decide) fun _ h => h)).trans
    (firstGiven_frame (by decide) i _)) (by decide) fun _ => doorSource_mem

theorem stationEvent_release {f : State → State} {p : Phase} :
    (settleGate (stationEvent i p f s)).release = (f (setPhase i p s)).release :=
  (settleGate_later _).release

/-- A zone that the event sent to a state has arrived there. -/
theorem Reached.stationed {f : State → State} {p : Phase} (h : Reached u (f (setPhase i p s)) z st k)
    (store : u.store = s.store) (flags : u.line.flags = s.line.flags)
    (others : ∀ y : Zone, y ≠ z → u.release[y] = s.release[y]) :
    Arrived s (settleGate (stationEvent i p f s)) z st := by
  have given : Reached u (stationEvent i p f s) z st k := ⟨h.release, h.estimate, h.used, h.check, h.run, h.pending⟩
  refine given.arrived (by rw [store]) ?_ others (settleGate_later _) (fun _ => settleGate_discharge z _)
    (given.closes (.refl _))
  unfold dischargeBank bankAvailable bankUsed bankFlagged circuitFlagged
  rw [store, flags]

theorem abortHeld_setPhase {p : Phase} (other : i ≠ abortInput z) : abortHeld (setPhase i p s) z = abortHeld s z := by
  unfold abortHeld active setPhase
  rw [State.modInput_inputs, upd_other _ _ _ _ other]

theorem dischargeOutcome_setPhase {p : Phase} (other : i ≠ abortInput z) :
    dischargeOutcome (setPhase i p s) z = dischargeOutcome s z := by
  unfold dischargeOutcome
  rw [abortHeld_setPhase other]

theorem manual_ne_abort (y z : Zone) : manualInput y ≠ abortInput z := by revert y z; decide

/-! ## The manual release station (R24) -/

theorem setManual_entry : (setManual z s).release[z] = { s.release[z] with manual := true } := upd_same _ _ _

/-- A discharge on the manual station. -/
theorem goDischarge_manual (z : Zone) (s : State) :
    Reached (setManual z s) (goDischarge z (setManual z s)) z (dischargeOutcome s z) (dischargeRemaining s z) ∧
    (goDischarge z (setManual z s)).release[z].manual = true := by
  have reached := goDischarge_reached z (setManual z s)
  refine ⟨?_, ?_⟩
  · have remaining : dischargeRemaining (setManual z s) z = dischargeRemaining s z := by
      unfold dischargeRemaining
      rw [setManual_entry]
      rfl
    rwa [remaining] at reached
  · rw [reached.entry, setManual_entry]
    rfl

theorem beginCountdown_manual (some_ : k ≠ 0) : (beginCountdown z k s).release[z].manual = s.release[z].manual := by
  unfold beginCountdown
  by_cases held : abortHeld s z = true
  · rw [if_pos held, (enterAbortHeld_reached z k s).entry]
    rfl
  · rw [if_neg held, enterCountdown_release some_, upd_same]
    rfl

/-- The countdown shortened by the manual station. -/
def shortened (z : Zone) (s : State) : State :=
  (setManual z s).modRelease z fun r => { r with remaining := min s.release[z].remaining s.store.zones[z].manualDelay }

theorem shortened_release : (shortened z s).release = upd s.release z fun r =>
    { r with manual := true, remaining := min r.remaining s.store.zones[z].manualDelay } := by
  unfold shortened setManual
  rw [State.modRelease_release, State.modRelease_release, upd_upd]
  exact upd_congr rfl

theorem manualShorten_eq (z : Zone) (s : State) : manualShorten z s =
    if min s.release[z].remaining s.store.zones[z].manualDelay = 0 then endCountdown z (shortened z s)
    else shortened z s := rfl

/-- What the manual station does by the zone's state. -/
theorem manualActivation_quiet (quiet : s.release[z].state = .normal ∨ s.release[z].state = .alerted) :
    manualActivation z s = manualStart z s := by
  unfold manualActivation
  obtain state | state := quiet
  · rw [state]
  · rw [state]

theorem manualActivation_countdown (state : s.release[z].state = .countdown) :
    manualActivation z s = manualShorten z s := by
  unfold manualActivation
  rw [state]

theorem manualActivation_held (state : s.release[z].state = .abortHeld) : manualActivation z s = setManual z s := by
  unfold manualActivation
  rw [state]

theorem manualActivation_hold (hold : s.release[z].state = .doorHold ∨ s.release[z].state = .occupiedHold) :
    manualActivation z s = goDischarge z (setManual z s) := by
  unfold manualActivation
  obtain state | state := hold
  · rw [state]
  · rw [state]

theorem manualActivation_ignored (state : s.release[z].state = .disabled ∨
    ReleaseState.isFlooded s.release[z].state = true ∨ s.release[z].state = .cleared) :
    manualActivation z s = write .manualIgnored (z.val + 1) 0 (.state s.release[z].state) s := by
  unfold manualActivation
  cases entry : s.release[z].state <;> rw [entry] at state
  case normal | alerted | countdown | abortHeld | doorHold | occupiedHold =>
    exact absurd state (by decide)
  all_goals rfl

/-! ## The abort station (R27) -/

theorem abortActivation_other (countdown : s.release[z].state ≠ .countdown) (doorHold : s.release[z].state ≠ .doorHold)
    (hold : s.release[z].state ≠ .occupiedHold) : abortActivation z s = s := by
  unfold abortActivation
  split
  · next state => exact absurd state countdown
  · next state => exact absurd state doorHold
  · next state => exact absurd state hold
  · rfl

theorem abortActivation_countdown (state : s.release[z].state = .countdown) :
    abortActivation z s = enterAbortHeld z s.release[z].remaining s := by
  unfold abortActivation
  rw [state]

theorem abortActivation_hold (hold : s.release[z].state = .doorHold ∨ s.release[z].state = .occupiedHold) :
    abortActivation z s = enterAbortHeld z 0 s := by
  unfold abortActivation
  obtain state | state := hold
  · rw [state]
  · rw [state]

/-- Nothing is left to count only on the manual station's word (R27). -/
theorem resumedRemaining_zero (inRange : SettingsInRange s) (zero : resumedRemaining s z = 0) :
    s.release[z].manual = true := by
  have long := countdown_of_inRange inRange z
  refine Classical.byContradiction fun unmanned => ?_
  unfold resumedRemaining at zero
  dsimp only at zero
  rw [if_neg unmanned] at zero
  revert zero
  cases s.store.zones[z].abortMode
  · exact fun zero => by dsimp only at zero; omega
  · exact fun zero => by dsimp only at zero; omega

/-- The state that a countdown of `k` seconds comes to when no abort station holds it and none are left only on the manual
station's word. -/
theorem enterCountdown_entry (free : abortHeld s z = false) (manual : k = 0 → s.release[z].manual = true) :
    (enterCountdown z k s).release[z].remaining = k ∧
    (enterCountdown z k s).release[z].state = if k = 0 then .discharge else .countdown := by
  by_cases last : k = 0
  · subst last
    have entry := enterState_later z .countdown (s.modRelease z fun r => { r with remaining := 0 })
    have grounds := (modRelease_grounds z (fun r => { r with remaining := 0 }) s).trans (enterState_grounds z .countdown _)
    have now : enterCountdown z 0 s =
        endCountdown z (enterState z .countdown (s.modRelease z fun r => { r with remaining := 0 })) := by
      unfold enterCountdown
      exact if_pos rfl
    have release := entry.release
    rw [entered_release, State.modRelease_release, upd_upd] at release
    rw [now]
    generalize enterState z .countdown (s.modRelease z fun r => { r with remaining := 0 }) = u at grounds release ⊢
    have counted_ : u.release[z] = Release.entered .countdown { s.release[z] with remaining := 0 } := by
      rw [release, upd_same]
    have reached := endCountdown_reached z u
    rw [countdownRemaining_zero (by rw [counted_]; rfl)] at reached
    have outcome : countdownOutcome u z = .discharge := by
      refine (if_pos ?_).trans (if_neg ?_)
      · rw [counted_]
        exact manual rfl
      · rw [grounds.abortHeld_eq, free]
        nofun
    rw [reached.entry, outcome]
    exact ⟨rfl, rfl⟩
  · rw [enterCountdown_release last, upd_same, if_neg last]
    exact ⟨rfl, rfl⟩

theorem abortRelease_held (held : s.release[z].state = .abortHeld) :
    abortRelease z s = enterCountdown z (resumedRemaining s z) s := if_pos held

theorem abortRelease_other (other : s.release[z].state ≠ .abortHeld) : abortRelease z s = s := if_neg other

theorem abortHeld_released : abortHeld (setPhase (abortInput z) .idle s) z = false := by
  unfold abortHeld active
  rw [setPhase_phase]
  rfl

end

end Sys2Proof.Machine

namespace Sys2Proof.Proofs

open Sys2Proof.Machine

/-- The manual station's part of O15. -/
theorem manualStationActs (s : State) (z : Zone) (validate : s.inputs[manualInput z].phase = .validate) :
    let m := s.store.zones[z].manualDelay
    ∃ t, exec (.validationExpiry (manualInput z)) s = .next t ∧
      Frame ([.inputs, .gate] ++ zoneParts) zoneSources s t ∧
      (s.release[z].state = .normal ∨ s.release[z].state = .alerted → 0 < m →
        t.release[z].state = (if abortHeld s z then .abortHeld else .countdown) ∧ t.release[z].remaining = m ∧
        t.release[z].manual = true) ∧
      (s.release[z].state = .normal ∨ s.release[z].state = .alerted → m = 0 →
        Arrived s t z (dischargeOutcome s z) ∧ t.release[z].manual = true) ∧
      (s.release[z].state = .countdown → min s.release[z].remaining m = 0 →
        Arrived s t z (dischargeOutcome s z) ∧ t.release[z].manual = true) ∧
      (s.release[z].state = .countdown → 0 < min s.release[z].remaining m →
        t.release = upd s.release z fun r => { r with manual := true, remaining := min r.remaining m }) ∧
      (s.release[z].state = .abortHeld → t.release = upd s.release z fun r => { r with manual := true }) ∧
      (s.release[z].state = .doorHold ∨ s.release[z].state = .occupiedHold →
        Arrived s t z (dischargeOutcome s z) ∧ t.release[z].manual = true) ∧
      (s.release[z].state = .disabled ∨ ReleaseState.isFlooded s.release[z].state = true ∨
          s.release[z].state = .cleared → t.release = s.release ∧
        (GateFollows s →
          t = (write .manualIgnored (z.val + 1) 0 (.state s.release[z].state)
            (s.modInput (manualInput z) fun v => { v with phase := .on })).modInput (manualInput z)
              fun v => { v with first := true })) := by
  intro m
  have same := stationEvent_release (i := manualInput z) (f := manualActivation z) (p := .on) (s := s)
  have held := abortHeld_setPhase (s := s) (p := .on) (manual_ne_abort z z)
  have outcome := dischargeOutcome_setPhase (s := s) (p := .on) (manual_ne_abort z z)
  have event := expireValidation_manual validate
  have discharges : manualActivation z (setPhase (manualInput z) .on s) =
        goDischarge z (setManual z (setPhase (manualInput z) .on s)) →
      Arrived s (settleGate (stationEvent (manualInput z) .on (manualActivation z) s)) z (dischargeOutcome s z) ∧
      (settleGate (stationEvent (manualInput z) .on (manualActivation z) s)).release[z].manual = true := by
    intro eq
    obtain ⟨reached, manual⟩ := goDischarge_manual z (setPhase (manualInput z) .on s)
    rw [← eq] at reached manual
    rw [outcome] at reached
    exact ⟨reached.stationed rfl rfl (modRelease_others _), by rw [same]; exact manual⟩
  refine ⟨_, congrArg finish event, stationEvent_frame _ (manualActivation_zone z) s, fun quiet some_ => ?_,
    fun quiet none_ => ?_, fun countdown last => ?_, fun countdown more => ?_, fun state => ?_, fun hold => ?_,
    fun ignored => ?_⟩
  · have long : m ≠ 0 := by omega
    have eq : manualActivation z (setPhase (manualInput z) .on s) =
        beginCountdown z m (setManual z (setPhase (manualInput z) .on s)) :=
      (manualActivation_quiet (s := setPhase (manualInput z) .on s) quiet).trans (if_neg long)
    obtain ⟨state, remaining⟩ := beginCountdown_counting long z (setManual z (setPhase (manualInput z) .on s))
    rw [same, eq, state, remaining, beginCountdown_manual long, setManual_entry]
    exact ⟨congrArg (fun b : Bool => if b then ReleaseState.abortHeld else .countdown) held, rfl, rfl⟩
  · exact discharges ((manualActivation_quiet (s := setPhase (manualInput z) .on s) quiet).trans (if_pos none_))
  · have eq : manualActivation z (setPhase (manualInput z) .on s) =
        endCountdown z (shortened z (setPhase (manualInput z) .on s)) :=
      (manualActivation_countdown (s := setPhase (manualInput z) .on s) countdown).trans ((manualShorten_eq z _).trans (if_pos last))
    have entry : (shortened z (setPhase (manualInput z) .on s)).release[z].manual = true := by
      rw [shortened_release, upd_same]
    have reached := endCountdown_reached z (shortened z (setPhase (manualInput z) .on s))
    have decided : countdownOutcome (shortened z (setPhase (manualInput z) .on s)) z = dischargeOutcome s z :=
      (if_pos entry).trans outcome
    rw [← eq, decided] at reached
    refine ⟨reached.stationed rfl rfl fun y apart => ?_, ?_⟩
    · rw [shortened_release]
      exact upd_other _ _ _ _ (Ne.symm apart)
    · rw [same, reached.entry]
      exact entry
  · have eq : manualActivation z (setPhase (manualInput z) .on s) = shortened z (setPhase (manualInput z) .on s) :=
      (manualActivation_countdown (s := setPhase (manualInput z) .on s) countdown).trans ((manualShorten_eq z _).trans (if_neg (Nat.ne_of_gt more)))
    rw [same, eq, shortened_release]
    rfl
  · rw [same, manualActivation_held (s := setPhase (manualInput z) .on s) state]
    rfl
  · exact discharges (manualActivation_hold (s := setPhase (manualInput z) .on s) hold)
  · have eq := manualActivation_ignored (s := setPhase (manualInput z) .on s) ignored
    refine ⟨?_, fun follows => ?_⟩
    · rw [same, eq, (write_signals _ _ _ _ _).release]
      rfl
    · have written := write_signals .manualIgnored (z.val + 1) 0 (.state s.release[z].state) (setPhase (manualInput z) .on s)
      unfold stationEvent
      rw [eq]
      have kept : GateFollows (write .manualIgnored (z.val + 1) 0 (.state s.release[z].state) (setPhase (manualInput z) .on s)) :=
        GateFollows.of_signals (s := setPhase (manualInput z) .on s) follows written
      exact settleGate_of_follows kept

/-- Settles O15, station by station; each event is the zone's own between the station's new phase and its first value. -/
theorem stationsAct : Obligations.StationsAct := by
  refine ⟨manualStationActs, fun s z => ⟨fun validate => ?_, fun releasing inRange => ?_⟩⟩
  · have same := stationEvent_release (i := abortInput z) (f := abortActivation z) (p := .on) (s := s)
    refine ⟨_, congrArg finish (expireValidation_abort validate), stationEvent_frame _ (abortActivation_zone z) s,
      fun countdown => ?_, fun hold => ?_, fun countdown doorHold hold => ?_⟩
    · have reached := enterAbortHeld_reached z s.release[z].remaining (setPhase (abortInput z) .on s)
      have eq := abortActivation_countdown (s := setPhase (abortInput z) .on s) countdown
      rw [show enterAbortHeld z s.release[z].remaining (setPhase (abortInput z) .on s) = _ from eq.symm] at reached
      exact ⟨reached.stationed rfl rfl fun _ _ => rfl, by rw [same, reached.entry]; rfl⟩
    · have reached := enterAbortHeld_reached z 0 (setPhase (abortInput z) .on s)
      rw [← abortActivation_hold (s := setPhase (abortInput z) .on s) hold] at reached
      exact ⟨reached.stationed rfl rfl fun _ _ => rfl, by rw [same, reached.entry]; rfl⟩
    · rw [same, abortActivation_other (s := setPhase (abortInput z) .on s) countdown doorHold hold]
      rfl
  · intro first remaining
    have same := stationEvent_release (i := abortInput z) (f := abortRelease z) (p := .idle) (s := s)
    refine ⟨_, congrArg finish (expireDebounce_abort releasing), stationEvent_frame _ (abortRelease_zone z) s,
      fun held => ?_, fun other => ?_⟩
    · have left : resumedRemaining (setPhase (abortInput z) .idle s) z = remaining := rfl
      have counts := enterCountdown_entry (s := setPhase (abortInput z) .idle s) (z := z) (k := remaining)
        abortHeld_released fun zero => resumedRemaining_zero inRange zero
      rw [same, abortRelease_held (s := setPhase (abortInput z) .idle s) held, left]
      exact counts
    · rw [same, abortRelease_other (s := setPhase (abortInput z) .idle s) other]
      rfl

end Sys2Proof.Proofs
end

section
/-! The staff channels (R132, R133). -/

namespace Sys2Proof.Machine

section
variable {s : State} {n : StaffNo} {z : Zone}

/-- The validation of a staff channel delivers its activation; the input has then given its first value. -/
theorem expireValidation_staff (validate : s.inputs[staffInput n].phase = .validate) : expireValidation (staffInput n) s =
    firstGiven (staffInput n) (staffActivation n
      (setPhase (staffInput n) (settledPhase (StaffKind.mode s.store.staff[n].kind)) s)) := by
  have delivered (p : Phase) : deliverActivation (staffInput n) (setPhase (staffInput n) p s) =
      staffActivation n (setPhase (staffInput n) p s) := by
    unfold deliverActivation
    rw [Closed.inputRole_staff]
  have activates : activate (staffInput n) s = staffActivation n
      (setPhase (staffInput n) (settledPhase (StaffKind.mode s.store.staff[n].kind)) s) := by
    unfold activate
    rw [delivered, inputMode_staff]
    rfl
  have rest : Phase.atRest (activate (staffInput n) s).inputs[staffInput n].phase = true := by
    rw [activate_inputs, upd_same]
    cases inputMode s (staffInput n) <;> rfl
  have noted : noteFirst (staffInput n) (activate (staffInput n) s) = firstGiven (staffInput n) (activate (staffInput n) s) := by
    rw [noteFirst_rest rest, waitingDoor, Closed.inputRole_staff]
  unfold expireValidation
  rw [validate, ← activates]
  exact noted

theorem StaffKind.mode_latch {k : StaffKind} (alarm : k ≠ .checkIn) : StaffKind.mode k = .latch := by
  cases k
  case checkIn => exact absurd rfl alarm
  all_goals rfl

theorem staffActivation_alarm (alarm : s.store.staff[n].kind ≠ .checkIn) : staffActivation n s =
    write .staff n.val 0 (.staff s.store.staff[n].kind) (edgeEvent (Source.staff n) s) := by
  unfold staffActivation
  cases kind : s.store.staff[n].kind
  case checkIn => exact absurd kind alarm
  all_goals rfl

/-- The zone of a check-in has its lone timer started again, where it runs (R133). -/
theorem staffActivation_checkIn (kind : s.store.staff[n].kind = .checkIn) : staffActivation n s =
    match s.store.staff[n].zone with
    | some z => restartLone z (write .staff n.val 0 (.staff .checkIn) s)
    | none => write .staff n.val 0 (.staff .checkIn) s := by
  unfold staffActivation
  rw [kind] <;> rfl

theorem restartLone_runs (runs : s.loneTimer[z].isSome = true) :
    restartLone z s = (s.setLone z (some (60 * s.store.zones[z].loneTime))).setOutrun z true := by
  have restarted : restartLone z s = startLone z ((s.setLone z none).setOutrun z true) := by
    unfold restartLone stopLone
    rw [if_pos runs, if_pos runs]
  have timers : upd (upd s.loneTimer z fun _ => none) z (fun _ => some (60 * s.store.zones[z].loneTime)) =
      upd s.loneTimer z fun _ => some (60 * s.store.zones[z].loneTime) := upd_upd _ _ _ _
  exact restarted.trans (congrArg (fun v => { s with loneTimer := v, loneOutrun := upd s.loneOutrun z fun _ => true }) timers)

theorem staffActivation_parts (n : StaffNo) (s : State) :
    Frame [.lone] ((List.finRange 16).map Source.staff) s (staffActivation n s) := by
  have staff : Source.staff n ∈ (List.finRange 16).map Source.staff := List.mem_map_of_mem (List.mem_finRange n)
  by_cases kind : s.store.staff[n].kind = .checkIn
  · rw [staffActivation_checkIn kind]
    split
    · exact (Frame.write _ _ _ _ _).trans ((restartLone_parts _ _).mono (fun _ h => h) nofun)
    · exact Frame.write _ _ _ _ _
  · rw [staffActivation_alarm kind]
    exact (Frame.edgeEvent staff _).trans (Frame.write _ _ _ _ _)

/-- At the end of its validation a staff channel leaves the gate as it stood. -/
theorem validationExpiry_staff (follows : GateFollows s) (validate : s.inputs[staffInput n].phase = .validate) :
    exec (.validationExpiry (staffInput n)) s = .next (firstGiven (staffInput n) (staffActivation n
      (setPhase (staffInput n) (settledPhase (StaffKind.mode s.store.staff[n].kind)) s))) := by
  have frame : Frame [.inputs, .lone] ((List.finRange 16).map Source.staff) s (firstGiven (staffInput n)
      (staffActivation n (setPhase (staffInput n) (settledPhase (StaffKind.mode s.store.staff[n].kind)) s))) :=
    ((modInput_frame List.mem_cons_self _ _ s).trans ((staffActivation_parts n _).mono
      (fun _ => List.mem_cons_of_mem _) fun _ h => h)).trans (firstGiven_frame List.mem_cons_self _ _)
  exact (congrArg finish (expireValidation_staff validate)).trans
    (finish_of_follows (follows.of_frame frame (by decide) (by decide)))

end

end Sys2Proof.Machine

namespace Sys2Proof.Proofs

open Sys2Proof.Machine

/-- Settles O8: the activation by the channel's kind, and for a check-in by its zone's lone timer. -/
theorem staffActivationRaisesOrChecksIn : Obligations.StaffActivationRaisesOrChecksIn := by
  intro s n follows validate first
  have event := validationExpiry_staff follows validate
  refine ⟨fun alarm => ?_, fun checkIn => ?_⟩
  · rw [StaffKind.mode_latch alarm, staffActivation_alarm (s := setPhase (staffInput n) _ s) alarm] at event
    exact event
  · intro t
    have written : t.loneTimer = s.loneTimer := (write_signals _ _ _ _ _).loneTimer
    have settings : t.store = s.store := (write_signals _ _ _ _ _).store
    rw [checkIn, staffActivation_checkIn (s := setPhase (staffInput n) _ s) checkIn] at event
    change _ = Host.Outcome.next (first (match s.store.staff[n].zone with
      | some z => restartLone z t
      | none => t)) at event
    refine ⟨fun z zone runs => ?_, fun stands => ?_⟩
    · rw [zone] at event
      dsimp only at event
      rw [restartLone_runs (by rw [written]; exact runs), settings] at event
      exact ⟨event, congrArg Host.Outcome.next (expireLone_outrun (upd_same _ _ _))⟩
    · cases zone : s.store.staff[n].zone with
      | none => rwa [zone] at event
      | some z =>
        rw [zone] at event
        dsimp only at event
        rwa [restartLone_idle (by rw [written]; exact stands z zone)] at event

end Sys2Proof.Proofs
end

section
/-! The exit request (R78, R125). -/

namespace Sys2Proof.Machine

section
variable {s t u : State} {n : DoorNo} {z : Zone}

/-! ## The report of an exit request (R125) -/

/-- What a list that becomes uncertain sets going: no hold ends on it. -/
abbrev UncertainParts : List Part := [.occupancy, .lone]

/-- The sources of the watch unit. -/
abbrev watchSources : List Source := allZones.map Source.escort ++ allZones.map Source.occupant

theorem modOccupancy_frame (f : Occupancy → Occupancy) (s : State) :
    Frame UncertainParts watchSources s (s.modOccupancy z f) :=
  { Frame.refl s with occupancy := fun no => absurd List.mem_cons_self no }

theorem setCertain_false_frame (z : Zone) (s : State) : Frame UncertainParts watchSources s (setCertain z false s) := by
  unfold setCertain
  split
  · exact Frame.refl s
  · have uncertain : emptyCertain (s.modOccupancy z fun o => { o with certain := false }) z = false := by
      unfold emptyCertain
      rw [State.modOccupancy_occupancy, upd_same, Bool.and_false]
    have unreported : occupancyReport z (s.modOccupancy z fun o => { o with certain := false }) =
        s.modOccupancy z fun o => { o with certain := false } := if_neg fun h => by
      rw [uncertain] at h
      exact Bool.false_ne_true h.2
    unfold occupancyChanged
    rw [unreported]
    exact (modOccupancy_frame _ s).trans ((watchOccupancy_frame z _).mono (fun _ => List.mem_cons_of_mem _) fun _ h => h)

theorem rexReport_parts (n : DoorNo) (s : State) : Frame UncertainParts watchSources s (rexReport n s) := by
  unfold rexReport
  split
  · split
    · exact Frame.refl s
    · exact setCertain_false_frame _ s
  · exact Frame.refl s

theorem rexReport_occupancy (n : DoorNo) (s : State) (z : Zone) : (rexReport n s).occupancy[z] =
    if s.store.doors[n].inside = some z ∧ s.occupancy[z].list ≠ [] then { s.occupancy[z] with certain := false }
    else s.occupancy[z] := by
  have left : ∀ {y : Zone}, inside s n = some y → (s.occupancy[y].list = [] ∨ y ≠ z) →
      ¬ (s.store.doors[n].inside = some z ∧ s.occupancy[z].list ≠ []) := by
    rintro y within (empty | apart) ⟨same, listed_⟩
    · rw [inside, same] at within
      cases within
      exact listed_ empty
    · rw [inside, same] at within
      cases within
      exact apart rfl
  unfold rexReport
  split
  · next y within =>
    by_cases empty : s.occupancy[y].list.isEmpty = true
    · rw [if_pos empty, if_neg (left within (.inl (List.isEmpty_iff.1 empty)))]
    · rw [if_neg empty, setCertain_occupancy]
      by_cases here : y = z
      · subst here
        rw [upd_same, if_pos ⟨within, fun none_ => empty (List.isEmpty_iff.2 none_)⟩]
      · rw [upd_other _ _ _ _ here, if_neg (left within (.inr here))]
  · next without => rw [if_neg fun h => by rw [inside, h.1] at without; cases without]

/-! ## The exit request (R78) -/

theorem expireValidation_rex (validate : s.inputs[rexInput n].phase = .validate) :
    expireValidation (rexInput n) s = firstGiven (rexInput n) (rexActivation n (setPhase (rexInput n) .on s)) := by
  have delivered : deliverActivation (rexInput n) (setPhase (rexInput n) .on s) =
      rexActivation n (setPhase (rexInput n) .on s) := by
    unfold deliverActivation
    rw [inputRole_rex]
  rw [expireValidation_follow validate (by rw [inputMode, inputRole_rex]),
    noteFirst_rest (by rw [deliverActivation_phase]; rfl), waitingDoor, inputRole_rex, delivered]

theorem rexActivation_serves (takes : ClosedState s.doors[n].state) (allowed : interlockClear s n = true ∨ overridden s n = true) :
    rexActivation n s = rexReport n (write .rexExit n.val 0 .blank (serve (releaseLock n .egress s))) :=
  (if_pos (takesRequest_iff.2 takes)).trans (if_pos (Bool.or_eq_true_iff.2 allowed))

theorem rexActivation_locked (takes : ClosedState s.doors[n].state) (locked : interlockClear s n = false) (plain : overridden s n = false) :
    rexActivation n s = write .rexRefused n.val 0 (.refusal .interlock) s :=
  (if_pos (takesRequest_iff.2 takes)).trans (if_neg (by rw [locked, plain]; nofun))

theorem rexActivation_fault (fault : s.doors[n].state = .boltFault ∨ s.doors[n].state = .starting) :
    rexActivation n s = write .rexRefused n.val 0 (.refusal .doorFault) s := by
  unfold rexActivation takesRequest standsOpen
  obtain state | state := fault <;>
  · rw [state]
    rfl

theorem rexActivation_open
    (opened : s.doors[n].state = .opened ∨ s.doors[n].state = .held ∨ s.doors[n].state = .forced) :
    rexActivation n s = s := by
  unfold rexActivation takesRequest standsOpen
  obtain state | state | state := opened <;>
  · rw [state]
    rfl

/-- What an exit request leaves alone. -/
theorem rexActivation_parts (takes : ClosedState s.doors[n].state) (allowed : interlockClear s n = true ∨ overridden s n = true) :
    Frame (.doors :: UncertainParts) (doorSources ++ watchSources) s (rexActivation n s) := by
  rw [rexActivation_serves takes allowed]
  have moved : DoorFrame s (serve (releaseLock n .egress s)) := (releaseLock_frame n .egress s).trans (serve_frame _)
  exact ((moved.mono (by decide) fun _ h => List.mem_append_left _ h).trans (Frame.write _ _ _ _ _)).trans
    ((rexReport_parts n _).mono (fun _ => List.mem_cons_of_mem _) fun _ h => List.mem_append_right _ h)

/-- A refused or needless exit request leaves the gate alone. -/
theorem validationExpiry_rex (follows : GateFollows s) (validate : s.inputs[rexInput n].phase = .validate)
    (same : Signals (setPhase (rexInput n) .on s) (rexActivation n (setPhase (rexInput n) .on s))) :
    exec (.validationExpiry (rexInput n)) s =
      .next (firstGiven (rexInput n) (rexActivation n (setPhase (rexInput n) .on s))) :=
  (congrArg finish (expireValidation_rex validate)).trans (finish_of_follows
    (GateFollows.of_frame (parts := [.inputs]) (srcs := []) (GateFollows.of_signals (s := setPhase (rexInput n) .on s) follows same)
      (firstGiven_frame List.mem_cons_self _ _) (by decide) (by decide)))

theorem rex_ne_bolt (n m : DoorNo) : rexInput n ≠ boltInput m := by revert n m; decide

theorem boltThrown_setPhase_rex (p : Phase) (m : DoorNo) : boltThrown (setPhase (rexInput n) p s) m = boltThrown s m := by
  unfold boltThrown active setPhase
  rw [State.modInput_inputs, upd_other _ _ _ _ (rex_ne_bolt n m)]

theorem LetGo.of_rex {passes : List Pass} {p : Phase} (h : LetGo (setPhase (rexInput n) p s) t n passes) : LetGo s t n passes :=
  ⟨h.1, fun lock thrown => h.2 lock ((boltThrown_setPhase_rex p n).trans thrown)⟩

/-- A door that was let go stays so where doors and bolt drive stand. -/
theorem LetGo.of_doors {passes : List Pass} (h : LetGo s t n passes) (doors : u.doors = t.doors) (queue : u.queue = t.queue)
    (motions : u.motions = t.motions) : LetGo s u n passes := by
  unfold LetGo Coming boltMotor at h ⊢
  rwa [doors, queue, motions]

end

end Sys2Proof.Machine

namespace Sys2Proof.Proofs

open Sys2Proof.Machine

/-- Settles O24, by the door's state when the request comes. -/
theorem exitRequestReleasesTheDoor : Obligations.ExitRequestReleasesTheDoor := by
  intro s n follows validate served quiet
  refine ⟨fun takes allowed => ?_, fun takes locked plain => ?_, fun fault => ?_, fun opened => ?_⟩
  · have parts := rexActivation_parts (s := setPhase (rexInput n) .on s) takes allowed
    have serves := rexActivation_serves (s := setPhase (rexInput n) .on s) takes allowed
    have event := expireValidation_rex validate
    have frame : Frame (.inputs :: .doors :: UncertainParts) (doorSources ++ watchSources) s (expireValidation (rexInput n) s) := by
      rw [event]
      exact ((modInput_frame List.mem_cons_self _ _ s).trans (parts.mono (fun _ => List.mem_cons_of_mem _) fun _ h => h)).trans
        (firstGiven_frame List.mem_cons_self _ _)
    refine ⟨_, finish_of_follows (follows.of_frame frame (by decide) (by decide)), expireValidation_frame _ s,
      frame.release (by decide), fun z => ?_, fun secured unmarked plain => ?_⟩
    · have moved : DoorFrame (setPhase (rexInput n) .on s) (serve (releaseLock n .egress (setPhase (rexInput n) .on s))) :=
        (releaseLock_frame n .egress _).trans (serve_frame _)
      have written := write_signals .rexExit n.val 0 .blank (serve (releaseLock n .egress (setPhase (rexInput n) .on s)))
      have occupancy := written.occupancy.trans (moved.occupancy (by decide))
      have store := written.store.trans moved.store_eq
      have report := rexReport_occupancy n (write .rexExit n.val 0 .blank
        (serve (releaseLock n .egress (setPhase (rexInput n) .on s)))) z
      rw [← serves, occupancy, store] at report
      rw [event]
      exact report
    · have letGo := releaseLock_letGo (s := setPhase (rexInput n) .on s) (cls := .egress) secured unmarked plain
      have written := write_signals .rexExit n.val 0 .blank (serve (releaseLock n .egress (setPhase (rexInput n) .on s)))
      have reported := rexReport_parts n (write .rexExit n.val 0 .blank
        (serve (releaseLock n .egress (setPhase (rexInput n) .on s))))
      rw [← serves] at reported
      rw [event]
      exact letGo.of_rex.of_doors ((reported.doors (by decide)).trans written.doors)
        ((reported.queue (by decide)).trans written.queue) ((reported.motions (by decide)).trans written.motions)
  · have refuses := rexActivation_locked (s := setPhase (rexInput n) .on s) takes locked plain
    refine (validationExpiry_rex follows validate ?_).trans (congrArg (fun u => Host.Outcome.next (firstGiven (rexInput n) u)) refuses)
    rw [refuses]
    exact write_signals _ _ _ _ _
  · have refuses := rexActivation_fault (s := setPhase (rexInput n) .on s) fault
    refine (validationExpiry_rex follows validate ?_).trans (congrArg (fun u => Host.Outcome.next (firstGiven (rexInput n) u)) refuses)
    rw [refuses]
    exact write_signals _ _ _ _ _
  · have stays := rexActivation_open (s := setPhase (rexInput n) .on s) opened
    refine (validationExpiry_rex follows validate ?_).trans (congrArg (fun u => Host.Outcome.next (firstGiven (rexInput n) u)) stays)
    rw [stays]
    exact Signals.refl _

end Sys2Proof.Proofs
end

section
/-! Door contacts (R73, R74, R28, R54): what an opening and a closing leave of the door, its passes' zones and the gate. -/

namespace Sys2Proof.Machine

section
variable {s t u : State} {n m : DoorNo} {z y : Zone}

/-! ## The gate where no firing ends (R38) -/

/-- The gate closes on a new firing and nothing is served: no firing has ended. -/
theorem settleGate_grown (follows : GateFollows s) (gate : t.gateClosed = s.gateClosed)
    (grown : ∀ y : Zone, firing s y = true → firing t y = true) : settleGate t = { t with gateClosed := anyFiring t } := by
  unfold settleGate
  by_cases stands : t.gateClosed = anyFiring t
  · rw [if_pos stands, ← stands]
  · rw [if_neg stands]
    have fires : anyFiring t = true := by
      refine Bool.of_not_eq_false fun still => stands ?_
      rw [still, gate, follows]
      refine Bool.eq_false_iff.2 fun fires => Bool.eq_false_iff.1 still ?_
      obtain ⟨y, fires⟩ := anyFiring_iff.1 fires
      exact anyFiring_iff.2 ⟨y, grown y fires⟩
    rw [if_pos fires, fires]

/-! ## The passes of an opening, and the zones (R32) -/

/-- No firing has ended, and a zone that did not hold for its occupants stands as it did. -/
structure HoldsOnly (s t : State) : Prop where
  firing : ∀ y : Zone, firing s y = true → firing t y = true
  others : ∀ y : Zone, s.release[y].state ≠ .occupiedHold → t.release[y] = s.release[y]

theorem HoldsOnly.of_release (h : t.release = s.release) : HoldsOnly s t :=
  ⟨fun y fires => by unfold Machine.firing at fires ⊢; rwa [h], fun y _ => by rw [h]⟩

theorem HoldsOnly.trans (h1 : HoldsOnly s t) (h2 : HoldsOnly t u) : HoldsOnly s u :=
  ⟨fun y fires => h2.firing y (h1.firing y fires), fun y other => by
    rw [h2.others y (by rwa [h1.others y other]), h1.others y other]⟩

theorem Reached.firing_grown {st : ReleaseState} {k : Nat} (h : Reached s t z st k) (y : Zone) (fires : firing s y = true) :
    firing t y = true := by
  unfold firing at fires ⊢
  by_cases here : y = z
  · subst here
    rw [h.entry]
    unfold Release.arrived
    dsimp only
    split
    · rfl
    · exact fires
  · rwa [h.other y here]

theorem occupancyReport_holdsOnly (z : Zone) (s : State) : HoldsOnly s (occupancyReport z s) := by
  by_cases ends : HoldEnds s z
  · have reached := occupancyReport_ends ends
    refine ⟨reached.firing_grown, fun y other => reached.other y fun here => other ?_⟩
    rw [here]
    exact ends.1
  · rw [show occupancyReport z s = s from if_neg ends]
    exact .of_release rfl

theorem listRel_holdsOnly : ListRel HoldsOnly where
  refl _ := .of_release rfl
  trans _ _ _ := .trans
  write _ _ _ _ _ := .of_release (write_signals _ _ _ _ _).release
  relist z f s :=
    ((HoldsOnly.of_release rfl : HoldsOnly s (s.modOccupancy z f)).trans (occupancyReport_holdsOnly z _)).trans
      (.of_release (watchOccupancy_later z _).release)

/-! ## An opening (R73) -/

theorem reportOpening_parts (n : DoorNo) (s : State) : Frame [.estimate] [] s (reportOpening n s) := by
  unfold reportOpening noteOpening
  split
  · split
    · exact { Frame.refl s with estimate := fun no => absurd List.mem_cons_self no }
    · exact Frame.refl s
  · exact Frame.refl s

/-- An opening is told to the estimate of a zone that steps (R54). -/
theorem reportOpening_tells (within : s.store.doors[n].inside = some z)
    (steps : s.release[z].state = .soak ∨ s.release[z].state = .soakDone ∨ s.release[z].state = .vent) :
    (reportOpening n s).estimate[z].doorOpened = true := by
  have stepping : ReleaseState.isStepping s.release[z].state = true := by
    obtain state | state | state := steps <;>
    · rw [state]
      rfl
  unfold reportOpening inside noteOpening
  rw [within]
  refine (congrArg (fun u : State => u.estimate[z].doorOpened) (if_pos stepping)).trans ?_
  exact congrArg Estimate.doorOpened (upd_same _ _ _)

/-- What an opening leaves beside the door's own part of it. -/
theorem contactOpened_parts (n : DoorNo) (s : State) :
    Frame (.estimate :: RoomParts) roomSources (openDoor n s) (contactOpened n s) :=
  ((listRel_room.applyPasses n (openingPasses s n) (openDoor n s)).mono (fun _ => List.mem_cons_of_mem _) fun _ h => h).trans
    ((reportOpening_parts n _).mono (by decide) nofun)

theorem contactOpened_holdsOnly (n : DoorNo) (s : State) : HoldsOnly s (contactOpened n s) :=
  ((HoldsOnly.of_release ((openDoor_frame n s).release (by decide))).trans
    (listRel_holdsOnly.applyPasses n (openingPasses s n) (openDoor n s))).trans
    (.of_release ((reportOpening_parts n _).release (by decide)))

theorem contactOpened_tells (within : s.store.doors[n].inside = some z)
    (steps : s.release[z].state = .soak ∨ s.release[z].state = .soakDone ∨ s.release[z].state = .vent) :
    (contactOpened n s).estimate[z].doorOpened = true := by
  have applied := listRel_room.applyPasses n (openingPasses s n) (openDoor n s)
  have holds := (HoldsOnly.of_release ((openDoor_frame n s).release (by decide))).trans
    (listRel_holdsOnly.applyPasses n (openingPasses s n) (openDoor n s))
  have state := holds.others z (by obtain state | state | state := steps <;> rw [state] <;> nofun)
  refine reportOpening_tells ?_ (by rwa [state])
  rw [(applied.settings (by decide)).doors, (openDoor_frame n s).store_eq]
  exact within

theorem enterOpen_door : (enterOpen n s).doors[n] = { s.doors[n] with
    state := .opened
    window := none
    heldTimer := if overridden s n then s.doors[n].heldTimer else some s.store.doors[n].heldTime } := by
  rw [enterOpen_eq, modDoor_door]

theorem enterOpen_drive : (enterOpen n s).queue = s.queue ∧ (enterOpen n s).motions = s.motions := by
  rw [enterOpen_eq]
  exact ⟨rfl, rfl⟩

/-- A door that was let go opens: its passes are handed over. -/
theorem openDoor_letGo (state : s.doors[n].state = .releasing ∨ s.doors[n].state = .released) :
    openDoor n s = enterOpen n (s.modDoor n fun d => { d with passes := [] }) := by
  unfold openDoor
  obtain state | state := state <;>
  · rw [state]

theorem openDoor_secured (state : s.doors[n].state = .secured) : openDoor n s =
    write .forced n.val 0 .blank (edgeEvent (Source.forced n) (setDoorState n .forced s)) := by
  unfold openDoor
  rw [state]

theorem openDoor_securing (state : s.doors[n].state = .securing) : openDoor n s = enterOpen n (removeThrow n s) := by
  unfold openDoor
  rw [state]

theorem openDoor_open (state : s.doors[n].state = .opened ∨ s.doors[n].state = .held ∨ s.doors[n].state = .forced ∨
    s.doors[n].state = .boltFault) : openDoor n s = s := by
  unfold openDoor
  obtain state | state | state | state := state <;>
  · rw [state]

theorem removeThrow_queue : ((removeThrow n s).queue[n].map BoltRequest.motion) ≠ some .throw := by
  unfold removeThrow
  by_cases throws : s.queue[n].map BoltRequest.motion = some .throw
  · have emptied : (s.setQueue n none).queue[n] = none := upd_same _ _ _
    rw [if_pos throws, emptied]
    nofun
  · rw [if_neg throws]
    exact throws

theorem openDoor_started (started : s.doors[n].state ≠ .starting) : (openDoor n s).doors[n].state ≠ .starting := by
  cases state : s.doors[n].state
  case starting => exact absurd state started
  case releasing =>
    rw [openDoor_letGo (.inl state), enterOpen_door]
    nofun
  case released =>
    rw [openDoor_letGo (.inr state), enterOpen_door]
    nofun
  case secured =>
    rw [openDoor_secured state, (write_signals _ _ _ _ _).door, (edgeEvent_signals _ _).door, setDoorState_door]
    nofun
  case securing =>
    rw [openDoor_securing state, enterOpen_door]
    nofun
  case opened =>
    rw [openDoor_open (.inl state), state]
    nofun
  case held =>
    rw [openDoor_open (.inr (.inl state)), state]
    nofun
  case forced =>
    rw [openDoor_open (.inr (.inr (.inl state))), state]
    nofun
  case boltFault =>
    rw [openDoor_open (.inr (.inr (.inr state))), state]
    nofun

theorem forced_ne_backlog (n : DoorNo) : Source.forced n ≠ Source.backlog := by revert n; decide

theorem openDoor_forced (state : s.doors[n].state = .secured) :
    (openDoor n s).doors[n] = { s.doors[n] with state := .forced } ∧
    (openDoor n s).alarm.pending[Source.forced n] = true := by
  rw [openDoor_secured state]
  refine ⟨?_, ?_⟩
  · rw [(write_signals _ _ _ _ _).door, (edgeEvent_signals _ _).door, setDoorState_door]
  · exact ((write_affects [] _ _ _ _ _).pendingSame _ List.not_mem_nil (forced_ne_backlog n)).trans
      (setPending_pending true (.inl (forced_ne_backlog n)))

/-! ## A closing (R74) -/

/-- The door stands open. -/
abbrev StandsOpen (s : State) (n : DoorNo) : Prop :=
  s.doors[n].state = .opened ∨ s.doors[n].state = .held ∨ s.doors[n].state = .forced

theorem standsOpen_iff : standsOpen s n = true ↔ StandsOpen s n := by
  unfold standsOpen StandsOpen
  cases s.doors[n].state <;> simp

/-- The held timer stopped and the condition cleared, as the door closes. -/
def unheld (n : DoorNo) (s : State) : State := setHeldCondition n false (s.modDoor n fun d => { d with heldTimer := none })

theorem unheld_door : (unheld n s).doors[n] = { s.doors[n] with heldTimer := none } := by
  unfold unheld setHeldCondition
  rw [(setCondition_signals _ _ _).door, modDoor_door]

theorem unheld_frame (n : DoorNo) (s : State) : DoorFrame s (unheld n s) :=
  (modDoor_frame n _ s).trans (Frame.setCondition (held_mem n) _ _)

theorem unheld_held : (unheld n s).alarm.condition[Source.held n] = false := setHeldCondition_held false _

theorem closeDoor_overridden (stands : StandsOpen s n) (under : overridden s n = true) :
    closeDoor n s = setDoorState n .released (unheld n s) :=
  (if_pos (standsOpen_iff.2 stands)).trans (if_pos under)

theorem closeDoor_plain (stands : StandsOpen s n) (plain : overridden s n = false) :
    closeDoor n s = serve (relock n (setDoorState n .securing (unheld n s))) :=
  (if_pos (standsOpen_iff.2 stands)).trans (if_neg (by rw [plain]; nofun))

theorem closeDoor_shut (shut : ¬ StandsOpen s n) : closeDoor n s = s := if_neg fun stands => shut (standsOpen_iff.1 stands)

theorem closeDoor_relocked (stands : StandsOpen s n) (plain : overridden s n = false) : Relocked s (closeDoor n s) n := by
  rw [closeDoor_plain stands plain]
  have signals := setCondition_signals (Source.held n) false (s.modDoor n fun d => { d with heldTimer := none })
  refine serve_relock ⟨(unheld_frame n s).trans (setDoorState_frame n .securing _), signals.queue, signals.motions⟩ ?_ ?_
  · rw [setDoorState_door]
  · rw [setDoorState_door, unheld_door]

/-- The entry of a closed door that is to be secured. -/
theorem closeDoor_entry (stands : StandsOpen s n) (plain : overridden s n = false) :
    (closeDoor n s).doors[n].heldTimer = none ∧ (closeDoor n s).doors[n].state ≠ .starting := by
  have entry : (setDoorState n .securing (unheld n s)).doors[n] = { s.doors[n] with state := .securing, heldTimer := none } := by
    rw [setDoorState_door, unheld_door]
  rw [closeDoor_plain stands plain]
  generalize setDoorState n .securing (unheld n s) = u at entry ⊢
  have served := serve_served (n := n) (s := relock n u)
  obtain same | done := relock_door (n := n) (s := u)
  · obtain kept | done := served.securing (by rw [same, entry])
    · rw [kept, same, entry]
      exact ⟨rfl, nofun⟩
    · rw [done]
      exact ⟨rfl, nofun⟩
  · rw [served.rest (rest_secured (by rw [done]; rfl)), done]
    exact ⟨rfl, nofun⟩

theorem relock_alarm : (relock n s).alarm = s.alarm := by
  unfold relock
  split
  · rfl
  · split
    · rfl
    · exact join_alarm _ _

theorem closeDoor_unheld (stands : StandsOpen s n) : (closeDoor n s).doors[n].heldTimer = none ∧
    (closeDoor n s).alarm.condition[Source.held n] = false ∧ (closeDoor n s).doors[n].state ≠ .starting := by
  cases under : overridden s n with
  | true =>
    rw [closeDoor_overridden stands under, setDoorState_door, unheld_door]
    exact ⟨rfl, unheld_held, nofun⟩
  | false =>
    obtain ⟨timer, started⟩ := closeDoor_entry stands under
    refine ⟨timer, ?_, started⟩
    rw [closeDoor_plain stands under, serve_held, relock_alarm]
    exact unheld_held

/-- The closing is told to a zone that waits for it (R28). -/
theorem contactClosed_eq (within : s.store.doors[n].inside = some z) : contactClosed n s = doorClosing z (closeDoor n s) := by
  unfold contactClosed inside
  rw [within]

theorem contactClosed_stays (n : DoorNo) (s : State) : StayFrame (closeDoor n s) (contactClosed n s) := by
  unfold contactClosed
  dsimp only
  split
  · exact doorClosing_stays _ _
  · exact Frame.refl _

theorem doorClosing_grown (z y : Zone) (s : State) (fires : firing s y = true) : firing (doorClosing z s) y = true := by
  unfold doorClosing
  split
  · exact (occupancyCheck_reached z s).firing_grown y fires
  · exact fires

theorem contactClosed_grown (n : DoorNo) (s : State) (y : Zone) (fires : firing s y = true) :
    firing (contactClosed n s) y = true := by
  have kept : firing (closeDoor n s) y = true := by
    unfold firing at fires ⊢
    rwa [(closeDoor_frame n s).release (by decide)]
  unfold contactClosed
  dsimp only
  split
  · exact doorClosing_grown _ y _ kept
  · exact kept

/-! ## The two events -/

/-- The state at the end of an opening's event, but for the gate. -/
def opened (n : DoorNo) (s : State) : State := firstGiven (contactInput n) (contactOpened n (setPhase (contactInput n) .on s))

/-- The state at the end of a closing's event, but for the gate. -/
def closed (n : DoorNo) (s : State) : State := firstGiven (contactInput n) (contactClosed n (setPhase (contactInput n) .idle s))

/-- The door's own part of the two. -/
def doorOpened (n : DoorNo) (s : State) : State := openDoor n (setPhase (contactInput n) .on s)
def doorClosed (n : DoorNo) (s : State) : State := closeDoor n (setPhase (contactInput n) .idle s)

theorem opened_parts (n : DoorNo) (s : State) :
    Frame (.inputs :: .estimate :: RoomParts) roomSources (doorOpened n s) (opened n s) :=
  ((contactOpened_parts n _).mono (fun _ => List.mem_cons_of_mem _) fun _ h => h).trans
    (firstGiven_frame List.mem_cons_self _ _)

theorem closed_parts (n : DoorNo) (s : State) : Frame (.inputs :: StayParts) staySources (doorClosed n s) (closed n s) :=
  ((contactClosed_stays n _).mono (fun _ => List.mem_cons_of_mem _) fun _ h => h).trans
    (firstGiven_frame List.mem_cons_self _ _)

theorem opened_gate (follows : GateFollows s) :
    settleGate (opened n s) = { opened n s with gateClosed := anyFiring (opened n s) } :=
  settleGate_grown follows (((opened_parts n s).gateClosed (by decide)).trans ((openDoor_frame n _).gateClosed (by decide)))
    (contactOpened_holdsOnly n (setPhase (contactInput n) .on s)).firing

theorem closed_gate (follows : GateFollows s) :
    settleGate (closed n s) = { closed n s with gateClosed := anyFiring (closed n s) } :=
  settleGate_grown follows (((closed_parts n s).gateClosed (by decide)).trans ((closeDoor_frame n _).gateClosed (by decide)))
    (contactClosed_grown n (setPhase (contactInput n) .idle s))

theorem validationExpiry_contact (validate : s.inputs[contactInput n].phase = .validate)
    (started : s.doors[n].state ≠ .starting) : expireValidation (contactInput n) s = opened n s := by
  have door : (opened n s).doors[n] = (doorOpened n s).doors[n] := by rw [(opened_parts n s).doors (by decide)]
  refine (expireValidation_contact validate).trans (trySettle_settled (s := opened n s) ?_)
  rw [door]
  exact openDoor_started (s := setPhase (contactInput n) .on s) started

theorem debounceExpiry_contact (releasing : s.inputs[contactInput n].phase = .debounceOff)
    (started : s.doors[n].state ≠ .starting) : expireDebounce (contactInput n) s = closed n s := by
  have door : (closed n s).doors[n] = (doorClosed n s).doors[n] := by rw [(closed_parts n s).doors (by decide)]
  refine (expireDebounce_contact releasing).trans (trySettle_settled (s := closed n s) ?_)
  rw [door]
  by_cases stands : StandsOpen s n
  · exact (closeDoor_unheld (s := setPhase (contactInput n) .idle s) stands).2.2
  · rw [doorClosed, closeDoor_shut (s := setPhase (contactInput n) .idle s) stands]
    exact started

theorem forced_not_room (n : DoorNo) : Source.forced n ∉ roomSources := by revert n; decide
theorem held_not_stays (n : DoorNo) : Source.held n ∉ staySources := by revert n; decide
theorem contact_ne_bolt (n m : DoorNo) : contactInput n ≠ boltInput m := by revert n m; decide
theorem contact_ne_abort (n : DoorNo) (z : Zone) : contactInput n ≠ abortInput z := by revert n z; decide
theorem Relocked.of_contact {p : Phase} (h : Relocked (setPhase (contactInput n) p s) t n) (doors : u.doors = t.doors)
    (queue : u.queue = t.queue) (motions : u.motions = t.motions) (contact : contactOpen u n = contactOpen t n) :
    Relocked s u n := by
  have thrown : boltThrown (setPhase (contactInput n) p s) n = boltThrown s n := by
    unfold boltThrown active setPhase
    rw [State.modInput_inputs, upd_other _ _ _ _ (contact_ne_bolt n n)]
  unfold Relocked Coming boltMotor at h ⊢
  rw [thrown] at h
  rw [doors, queue, motions, contact]
  exact h

theorem closed_contact (n m : DoorNo) (s : State) : contactOpen (closed n s) m = contactOpen (doorClosed n s) m := by
  have same : (contactClosed n (setPhase (contactInput n) .idle s)).inputs = (doorClosed n s).inputs :=
    (contactClosed_stays n _).inputs (by decide)
  unfold contactOpen active closed firstGiven
  rw [State.modInput_inputs, upd_get, same]
  split
  · next here => rw [here]
  · rfl

theorem contact_ne_contact (other : n ≠ m) : contactInput n ≠ contactInput m := fun same =>
  other (Fin.ext (congrArg (fun i : InputNo => i.val) same))

theorem contactOpen_setPhase_idle (m : DoorNo) :
    contactOpen (setPhase (contactInput n) .idle s) m = (decide (m ≠ n) && contactOpen s m) := by
  unfold contactOpen active
  by_cases here : m = n
  · subst here
    rw [setPhase_phase, decide_eq_false (Classical.not_not.2 rfl), Bool.false_and]
    rfl
  · have other : (setPhase (contactInput n) .idle s).inputs[contactInput m] = s.inputs[contactInput m] :=
      upd_other _ _ _ _ (contact_ne_contact (Ne.symm here))
    rw [other, decide_eq_true here, Bool.true_and]

/-- The last open door of the zone has closed. -/
theorem zoneDoorOpen_closed (others : ∀ m : DoorNo, m ≠ n → s.store.doors[m].inside = some z → contactOpen s m = false) :
    zoneDoorOpen (doorClosed n s) z = false := by
  have frame := closeDoor_frame n (setPhase (contactInput n) .idle s)
  unfold zoneDoorOpen
  rw [List.any_eq_false]
  intro m mem
  have within : s.store.doors[m].inside = some z := by
    have own := of_decide_eq_true (List.mem_filter.1 mem).2
    unfold inside at own
    rwa [doorClosed, frame.store_eq] at own
  have contact : contactOpen (doorClosed n s) m = contactOpen (setPhase (contactInput n) .idle s) m :=
    active_congr frame.inputs_eq _
  rw [contact, contactOpen_setPhase_idle]
  by_cases here : m = n
  · rw [decide_eq_false (Classical.not_not.2 here)]
    nofun
  · rw [others m here within, Bool.and_false]
    nofun

theorem occupancyOutcome_closed (z : Zone) : occupancyOutcome (doorClosed n s) z = occupancyOutcome s z := by
  have frame := closeDoor_frame n (setPhase (contactInput n) .idle s)
  have held : abortHeld (doorClosed n s) z = abortHeld s z :=
    (active_congr frame.inputs_eq _).trans (abortHeld_setPhase (contact_ne_abort n z))
  have occupancy : (doorClosed n s).occupancy = s.occupancy := frame.occupancy (by decide)
  unfold occupancyOutcome dischargeOutcome
  rw [held, occupancy]

/-- The closing of the last open door ends a zone's wait for it (R30). -/
theorem closed_arrived (within : s.store.doors[n].inside = some z)
    (hold : s.release[z].state = .doorHold)
    (others : ∀ m : DoorNo, m ≠ n → s.store.doors[m].inside = some z → contactOpen s m = false) :
    Arrived s (settleGate (closed n s)) z (occupancyOutcome s z) := by
  have frame := closeDoor_frame n (setPhase (contactInput n) .idle s)
  have release : (doorClosed n s).release = s.release := frame.release (by decide)
  have checks : contactClosed n (setPhase (contactInput n) .idle s) = occupancyCheck z (doorClosed n s) :=
    (contactClosed_eq (s := setPhase (contactInput n) .idle s) within).trans
      (if_pos ⟨by rw [show (closeDoor n (setPhase (contactInput n) .idle s)).release = s.release from release]; exact hold,
        zoneDoorOpen_closed others⟩)
  have reached := occupancyCheck_reached z (doorClosed n s)
  rw [occupancyOutcome_closed, ← checks] at reached
  have given : Reached (doorClosed n s) (closed n s) z (occupancyOutcome s z) _ :=
    ⟨reached.release, reached.estimate, reached.used, reached.check, reached.run, reached.pending⟩
  refine given.arrived (by rw [doorClosed, frame.store_eq]; rfl) ?_ (fun y _ => by rw [release]) (settleGate_later _)
    (fun _ => settleGate_discharge z _) (given.closes (.refl _))
  unfold dischargeBank bankAvailable bankUsed bankFlagged circuitFlagged
  rw [doorClosed, frame.store_eq, frame.flags (by decide)]
  rfl

end

end Sys2Proof.Machine

namespace Sys2Proof.Proofs

open Sys2Proof.Machine

/-- Settles O23, by the door's state: what else the event does leaves the door alone, and nothing is served at its end. -/
theorem doorContactActs : Obligations.DoorContactActs := by
  refine ⟨fun s n follows validate started => ?_, fun s n follows releasing started => ?_⟩
  · have event := validationExpiry_contact validate started
    have frame := (expireValidation_frame (contactInput n) s).settleGate_input
    rw [event] at frame
    have parts := opened_parts n s
    have gate := opened_gate (n := n) follows
    have doors : (settleGate (opened n s)).doors[n] = (doorOpened n s).doors[n] := by rw [gate, ← parts.doors (by decide)]
    have queue : (settleGate (opened n s)).queue[n] = (doorOpened n s).queue[n] := by rw [gate, ← parts.queue (by decide)]
    have motions : (settleGate (opened n s)).motions[n] = (doorOpened n s).motions[n] := by
      rw [gate, ← parts.motions (by decide)]
    refine ⟨_, congrArg finish event, frame, fun letGo => ?_, fun secured => ?_, fun securing => ?_, fun open_ => ?_,
      fun z within steps => ?_⟩
    · have opens := openDoor_letGo (s := setPhase (contactInput n) .on s) letGo
      rw [doors, queue, motions, doorOpened, opens, enterOpen_drive.1, enterOpen_drive.2, enterOpen_door, modDoor_door,
        overridden_modDoor]
      exact ⟨rfl, rfl, rfl⟩
    · obtain ⟨entry, pending⟩ := openDoor_forced (s := setPhase (contactInput n) .on s) secured
      refine ⟨doors.trans entry, ?_⟩
      rw [gate]
      exact (parts.pendingSame _ (forced_not_room n) (forced_ne_backlog n)).trans pending
    · have opens := openDoor_securing (s := setPhase (contactInput n) .on s) securing
      rw [doors, queue, doorOpened, opens, enterOpen_drive.1, enterOpen_door]
      exact ⟨rfl, removeThrow_queue⟩
    · rw [doors, doorOpened, openDoor_open (s := setPhase (contactInput n) .on s) open_]
      rfl
    · rw [gate]
      exact contactOpened_tells (s := setPhase (contactInput n) .on s) within steps
  · intro open_
    have event := debounceExpiry_contact releasing started
    have frame := (expireDebounce_frame (contactInput n) s).settleGate_input
    rw [event] at frame
    have parts := closed_parts n s
    have gate := closed_gate (n := n) follows
    have doors : (settleGate (closed n s)).doors[n] = (doorClosed n s).doors[n] := by rw [gate, ← parts.doors (by decide)]
    refine ⟨_, congrArg finish event, frame, fun stands => ?_, fun stands under => ?_, fun stands plain => ?_, fun shut => ?_,
      fun z within hold others => closed_arrived within hold others⟩
    · obtain ⟨timer, held, _⟩ := closeDoor_unheld (s := setPhase (contactInput n) .idle s) stands
      refine ⟨by rw [doors]; exact timer, ?_⟩
      rw [gate]
      exact (parts.conditionSame _ (held_not_stays n) (held_ne_backlog n)).trans held
    · rw [doors, doorClosed, closeDoor_overridden (s := setPhase (contactInput n) .idle s) stands under, setDoorState_door,
        unheld_door]
      exact ⟨rfl, rfl⟩
    · have relocked := closeDoor_relocked (s := setPhase (contactInput n) .idle s) stands plain
      refine relocked.of_contact ?_ ?_ ?_ ?_
      · rw [gate]
        exact parts.doors (by decide)
      · rw [gate]
        exact parts.queue (by decide)
      · rw [gate]
        exact parts.motions (by decide)
      · rw [gate]
        exact closed_contact n n s
    · rw [doors, doorClosed, closeDoor_shut (s := setPhase (contactInput n) .idle s) shut]
      rfl

end Sys2Proof.Proofs
end

section
/-! The lock outputs (R67, R69). -/

namespace Sys2Proof.Machine

section
variable {s t : State} {n : DoorNo}

theorem lockOutput_marked (lock : s.store.doors[n].lock = .strike) (started : s.doors[n].state ≠ .starting)
    (marked : s.doors[n].mark ≠ none) : lockOutput s n = some .dropped := by
  rw [lockOutput_settled (motorBolt_of_strike lock) started, if_pos (Option.isSome_iff_ne_none.2 marked)]

theorem lockOutput_unmarked (lock : s.store.doors[n].lock = .strike) (started : s.doors[n].state ≠ .starting)
    (unmarked : s.doors[n].mark = none) : lockOutput s n = some .energized := by
  rw [lockOutput_settled (motorBolt_of_strike lock) started, unmarked]
  rfl

/-- A pulsed strike is dropped (R70, R81). -/
theorem pulseDoor_strike (lock : s.store.doors[n].lock = .strike) (secured : s.doors[n].state = .secured) :
    (pulseDoor n s).doors[n].state = .released ∧ (pulseDoor n s).doors[n].mark ≠ none := by
  have written := writeConfig_signals n.val (.door .pulse) s
  unfold pulseDoor
  generalize writeConfig n.val (.door .pulse) s = u at written ⊢
  have door := releaseLock_strike_door (s := u) (n := n) (by rwa [written.door]) (by rwa [written.store]) .access
  rw [serve_rest (rest_released (by rw [door])), door]
  exact ⟨rfl, nofun⟩

/-- A freed strike is dropped (R79, R81). -/
theorem freeDoor_strike (lock : s.store.doors[n].lock = .strike) (secured : s.doors[n].state = .secured)
    (plain : overridden s n = false) :
    (freeDoor n s).doors[n].state = .released ∧ (freeDoor n s).doors[n].mark ≠ none := by
  have now : freeDoor n s = overrideStart n (setFree n .free true s) := if_neg (by rw [plain]; nofun)
  have door := setFree_door (n := n) (s := s) .free true
  have settings : (setFree n .free true s).store = s.store := (setFree_frame n .free true s).store_eq
  rw [now]
  refine ⟨overrideStart_strike (by rw [door]; exact secured) (by rwa [settings]), ?_⟩
  rw [(overrideStart_mark (n := n) (s := setFree n .free true s) (overridden_iff.2 (.inr (by rw [door])))).1]
  nofun

end

end Sys2Proof.Machine

namespace Sys2Proof.Proofs

open Sys2Proof.Machine

/-- Settles O32: the output is read off the door's state and mark, which the events before have left. -/
theorem lockOutputsFollowDoors : Obligations.LockOutputsFollowDoors := by
  refine ⟨fun s n => ⟨fun lock => lockOutput_motorBolt (motorBolt_of_bolt lock), fun lock starting => ?_,
      fun lock started => ⟨lockOutput_marked lock started, lockOutput_unmarked lock started⟩⟩,
    fun s n lock sound => ⟨fun secured => ⟨?_, fun plain => ?_, fun clear => ?_, fun follows validate => ?_⟩,
      fun released runs => ?_⟩⟩
  · rw [lockOutput_starting (motorBolt_of_strike lock) starting]
    exact ⟨fun fail => by rw [fail]; rfl, fun fail => by rw [fail]; rfl⟩
  · exact lockOutput_unmarked lock (by rw [secured]; nofun) (sound.1 n secured)
  · obtain ⟨state, marked⟩ := freeDoor_strike lock secured plain
    refine ⟨_, congrArg Host.Outcome.next (doorFree_eq (by rw [secured]; nofun)), lockOutput_marked ?_ ?_ marked⟩
    · rw [reply_store, (freeDoor_frame n s).store_eq]
      exact lock
    · rw [reply_doors, state]
      nofun
  · obtain ⟨state, marked⟩ := pulseDoor_strike lock secured
    have settings := (pulseDoor_frame n s).store_eq
    refine ⟨_, congrArg Host.Outcome.next (doorPulse_served (.inl secured) clear), ?_⟩
    generalize pulseDoor n s = u at state marked settings ⊢
    refine lockOutput_marked ?_ ?_ marked
    · rw [reply_store, settings]
      exact lock
    · rw [reply_doors, state]
      nofun
  · obtain ⟨t, answer, frame, _, forces, _⟩ := doorContactActs.1 s n follows validate (by rw [secured]; nofun)
    obtain ⟨door, _⟩ := forces secured
    refine ⟨t, answer, by rw [door], lockOutput_unmarked ?_ (by rw [door]; nofun) ?_⟩
    · rw [(frame.settings (by decide)).doors]
      exact lock
    · rw [door]
      exact sound.1 n secured
  · have strike := expireWindow_strike runs released lock
    have door : (expireWindow n s).doors[n] = (windowOver n s).doors[n].secured := by rw [strike, secureDoor_door]
    refine ⟨_, rfl, lockOutput_unmarked ?_ ?_ ?_⟩
    · rw [(expireWindow_frame n s).store_eq]
      exact lock
    · rw [door]
      nofun
    · rw [door]
      rfl

end Sys2Proof.Proofs
end

section
/-! POWER_ON with no input active: the journal of the start, and the doors as their first readings find them (R47, R91,
R92, R183). -/

namespace Sys2Proof.Machine

section
variable {s t u e : State} {n m : DoorNo} {i : InputNo} {z : Zone}

/-! ## The journal of the start (R183) -/

/-- No circuit is under check, and the journal is this one. -/
def Unchecked (j : Journal) (s : State) : Prop := (∀ c : CircuitNo, checking s c = false) ∧ s.journal = j

theorem unchecked_lamp {j : Journal} : LampClosed (Unchecked j) where
  output _ h := h
  alarm _ _ h := h

theorem Unchecked.setCondition {j : Journal} (h : Unchecked j s) (src : Source) (b : Bool) :
    Unchecked j (setCondition src b s) :=
  unchecked_lamp.setConditionWith (fun c h => by rwa [abandonCheck_idle (h.1 c)]) src b h

/-- With no circuit under check a write's own record is all that it adds. -/
theorem Unchecked.write {j : Journal} (h : Unchecked j s) (k : RecordKind) (a b : Nat) (d : Detail) :
    Unchecked (pushRecord k a b d s).journal (write k a b d s) := by
  refine Unchecked.setCondition ⟨fun c => ?_, rfl⟩ _ _
  unfold checking
  rw [pushRecord_run]
  exact h.1 c

/-- The journal of a part whose clock is unset ends with these records, written since `j`. -/
structure Journalled (j : Journal) (records : List Record) (u : State) : Prop where
  unchecked : ∀ c : CircuitNo, checking u c = false
  unset : u.clock.set = false
  newest : u.journal.newest = j.newest + records.length
  boundary : u.journal.boundary = j.boundary
  ring : ∃ before, u.journal.ring = before ++ records

/-- The record that the part writes next while its clock is unset. -/
abbrev undated (sequence : Nat) (k : RecordKind) (a b : Nat) (d : Detail) : Record := ⟨sequence, 0, 0, k, a, b, d⟩

theorem Journalled.write {j : Journal} {records : List Record} (h : Journalled j records u)
    (room : j.newest + records.length < 4294967295) (few : records.length < 1024) (k : RecordKind) (a b : Nat) (d : Detail) :
    Journalled j (records ++ [undated (j.newest + records.length + 1) k a b d]) (write k a b d u) := by
  obtain ⟨unchecked, unset, newest, boundary, before, ring⟩ := h
  obtain ⟨unchecked', journal⟩ := Unchecked.write ⟨unchecked, rfl⟩ k a b d
  have next : nextRecord u k a b d = undated (j.newest + records.length + 1) k a b d := by
    unfold nextRecord
    rw [unset, newest]
    rfl
  have pushed : (pushRecord k a b d u).journal = { u.journal with
      ring := ringPush u.journal.ring (nextRecord u k a b d), newest := u.journal.newest + 1 } := by
    unfold pushRecord
    rw [if_pos (by rw [newest]; exact room)]
  rw [pushed, next] at journal
  refine ⟨unchecked', ?_, ?_, ?_, ?_⟩
  · rw [(write_signals _ _ _ _ _).clock]
    exact unset
  · rw [journal, List.length_append, newest]
    rfl
  · rw [journal]
    exact boundary
  · refine ⟨before.drop (if u.journal.ring.length < 1024 then 0 else 1), ?_⟩
    have fits : (if u.journal.ring.length < 1024 then 0 else 1) ≤ before.length := by
      have total := congrArg List.length ring
      rw [List.length_append] at total
      split <;> omega
    rw [journal, ringPush_eq]
    generalize (if u.journal.ring.length < 1024 then 0 else 1) = lost at fits ⊢
    rw [ring, List.drop_append_of_le_length fits, List.append_assoc]

/-- The ZONE_STATE record of a restored zone. -/
abbrev zoneRecord (j : Journal) (z : Zone) (st : ReleaseState) : Record :=
  undated (j.newest + z.val + 2) .zoneState (z.val + 1) 0 (.state st)

theorem Journalled.announce {j : Journal} {records : List Record} (h : Journalled j records u)
    (inTurn : records.length = z.val + 1) (room : j.newest + 5 ≤ 4294967295) :
    Journalled j (records ++ [zoneRecord j z u.release[z].state]) (announceZone z u) := by
  have written := h.write (by omega) (by omega) .zoneState (z.val + 1) 0 (.state u.release[z].state)
  rwa [inTurn] at written

theorem announceZone_release (z : Zone) (u : State) : (announceZone z u).release = u.release :=
  (write_signals _ _ _ _ _).release

/-- The four zones are announced one after the other. -/
theorem Journalled.announceAll {j : Journal} {first : Record} (h : Journalled j [first] u)
    (room : j.newest + 5 ≤ 4294967295) :
    Journalled j (first :: allZones.map fun z => zoneRecord j z u.release[z].state) (forEach allZones announceZone u) := by
  have one := h.announce (z := 0) rfl room
  have two := one.announce (z := 1) rfl room
  have three := two.announce (z := 2) rfl room
  have four := three.announce (z := 3) rfl room
  simp only [announceZone_release] at four
  have zones : allZones = [0, 1, 2, 3] := rfl
  rw [zones]
  simp only [forEach_cons, forEach_nil, List.map_cons, List.map_nil]
  simpa only [List.cons_append, List.nil_append] using four

theorem Journalled.setCondition {j : Journal} {records : List Record} (h : Journalled j records u) (src : Source) (b : Bool) :
    Journalled j records (setCondition src b u) := by
  obtain ⟨unchecked, journal⟩ := Unchecked.setCondition ⟨h.unchecked, rfl⟩ src b
  exact ⟨unchecked, by rw [(setCondition_signals _ _ _).clock]; exact h.unset, by rw [journal]; exact h.newest,
    by rw [journal]; exact h.boundary, by rw [journal]; exact h.ring⟩

theorem Journalled.evaluateZone {j : Journal} {records : List Record} (h : Journalled j records u) (z : Zone) :
    Journalled j records (evaluateZone z u) :=
  have period : Journalled j records (u.setPeriod z (derivedPeriod u z)) := ⟨h.unchecked, h.unset, h.newest, h.boundary, h.ring⟩
  (period.setCondition _ _).setCondition _ _

/-- The records that a start on stored settings writes. -/
abbrev startRecords (s : State) : List Record :=
  undated (s.journal.newest + 1) .powerOn 0 0 .stored ::
    allZones.map fun z => zoneRecord s.journal z (restored s.store.records[z].state)

theorem loadStore_stored (written : s.store.written = true) : loadStore s.store = { s.store with written := true } := by
  unfold loadStore
  rw [if_pos written]

section
variable (straps : BitVec 5) (levels : BitVec 48)

theorem coldStart_release (written : s.store.written = true) (z : Zone) :
    (coldStart straps levels s).release[z] = Release.fresh (restored s.store.records[z].state) := by
  unfold coldStart
  rw [loadStore_stored written]
  exact Vector.getElem_map _ _

theorem coldStart_checking (c : CircuitNo) : checking (coldStart straps levels s) c = false := by
  refine decide_eq_false fun h => ?_
  have waiting : (coldStart straps levels s).line.run.results[c] = .waiting := (Vector.getElem_ofFn _).trans rfl
  rw [waiting] at h
  exact h.2.elim nofun nofun

theorem evaluated_journalled (written : s.store.written = true) (room : s.journal.newest + 5 ≤ 4294967295) :
    Journalled s.journal (startRecords s) (evaluated straps levels s) := by
  have journal : (coldStart straps levels s).journal = s.journal := if_pos written
  have begun : Journalled s.journal [] (coldStart straps levels s) :=
    ⟨coldStart_checking straps levels, rfl, by rw [journal]; rfl, by rw [journal], _, (by rw [journal, List.append_nil])⟩
  have on := begun.write (by rw [List.length_nil]; omega) (by decide) .powerOn 0 0 .stored
  have announced := on.announceAll room
  have release (z : Zone) : (write .powerOn 0 0 .stored (coldStart straps levels s)).release[z].state =
      restored s.store.records[z].state := by
    rw [(write_signals _ _ _ _ _).release, coldStart_release straps levels written]
    rfl
  simp only [release] at announced
  unfold evaluated clockCondition
  rw [if_pos written]
  refine Journalled.setCondition ?_ _ _
  exact forEach_closed (P := Journalled s.journal (startRecords s)) (fun z u h => h.evaluateZone z) allZones announced

end

end

end Sys2Proof.Machine
end

section
/-! POWER_ON with no input active: the first readings find every door shut and every bolt back (R8, R88, R92). -/

namespace Sys2Proof.Machine

section
variable {s t u e : State} {n m : DoorNo} {i : InputNo}

/-! ## Serving throws that no sense confirms (R84, R85) -/

/-- Every bolt shows back, and the queue holds throws only. -/
structure Unbolted (u : State) : Prop where
  away : ∀ n : DoorNo, boltThrown u n = false
  throws : ∀ (n : DoorNo) (r : BoltRequest), u.queue[n] = some r → r.motion = .throw

/-- Doors, journal and inputs are as they were. -/
structure Undisturbed (s t : State) : Prop where
  doors : t.doors = s.doors
  journal : t.journal = s.journal
  inputs : t.inputs = s.inputs
  unbolted : Unbolted t

theorem setQueue_throws {r : Option BoltRequest} (h : ∀ (n : DoorNo) (r : BoltRequest), s.queue[n] = some r → r.motion = .throw)
    (own : ∀ q, r = some q → q.motion = .throw) (m : DoorNo) (q : BoltRequest) (queued : (s.setQueue n r).queue[m] = some q) :
    q.motion = .throw := by
  rw [State.setQueue_queue, upd_get] at queued
  split at queued
  · exact own q queued
  · exact h m q queued

theorem startMotion_undisturbed (h : Unbolted s) (n : DoorNo) : Undisturbed s (startMotion n s) := by
  cases queued : s.queue[n] with
  | none =>
    have stays : startMotion n s = s := by
      unfold startMotion
      rw [queued]
    rw [stays]
    exact ⟨rfl, rfl, rfl, h⟩
  | some r =>
    have away : confirms s n r.motion = false := by
      rw [h.throws n r queued]
      exact h.away n
    rw [startMotion_unconfirmed queued away]
    exact ⟨rfl, rfl, rfl, h.away, setQueue_throws h.throws nofun⟩

theorem serve_undisturbed (h : Unbolted s) : Undisturbed s (serve s) :=
  serve_induction (P := Undisturbed s) (fun m u _ same => by
    have step := startMotion_undisturbed same.unbolted m
    exact ⟨step.doors.trans same.doors, step.journal.trans same.journal, step.inputs.trans same.inputs, step.unbolted⟩)
    ⟨rfl, rfl, rfl, h⟩

theorem joinThrow_undisturbed (h : Unbolted s) (n : DoorNo) : Undisturbed s (joinThrow n s) := by
  have queues (q : BoltRequest) (throw : q.motion = .throw) : Undisturbed s (s.setQueue n (some q)) :=
    ⟨rfl, rfl, rfl, h.away, setQueue_throws h.throws fun p same => by cases same; exact throw⟩
  unfold joinThrow join
  split
  · split
    · exact queues _ rfl
    · exact queues _ rfl
  · split
    · exact ⟨rfl, rfl, rfl, h⟩
    · exact queues _ rfl
  · exact queues _ rfl

/-! ## Settling a shut door whose bolt is back (R88, R92) -/

/-- The state in which such a door settles. -/
def shutState (s : State) (n : DoorNo) : DoorState := if motorBolt s n then .securing else .secured

theorem Unbolted.modDoor (h : Unbolted s) (n : DoorNo) (f : Door → Door) : Unbolted (s.modDoor n f) := ⟨h.away, h.throws⟩

/-- What settling such a door does to its entry, its journal and its inputs. -/
structure SettledShut (n : DoorNo) (s t : State) : Prop where
  doors : t.doors = upd s.doors n fun _ => Door.fresh (shutState s n)
  journal : t.journal = s.journal
  inputs : t.inputs = s.inputs
  unbolted : Unbolted t

theorem settleDoor_shut (unbolted : Unbolted s) (shut : contactOpen s n = false) (fresh : s.doors[n] = Door.fresh .starting) :
    settleDoor n s =
      if motorBolt s n then joinThrow n (setDoorState n .securing (s.modDoor n fun d => { d with window := none, heldTimer := none }))
      else secureDoor n (s.modDoor n fun d => { d with window := none, heldTimer := none }) := by
  have plain : overridden (s.modDoor n fun d => { d with window := none, heldTimer := none }) n = false := by
    rw [overridden_modDoor]
    change (s.doors[n].egress || s.doors[n].free) = false
    rw [fresh]
    rfl
  have closed_ : contactOpen (s.modDoor n fun d => { d with window := none, heldTimer := none }) n = false := shut
  unfold settleDoor
  dsimp only
  rw [closed_, plain, unbolted.away n, Bool.not_false, Bool.and_true]
  rfl

theorem serve_settleDoor_shut (unbolted : Unbolted s) (shut : contactOpen s n = false)
    (fresh : s.doors[n] = Door.fresh .starting) : SettledShut n s (serve (settleDoor n s)) := by
  have doors (f : Door → Door) (g : Door → Door) (same : g (f (Door.fresh .starting)) = Door.fresh (shutState s n)) :
      ((s.modDoor n f).modDoor n g).doors = upd s.doors n fun _ => Door.fresh (shutState s n) := by
    rw [modDoor_modDoor, State.modDoor_doors]
    exact upd_congr (by rw [fresh]; exact same)
  have served (u : State) (entry : u.doors = upd s.doors n fun _ => Door.fresh (shutState s n)) (journal : u.journal = s.journal)
      (inputs : u.inputs = s.inputs) (h : Unbolted u) : SettledShut n s (serve u) :=
    have same := serve_undisturbed h
    ⟨same.doors.trans entry, same.journal.trans journal, same.inputs.trans inputs, same.unbolted⟩
  rw [settleDoor_shut unbolted shut fresh]
  by_cases bolt : motorBolt s n = true
  · rw [if_pos bolt]
    have joined := joinThrow_undisturbed ((unbolted.modDoor n fun d => { d with window := none, heldTimer := none }).modDoor n
      fun d => { d with state := .securing }) n
    refine served _ (joined.doors.trans (doors _ _ ?_)) joined.journal joined.inputs joined.unbolted
    unfold shutState
    rw [if_pos bolt]
    rfl
  · rw [if_neg bolt]
    refine served _ (doors _ _ ?_) rfl rfl ((unbolted.modDoor n _).modDoor n _)
    unfold shutState
    rw [if_neg bolt]
    rfl

/-! ## The first readings (R8, R92) -/

/-- Where a door stands while the first readings go on. -/
def dawnState (s : State) (n : DoorNo) : DoorState := if inputsSettled s n then shutState s n else .starting

/-- The part while it reads its inputs for the first time, none of them active. -/
structure Asleep (e u : State) : Prop where
  frame : Frame [.inputs, .doors] doorSources e u
  journal : u.journal = e.journal
  idle : ∀ i : InputNo, u.inputs[i].phase = .idle
  raw : ∀ i : InputNo, u.inputs[i].raw ≠ e.store.inputs[i].active
  doors : ∀ n : DoorNo, u.doors[n] = Door.fresh (dawnState u n)
  throws : ∀ (n : DoorNo) (r : BoltRequest), u.queue[n] = some r → r.motion = .throw

theorem active_of_idle (idle : s.inputs[i].phase = .idle) : active s i = false := by
  unfold active
  rw [idle]
  rfl

section
variable (asleep : Asleep e u)
include asleep

/-- An inactive input that rests is not moved by its level. -/
theorem Asleep.firstReading_noted (i : InputNo) : firstReading i u = noteFirst i u := by
  have inactive : rawActive u i = false := by
    refine decide_eq_false ?_
    rw [(asleep.frame.settings (by decide)).inputs]
    exact asleep.raw i
  have unjudged : judgeRaw i u = u := by
    rw [judgeRaw_idle (asleep.idle i), inactive]
    rfl
  unfold firstReading
  rw [unjudged]

theorem Asleep.firstReading_eq (i : InputNo) : firstReading i u =
    match waitingDoor i with
    | some n => trySettle n (firstGiven i u)
    | none => firstGiven i u := by
  rw [asleep.firstReading_noted]
  exact noteFirst_rest (by rw [asleep.idle i]; rfl)

end

theorem firstGiven_inputs (j : InputNo) : (firstGiven i u).inputs[j] =
    if i = j then { u.inputs[j] with first := true } else u.inputs[j] := by
  unfold firstGiven
  rw [State.modInput_inputs]
  by_cases here : i = j
  · subst here
    rw [upd_same, if_pos rfl]
  · rw [upd_other _ _ _ _ here, if_neg here]

theorem firstGiven_phase (j : InputNo) : (firstGiven i u).inputs[j].phase = u.inputs[j].phase := by
  rw [firstGiven_inputs]
  split <;> rfl

theorem firstGiven_raw (j : InputNo) : (firstGiven i u).inputs[j].raw = u.inputs[j].raw := by
  rw [firstGiven_inputs]
  split <;> rfl

theorem firstGiven_first (j : InputNo) : (firstGiven i u).inputs[j].first = (decide (i = j) || u.inputs[j].first) := by
  rw [firstGiven_inputs]
  by_cases here : i = j
  · rw [if_pos here, decide_eq_true here]
    rfl
  · rw [if_neg here, decide_eq_false here]
    rfl

theorem waitingDoor_contact (n : DoorNo) : waitingDoor (contactInput n) = some n := by revert n; decide
theorem waitingDoor_bolt (n : DoorNo) : waitingDoor (boltInput n) = some n := by revert n; decide

/-- The first value of an input that the door does not wait for. -/
theorem inputsSettled_other (other : waitingDoor i ≠ some m) : inputsSettled (firstGiven i u) m = inputsSettled u m := by
  have contact : i ≠ contactInput m := fun same => other (by rw [same, waitingDoor_contact])
  have bolt : i ≠ boltInput m := fun same => other (by rw [same, waitingDoor_bolt])
  unfold inputsSettled
  rw [firstGiven_first, firstGiven_first, decide_eq_false contact, decide_eq_false bolt, Bool.false_or, Bool.false_or]
  rfl

theorem inputsSettled_mono (settled : inputsSettled u m = true) : inputsSettled (firstGiven i u) m = true := by
  unfold inputsSettled at settled ⊢
  obtain ⟨contact, bolt⟩ := Bool.and_eq_true_iff.1 settled
  rw [firstGiven_first, firstGiven_first, contact, Bool.or_true, Bool.true_and]
  obtain strike | first := Bool.or_eq_true_iff.1 bolt
  · exact Bool.or_eq_true_iff.2 (.inl strike)
  · rw [first, Bool.or_true, Bool.or_true]

theorem dawnState_congr (settled : inputsSettled t n = inputsSettled s n) (settings : t.store.doors = s.store.doors) :
    dawnState t n = dawnState s n := by
  unfold dawnState shutState motorBolt
  rw [settled, settings]

theorem inputsSettled_congr (inputs : t.inputs = s.inputs) (settings : t.store.doors = s.store.doors) :
    inputsSettled t n = inputsSettled s n := by
  unfold inputsSettled motorBolt
  rw [inputs, settings]

/-- The sleeping part with an input's first value given and no door settled by it. -/
theorem Asleep.given (asleep : Asleep e u) (doors : ∀ n : DoorNo, dawnState (firstGiven i u) n = dawnState u n) :
    Asleep e (firstGiven i u) where
  frame := asleep.frame.trans (firstGiven_frame List.mem_cons_self i u)
  journal := asleep.journal
  idle j := (firstGiven_phase j).trans (asleep.idle j)
  raw j := by
    rw [firstGiven_raw]
    exact asleep.raw j
  doors n := by
    rw [doors n]
    exact asleep.doors n
  throws := asleep.throws

/-- A door that has all its first values settles; one that has settled before stays (R92). -/
theorem Asleep.trySettle (asleep : Asleep e u) (waits : waitingDoor i = some n) :
    Asleep e (Machine.trySettle n (firstGiven i u)) := by
  have others (m : DoorNo) (apart : m ≠ n) : inputsSettled (firstGiven i u) m = inputsSettled u m :=
    inputsSettled_other fun same => apart (Option.some.inj (same.symm.trans waits))
  by_cases settles : (firstGiven i u).doors[n].state = .starting ∧ inputsSettled (firstGiven i u) n = true
  · have shut : contactOpen (firstGiven i u) n = false :=
      active_of_idle ((firstGiven_phase _).trans (asleep.idle _))
    have now : Machine.trySettle n (firstGiven i u) = serve (settleDoor n (firstGiven i u)) := by
      unfold Machine.trySettle
      rw [if_pos settles]
      exact if_neg (by rw [shut]; nofun)
    have frame : DoorFrame (firstGiven i u) (serve (settleDoor n (firstGiven i u))) :=
      (settleDoor_frame n _).trans (serve_frame _)
    have unbolted : Unbolted (firstGiven i u) :=
      ⟨fun m => active_of_idle ((firstGiven_phase _).trans (asleep.idle _)), asleep.throws⟩
    have fresh : (firstGiven i u).doors[n] = Door.fresh .starting := by
      have entry : (firstGiven i u).doors[n] = Door.fresh (dawnState u n) := asleep.doors n
      have starting := settles.1
      rw [entry] at starting ⊢
      exact congrArg Door.fresh starting
    obtain ⟨doors, journal, inputs, kept⟩ := serve_settleDoor_shut unbolted shut fresh
    rw [now]
    generalize serve (settleDoor n (firstGiven i u)) = w at frame doors journal inputs kept ⊢
    have settings : w.store.doors = (firstGiven i u).store.doors := by rw [frame.store_eq]
    refine ⟨(asleep.frame.trans (firstGiven_frame List.mem_cons_self i u)).trans
      (frame.mono (by decide) fun _ h => h), journal.trans asleep.journal, fun j => ?_, fun j => ?_, fun m => ?_, kept.throws⟩
    · rw [inputs, firstGiven_phase]
      exact asleep.idle j
    · rw [inputs, firstGiven_raw]
      exact asleep.raw j
    · by_cases here : m = n
      · subst here
        have settled := (inputsSettled_congr (n := m) inputs settings).trans settles.2
        have state : dawnState w m = shutState (firstGiven i u) m := by
          unfold dawnState shutState motorBolt
          rw [if_pos settled, settings]
        rw [doors, upd_same, state]
      · have settled := (inputsSettled_congr (n := m) inputs settings).trans (others m here)
        rw [doors, upd_other _ _ _ _ (Ne.symm here), dawnState_congr (s := u) settled settings]
        exact asleep.doors m
  · have now : Machine.trySettle n (firstGiven i u) = firstGiven i u := if_neg settles
    rw [now]
    refine asleep.given fun m => ?_
    by_cases here : m = n
    · subst here
      by_cases before : inputsSettled u m = true
      · exact dawnState_congr ((inputsSettled_mono before).trans before.symm) rfl
      · have starting : (firstGiven i u).doors[m].state = .starting :=
          (congrArg Door.state (asleep.doors m)).trans (if_neg before)
        have after : ¬ inputsSettled (firstGiven i u) m = true := fun settled => settles ⟨starting, settled⟩
        exact (if_neg after).trans (if_neg before).symm
    · exact dawnState_congr (others m here) rfl

theorem Asleep.firstReading (asleep : Asleep e u) (i : InputNo) : Asleep e (firstReading i u) := by
  rw [asleep.firstReading_eq]
  cases waits : waitingDoor i with
  | none => exact asleep.given fun n => dawnState_congr (inputsSettled_other (by rw [waits]; nofun)) rfl
  | some n => exact asleep.trySettle waits

/-- A first reading gives the input its first value. -/
theorem Asleep.firstReading_first (asleep : Asleep e u) (i j : InputNo) :
    (Machine.firstReading i u).inputs[j].first = (decide (i = j) || u.inputs[j].first) := by
  by_cases here : i = j
  · subst here
    rw [asleep.firstReading_noted, noteFirst_inputs, upd_same, asleep.idle, decide_eq_true rfl, Bool.true_or]
    exact Bool.or_true _
  · rw [firstReading_other (Ne.symm here), decide_eq_false here, Bool.false_or]

theorem Asleep.firstReadings : ∀ (l : List InputNo) {u : State}, Asleep e u → Asleep e (forEach l Machine.firstReading u) ∧
    ∀ j : InputNo, j ∈ l ∨ u.inputs[j].first = true → (forEach l Machine.firstReading u).inputs[j].first = true
  | [], _, asleep => ⟨asleep, fun _ given => given.resolve_left List.not_mem_nil⟩
  | i :: l, u, asleep => by
    obtain ⟨rest, firsts⟩ := Asleep.firstReadings l (asleep.firstReading i)
    rw [forEach_cons]
    refine ⟨rest, fun j given => firsts j ?_⟩
    rw [asleep.firstReading_first, Bool.or_eq_true, decide_eq_true_eq]
    obtain listed_ | first := given
    · exact (List.mem_cons.1 listed_).elim (fun same => .inr (.inl same.symm)) .inl
    · exact .inr (.inr first)

/-- When every input has been read, every door has settled shut. -/
theorem Asleep.awake (asleep : Asleep e u) : ∀ n : DoorNo,
    (forEach allInputs Machine.firstReading u).doors[n] = Door.fresh (shutState e n) := by
  obtain ⟨read, firsts⟩ := Asleep.firstReadings allInputs asleep
  intro n
  have settings := (read.frame.settings (by decide)).doors
  generalize forEach allInputs Machine.firstReading u = w at read firsts settings ⊢
  have settled : inputsSettled w n = true := by
    unfold inputsSettled
    rw [firsts _ (.inl (List.mem_finRange _)), firsts _ (.inl (List.mem_finRange _)), Bool.or_true]
    rfl
  rw [read.doors n]
  unfold dawnState shutState motorBolt
  rw [if_pos settled, settings]

end

end Sys2Proof.Machine
end

section
/-! POWER_ON with no input active: what the whole event leaves of zones, doors and journal (R47, R64, R91, R183). -/

namespace Sys2Proof.Machine

section
variable {s : State}

theorem restored_eq (st : ReleaseState) : restored st = if st = .discharge then .soak else st := by
  cases st <;> rfl

theorem restoredEstimate_eq (st : ReleaseState) : restoredEstimate st =
    if st = .soak ∨ st = .soakDone ∨ st = .vent then ⟨10000, 0, false, false, some 10⟩ else ⟨0, 0, false, false, none⟩ := by
  cases st <;> rfl

section
variable (straps : BitVec 5) (levels : BitVec 48) (written : s.store.written = true)
include written

theorem coldStart_records (z : Zone) : (coldStart straps levels s).store.records[z] =
    { s.store.records[z] with state := restored s.store.records[z].state } := by
  unfold coldStart
  rw [loadStore_stored written]
  exact Vector.getElem_map _ _

theorem coldStart_estimate (z : Zone) : (coldStart straps levels s).estimate[z] =
    restoredEstimate (restored s.store.records[z].state) := by
  unfold coldStart
  rw [loadStore_stored written]
  exact Vector.getElem_map _ _

theorem evaluated_settings : SameSettings s.store (evaluated straps levels s).store := by
  rw [(evaluated_evaluates straps levels s).store]
  have settings := coldStart_settings straps levels s
  rw [if_pos written] at settings
  exact { settings with written := settings.written.trans written.symm }

/-- The part is asleep when its first readings begin, where no wired level is an active one. -/
theorem evaluated_asleep (quiet : ∀ i : InputNo, wired levels i ≠ s.store.inputs[i].active) :
    Asleep (evaluated straps levels s) (evaluated straps levels s) := by
  have evaluates := evaluated_evaluates straps levels s
  have settings := (evaluated_settings straps levels written).inputs
  have input (i : InputNo) : (evaluated straps levels s).inputs[i] = ⟨wired levels i, .idle, false⟩ := by
    rw [evaluates.frame.inputs (by decide), coldStart_idle]
  have queue (n : DoorNo) : (evaluated straps levels s).queue[n] = none := by
    rw [evaluates.frame.queue (by decide)]
    exact Vector.getElem_replicate _
  have door (n : DoorNo) : (evaluated straps levels s).doors[n] = Door.fresh .starting := by
    rw [evaluates.doors, coldStart_door]
  generalize evaluated straps levels s = e at settings input queue door ⊢
  have unsettled (n : DoorNo) : dawnState e n = .starting := by
    refine if_neg ?_
    unfold inputsSettled
    rw [input]
    nofun
  refine ⟨Frame.refl e, rfl, fun i => by rw [input], fun i => ?_, fun n => by rw [door, unsettled], fun n r queued => ?_⟩
  · rw [input, settings]
    exact quiet i
  · rw [queue] at queued
    cases queued

theorem powerOn_settled (quiet : ∀ i : InputNo, wired levels i ≠ s.store.inputs[i].active) :
    exec (.powerOn straps levels) s = .next (powerOn straps levels s) := by
  have evaluates := (evaluated_evaluates straps levels s).frame
  have read := ((evaluated_asleep straps levels written quiet).firstReadings allInputs).1.frame
  rw [← powerOn_eq] at read
  have release := (read.release (by decide)).trans (evaluates.release (by decide))
  have gate : (powerOn straps levels s).gateClosed = false :=
    (read.gateClosed (by decide)).trans (evaluates.gateClosed (by decide))
  refine finish_of_follows (gate.trans (Bool.eq_false_iff.2 fun fires => ?_).symm)
  obtain ⟨z, fires⟩ := anyFiring_iff.1 fires
  rw [release, coldStart_release straps levels written] at fires
  cases fires

end

end

end Sys2Proof.Machine

namespace Sys2Proof.Proofs

open Sys2Proof.Machine

/-- Settles O5: zones and records stand as the start restored them, the journal holds what the start wrote, and the first
readings settle every door shut. -/
theorem powerOnRestoresZonesAndDoors : Obligations.PowerOnRestoresZonesAndDoors := by
  intro s straps levels written quiet room
  have asleep := evaluated_asleep straps levels written quiet
  have read := (asleep.firstReadings allInputs).1
  have awake := asleep.awake
  rw [← powerOn_eq] at read awake
  have evaluates := evaluated_evaluates straps levels s
  have journalled := evaluated_journalled straps levels written room
  have settings := (evaluated_settings straps levels written).doors
  refine ⟨_, powerOn_settled straps levels written quiet, ?_⟩
  have release := (read.frame.release (by decide)).trans (evaluates.frame.release (by decide))
  have estimate := (read.frame.estimate (by decide)).trans (evaluates.frame.estimate (by decide))
  have records := (read.frame.records (by decide)).trans (evaluates.frame.records (by decide))
  have journal := read.journal
  have shut (n : DoorNo) : shutState (evaluated straps levels s) n =
      if s.store.doors[n].lock = .motorBolt then .securing else .secured := by
    unfold shutState motorBolt
    rw [settings]
    simp only [decide_eq_true_eq]
  generalize powerOn straps levels s = t at awake release estimate records journal ⊢
  generalize evaluated straps levels s = e at awake journal journalled shut
  obtain ⟨_, _, newest, boundary, before, ring⟩ := journalled
  have held {r : Record} (mem : r ∈ startRecords s) : r ∈ t.journal.ring := by
    rw [journal, ring]
    exact List.mem_append_right _ mem
  refine ⟨fun z => ?_, held List.mem_cons_self, ?_, ?_, fun n => ?_⟩
  · intro st
    have state : restored s.store.records[z].state = st := restored_eq _
    refine ⟨?_, ?_, ?_, held (List.mem_cons_of_mem _ ?_)⟩
    · rw [release, coldStart_release straps levels written, state]
      rfl
    · rw [records, coldStart_records straps levels written, state]
    · rw [estimate, coldStart_estimate straps levels written, state, restoredEstimate_eq]
    · rw [← state]
      exact List.mem_map_of_mem (f := fun z => zoneRecord s.journal z (restored s.store.records[z].state)) (List.mem_finRange z)
  · rw [journal, newest]
    rfl
  · rw [journal, boundary]
  · rw [awake n, shut n]
    exact ⟨rfl, rfl, rfl, rfl⟩

end Sys2Proof.Proofs
end
